-- ==== Sys2Proof/Word.lean ====
section
/-!
DEFINITION. The words of the part: bytes, the 16-bit and 32-bit fields of its payloads, and its two ports.
-/

namespace Sys2Proof

/-- One byte of a link frame. -/
abbrev Byte := BitVec 8

/-- A 16-bit field: streams, handles, digests, counters, reminder steps, sector sequences. -/
abbrev Half := BitVec 16

/-- A 32-bit field: the epoch count, wall time, cells. -/
abbrev Word := BitVec 32

/-- The two link ports: `m` faces the modem, `p` faces the application processor. -/
inductive Port where
  | m
  | p
deriving DecidableEq, Repr

end Sys2Proof
end

