-- ==== Sys2Proof/Syntax.lean ====
section
/-!
DEFINITION. The commands of the part: one constructor for each row of spec/opcode_table.json, in the table's order.

The table gives its rows no bits and no fields. A constructor's operands are what the OUTSIDE brings to the event: the
byte on a receive line, the level of a hold input, the rate pins a reset samples, the verify result the nonvolatile array gives.
What an event finds inside the part (the request at the head of the request queue, the oldest fragment, the oldest key) is no
operand: the meaning reads it from the state.
-/

namespace Sys2Proof

/-- What the verifies of a slot program found (R172, R173): both passed, the first (fields and slot check) failed, or the
second (commit mark) failed. -/
inductive SlotVerify where
  | passed
  | fieldsFailed
  | markFailed
deriving DecidableEq, Repr

/-- The events and operations of the part, one for each row of the opcode table. -/
inductive Instr where
  /-- The supply rises. `rate`: the pins RATE1 (bit 1) and RATE0 (bit 0) when the reset ends. `wornSpares`: of the ERASED sectors
  the scan tries to open in turn, how many fail their opening amend twice (R179, R188). -/
  | powerOnReset (rate : BitVec 2) (wornSpares : Nat)
  /-- RSTN is held low and released; operands as for `powerOnReset`. -/
  | pinReset (rate : BitVec 2) (wornSpares : Nat)
  | scanEnd
  | epoch
  | contextTimeout
  | expirySweep
  | positionStale
  | heldLifetimeEnd
  | recordExpiry
  | flushCountdown
  | reminderStep
  /-- The second length byte of a frame, on a port. -/
  | headerEnd (port : Port) (byte : Byte)
  /-- The second check byte of a frame, on a port. -/
  | frameEnd (port : Port) (byte : Byte)
  | gapError (port : Port)
  | mSorter
  | pSorter
  /-- MHI or PHI takes a level; `true` is asserted. -/
  | holdInput (port : Port) (level : Bool)
  | pPortArbiter
  | mPortArbiter
  | frameSent (port : Port)
  /-- `interrupted`: other events come between a digest match of the fragment and its completion classification (R36). -/
  | takeFragment (interrupted : Bool)
  | getStatus
  | getCounters
  | setTime
  | setPosition
  | loadWindow
  | muteWindow
  | readWindow
  | provision
  | lockProvision
  | acknowledge
  | fetchRecord
  | flushAlerts
  | configure
  | clearHistory
  /-- A RESET request. `verify`: the verify result of a program or amend the soft reset waits for (R190, R202), if one runs.
  `rate`, `wornSpares`: as for `powerOnReset`. -/
  | reset (rate : BitVec 2) (verify : SlotVerify) (wornSpares : Nat)
  | unknownRequest
  | historyWrite
  | slotProgramEnd (verify : SlotVerify)
  | headerAmend
  | headerAmendEnd (passed : Bool)
  | eraseStart
  /-- A SUSPENDING erase stops with this running time, in microseconds. -/
  | eraseSuspend (ranMicros : Nat)
  | eraseResume
  | minimumRunEnd
  | eraseEnd (passed : Bool)
  | provisioningProgram
  | provisioningProgramEnd (passed : Bool)
  /-- Any byte but a second length byte or a second check byte, on a port. -/
  | byteReceived (port : Port) (byte : Byte)
  | powerLoss
deriving DecidableEq, Repr

end Sys2Proof
end

