-- ==== Sys2Proof/WellFormed.lean ====
section
/-!
DEFINITION. Which commands the outside can bring. An operand out of these ranges names no event of the part; a meaning given such
an operand is still total.
-/

namespace Sys2Proof

/-- A reset's scan has at most four ERASED sectors to try (R170, R188). -/
def Instr.sparesInRange : Instr → Bool
  | .powerOnReset _ n => n ≤ 4
  | .pinReset _ n => n ≤ 4
  | .reset _ _ n => n ≤ 4
  | _ => true

/-- An erase that stops for a suspension has not reached its 24 ms of running time (R174). -/
def Instr.stopBeforeEnd : Instr → Bool
  | .eraseSuspend t => t < 24000
  | _ => true

/-- A command the outside can bring. -/
def Instr.wellFormed (i : Instr) : Bool :=
  i.sparesInRange && i.stopBeforeEnd

end Sys2Proof
end

