-- ==== Sys2Proof/Decode.lean ====
section
/-!
DEFINITION. The commands a word of the opcode table spells. Every row of spec/opcode_table.json has an empty list of fields and no
fixed bits: a command of this block is an event, and no word spells one.
-/

namespace Sys2Proof

/-- The command that a word of `nbits` bits spells by the table's bits: none, since the table gives no row any bits. -/
def decodeTableWord (_nbits _w : Nat) : Option Instr := none

end Sys2Proof
end

