-- ==== Sys2Proof/Machine/Bytes.lean ====
section
/-!
DEFINITION. Byte order, the check of R2, and the numbers payload bytes carry.
-/

namespace Sys2Proof.Machine

/-- A multi-byte field as an unsigned number, most significant byte first ("Byte order" of the conventions). -/
def beNat (bytes : List Byte) : Nat :=
  bytes.foldl (fun n b => n * 256 + b.toNat) 0

/-- A 16-bit field, most significant byte first. -/
def half (hi lo : Byte) : Half := hi ++ lo

/-- A 32-bit field, most significant byte first. -/
def word (b3 b2 b1 b0 : Byte) : Word := b3 ++ b2 ++ b1 ++ b0

/-- The bytes of a 16-bit field. -/
def halfBytes (h : Half) : List Byte :=
  [h.extractLsb' 8 8, h.extractLsb' 0 8]

/-- The bytes of a 32-bit field. -/
def wordBytes (w : Word) : List Byte :=
  [w.extractLsb' 24 8, w.extractLsb' 16 8, w.extractLsb' 8 8, w.extractLsb' 0 8]

/-- A number in one byte. -/
def byteOf (n : Nat) : Byte := BitVec.ofNat 8 n

/-- A number in one 16-bit field. -/
def halfOf (n : Nat) : Half := BitVec.ofNat 16 n

/-- A flag in one byte. -/
def byteOfBool (b : Bool) : Byte := if b then 1 else 0

/-- One bit step of the check: shift left and, where a 1 leaves at the top, add the polynomial x^12 + x^5 + 1 (R2). -/
def checkShift (c : Half) : Half :=
  if c.msb then (c <<< 1) ^^^ 0x1021 else c <<< 1

/-- The check after one further byte, taken most significant bit first without reflection (R2). -/
def checkByte (c : Half) (b : Byte) : Half :=
  let x := c ^^^ (b ++ (0 : Byte))
  checkShift (checkShift (checkShift (checkShift (checkShift (checkShift (checkShift (checkShift x)))))))

/-- The starting value of the check (R2). -/
def checkStart : Half := 0xFFFF

/-- The check over bytes in wire order (R2). -/
def checkOf (bytes : List Byte) : Half := bytes.foldl checkByte checkStart

end Sys2Proof.Machine
end

