-- ==== Sys2Proof/Config.lean ====
section
/-!
DEFINITION. What the spec leaves open: free values, each a constant with no body, so that nothing can be proved of what it is. The
capacities and timings the spec fixes stand beside them.
-/

namespace Sys2Proof.Config

/-- The places of the nonvolatile array whose content can be unknown after a cut or a failed program (R170). -/
inductive Location where
  /-- Whether a cut slot reads as blank (R190). -/
  | slotBlank (sector slot : Nat)
  /-- Whether a slot whose program was cut, or whose commit mark failed its verify, reads as committed (R178, R190). -/
  | slotCommitted (sector slot : Nat)
  /-- Whether the sequence field of a header amend that was cut or failed reads as programmed (R171). -/
  | sequence (sector : Nat)
  /-- Whether the mark of a header amend that was cut or failed reads as programmed (R171). -/
  | mark (sector : Nat)
  /-- Whether a sector whose erase was cut or failed still reads as it did before the erase (R190). -/
  | erase (sector : Nat)
  /-- Whether a provisioning copy whose program was cut reads as committed (R185, R190). -/
  | copy (slot copy : Nat)
  /-- Whether a lock mark that was cut or failed its verify reads as programmed (R186). -/
  | lock (slot : Nat)
deriving DecidableEq, Repr

/-- FREE VALUE. What the scan after the n-th reset finds at a place whose content is unknown (R170). -/
opaque unknownReads : Nat → Location → Bool

/-- FREE VALUE. The epoch count less an earlier moment, where the count has wrapped past that moment: R63 and R94 subtract, and do not
say what the difference is then. Arguments: the epoch count, the moment. -/
opaque ageAcrossWrap : Word → Word → Nat

/-- FREE VALUE. The lifetime end of a record whose lifetime runs past the last epoch count: R117 adds, and does not say what a sum
above 4,294,967,295 is held as. Arguments: the epoch count, the lifetime in seconds. -/
opaque lifetimeEndAcrossWrap : Word → Nat → Word

/-- The part of the state of a receive FIFO, forward buffer or queue that bounds it (Table 2, R7, R13, R41, R70, R154, R158, R192). -/
def fifoCapacity : Nat := 2048
def forwardToPCapacity : Nat := 4096
def forwardToMCapacity : Nat := 2048
def intakeCapacity : Nat := 16
def indexCapacity : Nat := 160
def heldCapacity : Nat := 8
def receiptCapacity : Nat := 16
def reportCapacity : Nat := 32
def requestCapacity : Nat := 4
def replyCapacity : Nat := 4
def writeListCapacity : Nat := 16

/-- An erase's running time and its minimum run after a resumption, in microseconds (R173, R175). -/
def eraseMicros : Nat := 24000
def minimumRunMicros : Nat := 1000

end Sys2Proof.Config
end

