-- ==== Sys2Proof/Machine/State.lean ====
section
/-!
DEFINITION. The state of the part: every register, FIFO, buffer, queue, counter, mode and pin the spec gives its eleven blocks, as
plain data, and the state right after a power-on reset. INVENTORY.md gives the rule and the reset value of each field.
-/

namespace Sys2Proof.Machine

/-! ## Why a step can stop -/

/-- A fault. No event the spec describes stops the part, so no meaning answers with one: an event whose conditions do not hold does
not take place and leaves the state as it is (log entry 1). -/
inductive Fault where
  /-- Raised by nothing; it keeps the type inhabited. Safe: the machine would stop where the part goes on. -/
  | none
deriving DecidableEq, Repr

/-- A refusal. -/
inductive Refusal where
  /-- Raised by an arm of `exec` whose command has no meaning yet. Safe: the machine stops. -/
  | notModelled (mnemonic : String)
deriving DecidableEq, Repr

/-! ## Link path -/

/-- A link frame without its sync, length and check, which follow from these (R2, R19). -/
structure Frame where
  channel : Byte
  payload : List Byte
deriving DecidableEq, Repr

/-- The frame a receiver takes in after its header: `room` is false when it was refused room (R8), `check` the check of R2 over the
bytes so far, `count` the payload bytes taken, `kept` those stored. -/
structure Incoming where
  channel : Byte
  length : Nat
  room : Bool
  check : Half
  count : Nat
  kept : List Byte
deriving DecidableEq, Repr

/-- A port receiver (R3). -/
inductive Receiver where
  | hunt
  /-- The channel and first length byte taken so far. -/
  | header (kept : List Byte)
  | payload (frame : Incoming)
  /-- The first check byte, once taken. -/
  | check (frame : Incoming) (first : Option Byte)
deriving DecidableEq, Repr

/-- A receive FIFO (R7): complete frames, oldest first, and the room reserved for the frame being taken in. -/
structure Fifo where
  frames : List Frame
  reserved : Nat
deriving DecidableEq, Repr

/-- What a frame being sent is, which decides what is done with at its end (R15). -/
inductive Source where
  | forwarded
  | reply
  | receipt
  | delivery
  | report
deriving DecidableEq, Repr

/-- A frame a transmitter is sending. -/
structure Sending where
  source : Source
  frame : Frame
deriving DecidableEq, Repr

/-- The counters LINK-M or LINK-P, in the order of R20. -/
structure LinkCounters where
  accepted : Half
  headerErrors : Half
  checkErrors : Half
  gapErrors : Half
  overruns : Half
  misdirected : Half
  forwarded : Half
  sent : Half
deriving DecidableEq, Repr

/-- One port: receiver, receive FIFO, transmitter, hold input (MHI, PHI), hold output (MHO, PHO) and counters. A hold line is `true`
while asserted. -/
structure PortState where
  receiver : Receiver
  fifo : Fifo
  sending : Option Sending
  holdIn : Bool
  holdOut : Bool
  counters : LinkCounters
deriving DecidableEq, Repr

/-- The link path: the ports, the forward buffers M→P (`toP`) and P→M (`toM`), and the arbiters' flags (R16, R18). -/
structure Link where
  m : PortState
  p : PortState
  toP : List Frame
  toM : List Frame
  lastForwarded : Bool
  lastReceipt : Bool
deriving DecidableEq, Repr

/-! ## Configuration items (R203) -/

/-- What becomes of an unlisted fragment (R28). -/
inductive UnlistedAction where
  | discard
  | forward
deriving DecidableEq, Repr

/-- A port's hold marks in bytes (R10). -/
structure Marks where
  high : Nat
  low : Nat
deriving DecidableEq, Repr

/-- One flag for each wake cause, in the order of priority (R164, R165). -/
structure WakeCauses where
  alert : Bool
  report : Bool
  reply : Bool
  backlog : Bool
deriving DecidableEq, Repr

/-- The configuration items. -/
structure Settings where
  marksM : Marks
  marksP : Marks
  backlogMark : Nat
  contextTimeout : Nat
  positionMaxAge : Nat
  unlistedAction : UnlistedAction
  wakeEnables : WakeCauses
deriving DecidableEq, Repr

/-! ## Window unit -/

/-- The classes, most important first (R30). -/
inductive AlertClass where
  | national
  | extreme
  | severe
  | advisory
  | local
  | test
deriving DecidableEq, Repr

/-- How a verdict of EDGE or UNKNOWN is handled. -/
inductive Policy where
  | present
  | hold
deriving DecidableEq, Repr

/-- Which receipts are sent toward the modem. -/
inductive ReceiptMode where
  | none
  | delivered
  | acked
  | both
deriving DecidableEq, Repr

/-- The attributes of a window that a record keeps a copy of (R37). -/
structure Attributes where
  cls : AlertClass
  muted : Bool
  reportDelay : Nat
  periodCode : Nat
  reminderCount : Nat
  edgePolicy : Policy
  unknownPolicy : Policy
  receiptMode : ReceiptMode
  defaultLifetime : Nat
deriving DecidableEq, Repr

/-- A window (Table 2-1). -/
structure Window where
  valid : Bool
  base : Half
  mask : Half
  attrs : Attributes
  horizon : Nat
deriving DecidableEq, Repr

/-- The window table: W0 to W15 and V0 to V3. -/
structure Windows where
  ordinary : List Window
  override : List Window
deriving DecidableEq, Repr

/-- The identity of a window: W0 to W15 or V0 to V3 (R25). -/
inductive WindowName where
  | ordinary (n : Nat)
  | override (n : Nat)
deriving DecidableEq, Repr

/-! ## Alert keys and the reassembly unit -/

/-- The reach of an alert with the place fields its key includes (R46). -/
inductive Scope where
  | cell (zone : Half) (cell : Word)
  | zone (zone : Half)
  | nation
deriving DecidableEq, Repr

/-- The alert key (R46): two keys are one key when they are equal. -/
structure Key where
  stream : Half
  issue : BitVec 12
  language : Half
  scope : Scope
deriving DecidableEq, Repr

/-- A vertex of an area, in microdegrees (R96). -/
structure Vertex where
  lat : Int
  lon : Int
deriving DecidableEq, Repr

/-- A COLLECTING context (Table 3-1). `parts` is the fragment status list with the text buffer: entry i − 1 is `none` while part i is
NOT-RECEIVED and its text once RECEIVED; its length is the total n. -/
structure Context where
  key : Key
  revision : BitVec 4
  digest : Half
  lifetimeCode : Byte
  rank : Nat
  errors : Nat
  sequence : Half
  progress : Word
  zone : Half
  cell : Word
  parts : List (Option (List Byte))
  trailer : Option (List Vertex)
deriving DecidableEq, Repr

/-- The INTAKE counters, in the order of R66. -/
structure IntakeCounters where
  taken : Half
  malformed : Half
  unlisted : Half
  rawForwarded : Half
  unlistedDropped : Half
  withdrawals : Half
  earlyDuplicates : Half
  duplicateFragments : Half
  totalMismatches : Half
  conflicts : Half
  digestMismatches : Half
  completions : Half
  failed : Half
  timedOut : Half
  evicted : Half
  contextShed : Half
  stale : Half
  unlistedAtCompletion : Half
deriving DecidableEq, Repr

/-- The reassembly unit: the payloads of the intake queue, the eight contexts (`none` is FREE), the allocation counter, the context whose
digest has matched and whose completion is still to be settled (R36, R58). -/
structure Intake where
  queue : List (List Byte)
  contexts : List (Option Context)
  allocations : Half
  completing : Option Nat
  counters : IntakeCounters
deriving DecidableEq, Repr

/-! ## Revision unit -/

/-- Whether the last revision of an entry was a notice or a withdrawal. -/
inductive EntryState where
  | noticeSeen
  | withdrawn
deriving DecidableEq, Repr

/-- The fields of a history entry that a slot of the array holds (R69, R172). -/
structure EntryFields where
  key : Key
  revision : BitVec 4
  state : EntryState
  time : Word
  horizon : Nat
  timeUnset : Bool
  expiry : Word
deriving DecidableEq, Repr

/-- A history entry (Table 4-1); `location` is a sector and a slot. -/
structure Entry where
  fields : EntryFields
  persisted : Bool
  location : Option (Nat × Nat)
deriving DecidableEq, Repr

/-- The HISTORY counters: 1 to 10 in the order of R90, 11 to 19 in the order of R191. -/
structure HistoryCounters where
  noticesNew : Half
  noticesNewer : Half
  noticesReissued : Half
  withdrawalsOrphan : Half
  withdrawalsApplied : Half
  withdrawalsRaised : Half
  withdrawalsStale : Half
  withdrawalsDuplicate : Half
  entriesExpired : Half
  indexEvictions : Half
  writesCommitted : Half
  programFailures : Half
  writeDeferrals : Half
  erasesCompleted : Half
  eraseFailures : Half
  eraseSuspensions : Half
  provisioningPrograms : Half
  provisioningFailures : Half
  scanVoidSlots : Half
deriving DecidableEq, Repr

/-- The history index in index order (R70), and the HISTORY counters of the revision unit and the history store. -/
structure Index where
  entries : List Entry
  counters : HistoryCounters
deriving DecidableEq, Repr

/-! ## Area unit -/

inductive PositionState where
  | none
  | fresh
  | stale
deriving DecidableEq, Repr

/-- The position record (R92). -/
structure Position where
  state : PositionState
  lat : Int
  lon : Int
  uncertainty : Nat
  arrival : Word
deriving DecidableEq, Repr

inductive Verdict where
  | noArea
  | unknown
  | inside
  | edge
  | outside
deriving DecidableEq, Repr

/-- The area unit's counters, in the order of R113. -/
structure AreaCounters where
  positionUpdates : Half
  positionsStale : Half
  areaIgnored : Half
  recordsHeld : Half
  recordsReleased : Half
  heldOverflow : Half
  heldLifetimeEnded : Half
deriving DecidableEq, Repr

structure Area where
  position : Position
  counters : AreaCounters
deriving DecidableEq, Repr

/-! ## Record unit -/

/-- Completion codes (Table 6-2). -/
inductive Code where
  | acknowledged
  | expired
  | superseded
  | withdrawn
  | outOfArea
  | muted
  | displaced
  | flushed
deriving DecidableEq, Repr

/-- The states of a record in a slot (R119). -/
inductive RecordState where
  | held
  | waiting
  | delivering
  | delivered
deriving DecidableEq, Repr

/-- A slot and the generation it has (R115). -/
structure Handle where
  generation : Byte
  slot : Nat
deriving DecidableEq, Repr

/-- A record (Table 6-1). `redeliver` carries the first part, `reminder` the step at which reminder-pending was set, `entered` the
moment of entry into the active list, counted in entries since the reset. -/
structure Record where
  handle : Option Handle
  key : Key
  zone : Half
  cell : Word
  revision : BitVec 4
  attrs : Attributes
  text : List Byte
  area : Option (List Vertex)
  verdict : Option Verdict
  lifetimeEnd : Word
  state : RecordState
  undelivered : Bool
  redeliver : Option Nat
  reminder : Option Half
  remindersLeft : Nat
  deliveryStep : Half
  ackDeferred : Bool
  latched : Option Code
  entered : Nat
deriving DecidableEq, Repr

/-- The delivery sequence in progress (R123): the slot of its record, its part count N, and the parts still to be taken, in order. -/
structure Delivery where
  slot : Nat
  count : Nat
  left : List Nat
deriving DecidableEq, Repr

/-- The record unit's counters, in the order of R137. -/
structure RecordCounters where
  created : Half
  firstDeliveries : Half
  redeliveries : Half
  remindersSent : Half
  acknowledged : Half
  expired : Half
  superseded : Half
  withdrawn : Half
  outOfArea : Half
  muted : Half
  displaced : Half
  flushed : Half
  receiptsDropped : Half
  reportOverflow : Half
deriving DecidableEq, Repr

/-- The record unit: the generations of the 24 slots, the free list, the active list, the held list (of the area unit), the record
whose completion is latched, the delivery sequence, the number of entries into the active list, the counters. -/
structure Records where
  generations : List Byte
  free : List Nat
  active : List Record
  held : List Record
  latched : Option Record
  delivery : Option Delivery
  entries : Nat
  counters : RecordCounters
deriving DecidableEq, Repr

/-! ## Acknowledgement unit -/

inductive ReceiptKind where
  | delivered
  | acknowledged
deriving DecidableEq, Repr

/-- A receipt as it was built (R152). -/
structure Receipt where
  stream : Half
  issueWord : Half
  revision : BitVec 4
  language : Half
  zone : Half
  cell : Word
  kind : ReceiptKind
  wall : Word
deriving DecidableEq, Repr

/-- `step`: the reminder step, which is the epoch count divided by 16 once the increase of this epoch, if it owes one, is made (R145). -/
structure Acknowledgement where
  step : Half
  receipts : List Receipt
deriving DecidableEq, Repr

/-! ## Report unit -/

/-- A completion summary (R130). -/
structure Summary where
  handle : Half
  stream : Half
  issueWord : Half
  revision : BitVec 4
  code : Code
  epoch : Word
deriving DecidableEq, Repr

/-- A summary waiting in the report queue, with the delay it brought (R158). -/
structure QueuedSummary where
  summary : Summary
  delay : Nat
deriving DecidableEq, Repr

/-- The report unit; the flush countdown is `none` while idle (R159). -/
structure Report where
  queue : List QueuedSummary
  countdown : Option Nat
deriving DecidableEq, Repr

/-! ## The nonvolatile array (R170 to R172, R184) -/

/-- A slot of a history sector. -/
inductive Slot where
  | blank
  | void
  | committed (fields : EntryFields)
  /-- The slot program was cut: unknown until the next scan reads it. -/
  | cut (fields : EntryFields)
  /-- The commit mark failed its verify: void now, and a later scan may read it committed (R178). -/
  | markFailed (fields : EntryFields)
deriving DecidableEq, Repr

/-- What a header amend programs (R171, R173). -/
inductive Amend where
  | opening (sequence : Half)
  | full
  | retiring
  | worn
deriving DecidableEq, Repr

/-- A history sector: its header, a header amend that was cut or failed (unknown until the next scan), whether an erase of it was cut
or failed (unknown until the next scan), and its slots. -/
structure Sector where
  sequence : Option Half
  opened : Bool
  full : Bool
  retiring : Bool
  worn : Bool
  doubt : Option Amend
  halfErased : Bool
  slots : List Slot
deriving DecidableEq, Repr

/-- A copy of a provisioning slot. -/
inductive Copy where
  | blank
  | void
  | committed (block : Window)
  /-- The program was cut: unknown until the next scan reads it. -/
  | cut (block : Window)
deriving DecidableEq, Repr

/-- A lock mark; `doubtful` was cut or failed its verify, and a later scan may read it as programmed (R186). -/
inductive LockMark where
  | clear
  | set
  | doubtful
deriving DecidableEq, Repr

structure ProvisioningSlot where
  copies : List Copy
  lock : LockMark
deriving DecidableEq, Repr

structure NvArray where
  sectors : List Sector
  provisioning : List ProvisioningSlot
deriving DecidableEq, Repr

/-! ## History store -/

/-- A header amend waiting or running; `again` marks the one further attempt after a failed verify (R179). -/
structure AmendRequest where
  sector : Nat
  amend : Amend
  again : Bool
deriving DecidableEq, Repr

/-- A history write whose slot program is running: the slot, the fields read at the start, whether it is a retry, and whether the
entry was changed, or removed, since the start (R177, R178). -/
structure SlotProgram where
  sector : Nat
  slot : Nat
  fields : EntryFields
  retry : Bool
  touched : Bool
  removed : Bool
deriving DecidableEq, Repr

/-- The program or amend the controller is running (R173). -/
inductive Running where
  | slotProgram (write : SlotProgram)
  | headerAmend (request : AmendRequest)
  | provisioning
deriving DecidableEq, Repr

/-- The condition of an erase in flight (R174). -/
inductive EraseCondition where
  | running
  | suspending
  | suspended
deriving DecidableEq, Repr

/-- The erase in flight: its running time in microseconds, counted up to the last event that names it, and whether it is in a minimum
run (R175). -/
structure Erase where
  sector : Nat
  condition : EraseCondition
  minimumRun : Bool
  ranMicros : Nat
deriving DecidableEq, Repr

/-- What a provisioning program writes: a copy (numbered from 0) of a block, or the lock mark; `again` marks its second attempt. -/
inductive ProvisioningTarget where
  | copy (number : Nat) (block : Window)
  | lock (again : Bool)
deriving DecidableEq, Repr

/-- A provisioning program in flight, with the tag of the request it answers. -/
structure ProvisioningJob where
  tag : Byte
  slot : Nat
  target : ProvisioningTarget
deriving DecidableEq, Repr

/-- A CLEAR HISTORY in progress, with its tag, and whether its opening (step 4 of R187) has been requested. -/
structure Clear where
  tag : Byte
  opening : Bool
deriving DecidableEq, Repr

/-- The history store's working state. `reclaims`: sectors whose reclaim is in flight. `lastSequence`: the sequence of the last current
sector. `takenWorn`: sectors not used again (R179, R181). `failures`: one failure count for each sector. -/
structure Store where
  running : Option Running
  amends : List AmendRequest
  erases : List Nat
  erase : Option Erase
  reclaims : List Nat
  current : Option Nat
  lastSequence : Option Half
  failures : List Nat
  takenWorn : List Nat
  writes : List Key
  retry : Option Key
  job : Option ProvisioningJob
  clear : Option Clear
  ramOnly : Bool
deriving DecidableEq, Repr

/-! ## Management unit and timebase -/

/-- The management unit: request payloads, reply payloads, and whether a place is reserved for a deferred reply (R192, R193). -/
structure Management where
  requests : List (List Byte)
  replies : List (List Byte)
  reserved : Bool
deriving DecidableEq, Repr

/-- The timebase (R1). -/
structure Timebase where
  epoch : Word
  wall : Word
  timeSet : Bool
deriving DecidableEq, Repr

/-- The MODEL's own (log entry 2): for each event an epoch increase brings about, how many increases it has not yet been taken for; and
whether the decrement of the flush countdown, and the increase of the reminder step, have still to be made for the last increase. -/
structure EpochDue where
  contextTimeout : Nat
  expirySweep : Nat
  positionStale : Nat
  heldLifetimeEnd : Nat
  recordExpiry : Nat
  flushCountdown : Bool
  reminderStep : Bool
deriving DecidableEq, Repr

/-! ## The part -/

/-- The state of the part. `powered`: the supply is there. `scanning`: the scan state is SCANNING. `rate`: the rate pins as sampled.
`wake`: the WAKE output. `due`, `scans` and `pending` are the MODEL's own: the epoch events owed, the number of resets so far (it
numbers the scans for the free values of `Config`), and the commands waiting. -/
structure State where
  powered : Bool
  scanning : Bool
  rate : BitVec 2
  wake : Bool
  link : Link
  settings : Settings
  windows : Windows
  intake : Intake
  index : Index
  area : Area
  records : Records
  ack : Acknowledgement
  report : Report
  array : NvArray
  store : Store
  management : Management
  time : Timebase
  due : EpochDue
  scans : Nat
  pending : List Instr
deriving DecidableEq, Repr

/-! ## Reset values -/

def LinkCounters.zero : LinkCounters := ⟨0, 0, 0, 0, 0, 0, 0, 0⟩

def IntakeCounters.zero : IntakeCounters := ⟨0, 0, 0, 0, 0, 0, 0, 0, 0, 0, 0, 0, 0, 0, 0, 0, 0, 0⟩

def HistoryCounters.zero : HistoryCounters := ⟨0, 0, 0, 0, 0, 0, 0, 0, 0, 0, 0, 0, 0, 0, 0, 0, 0, 0, 0⟩

def AreaCounters.zero : AreaCounters := ⟨0, 0, 0, 0, 0, 0, 0⟩

def RecordCounters.zero : RecordCounters := ⟨0, 0, 0, 0, 0, 0, 0, 0, 0, 0, 0, 0, 0, 0⟩

/-- A port when a reset ends (R21); a hold input is the far end's line and keeps its level. -/
def PortState.reset (holdIn : Bool) : PortState :=
  { receiver := .hunt, fifo := ⟨[], 0⟩, sending := none, holdIn := holdIn, holdOut := false, counters := .zero }

/-- The link path when a reset ends (R21). -/
def Link.reset (mhi phi : Bool) : Link :=
  { m := .reset mhi, p := .reset phi, toP := [], toM := [], lastForwarded := false, lastReceipt := false }

/-- The configuration items at pin reset and power-on reset (R203). -/
def Settings.reset : Settings :=
  { marksM := ⟨1536, 512⟩, marksP := ⟨1536, 512⟩, backlogMark := 1024, contextTimeout := 60, positionMaxAge := 300,
    unlistedAction := .discard, wakeEnables := ⟨true, true, true, true⟩ }

/-- The cleared window (R22). -/
def Window.cleared : Window :=
  { valid := false, base := 0, mask := 0, horizon := 1,
    attrs := { cls := .test, muted := false, reportDelay := 0, periodCode := 0, reminderCount := 0, edgePolicy := .present,
               unknownPolicy := .present, receiptMode := .none, defaultLifetime := 1 } }

/-- The window table when a reset ends (R40). -/
def Windows.reset : Windows :=
  { ordinary := List.replicate 16 .cleared, override := List.replicate 4 .cleared }

/-- The reassembly unit when a reset ends (R68). -/
def Intake.reset : Intake :=
  { queue := [], contexts := List.replicate 8 none, allocations := 0, completing := none, counters := .zero }

/-- The history index when a reset ends, before the scan rebuilds it (R91). -/
def Index.reset : Index := { entries := [], counters := .zero }

/-- The area unit when a reset ends (R114). -/
def Area.reset : Area :=
  { position := { state := .none, lat := 0, lon := 0, uncertainty := 65535, arrival := 0 }, counters := .zero }

/-- The record unit when a reset ends (R138). -/
def Records.reset : Records :=
  { generations := List.replicate 24 0, free := List.range 24, active := [], held := [], latched := none, delivery := none,
    entries := 0, counters := .zero }

/-- The acknowledgement unit when a reset ends (R157). -/
def Acknowledgement.reset : Acknowledgement := { step := 0, receipts := [] }

/-- The report unit when a reset ends (R168). -/
def Report.reset : Report := { queue := [], countdown := none }

/-- The management unit when a reset ends (R204). -/
def Management.reset : Management := { requests := [], replies := [], reserved := false }

/-- The timebase after a pin or power-on reset (R1). -/
def Timebase.reset : Timebase := { epoch := 0, wall := 0, timeSet := false }

def EpochDue.none : EpochDue := ⟨0, 0, 0, 0, 0, false, false⟩

/-- An ERASED sector (R171). -/
def Sector.erased : Sector :=
  { sequence := none, opened := false, full := false, retiring := false, worn := false, doubt := none, halfErased := false,
    slots := List.replicate 64 .blank }

/-- The array as made: everything blank (log entry 5). -/
def NvArray.made : NvArray :=
  { sectors := List.replicate 4 .erased, provisioning := List.replicate 4 ⟨List.replicate 4 .blank, .clear⟩ }

/-- The store's working state with nothing in progress, before the scan looks at the array (R190). -/
def Store.idle : Store :=
  { running := none, amends := [], erases := [], erase := none, reclaims := [], current := none, lastSequence := none,
    failures := [0, 0, 0, 0], takenWorn := [], writes := [], retry := none, job := none, clear := none, ramOnly := false }

/-- The machine right after its first power-on reset: the array is as made, and the first part of the scan has opened sector 0 with
sequence 0 (R188). -/
def State.reset : State :=
  { powered := true, scanning := true, rate := 0, wake := false, link := .reset false false, settings := .reset, windows := .reset,
    intake := .reset, index := .reset, area := .reset, records := .reset, ack := .reset, report := .reset,
    array := { NvArray.made with
      sectors := [{ Sector.erased with sequence := some 0, opened := true }, .erased, .erased, .erased] },
    store := { Store.idle with current := some 0, lastSequence := some 0 },
    management := .reset, time := .reset, due := .none, scans := 0, pending := [] }

end Sys2Proof.Machine
end

