-- ==== Sys2Proof/Machine/Operands.lean ====
section
/-!
DEFINITION. The payload layouts of section 1.9, read and written: link frames, fragments, window blocks, configuration blocks, request
arguments, deliveries, REMIND frames, summaries, receipts.
-/

namespace Sys2Proof.Machine

/-! ## Reading fields -/

/-- The byte at an offset of a payload. -/
def byteAt (p : List Byte) (i : Nat) : Byte := p.getD i 0

/-- The 16-bit field at an offset of a payload. -/
def halfAt (p : List Byte) (i : Nat) : Half := half (byteAt p i) (byteAt p (i + 1))

/-- The 32-bit field at an offset of a payload. -/
def wordAt (p : List Byte) (i : Nat) : Word :=
  word (byteAt p i) (byteAt p (i + 1)) (byteAt p (i + 2)) (byteAt p (i + 3))

/-- The signed 32-bit coordinate at an offset of a payload. -/
def coordinateAt (p : List Byte) (i : Nat) : Int := (wordAt p i).toInt

/-- Whether a latitude and a longitude lie in the ranges of the conventions (R43, R93). -/
def coordinatesInRange (lat lon : Int) : Bool :=
  -90000000 ≤ lat && lat ≤ 90000000 && -180000000 ≤ lon && lon ≤ 180000000

/-! ## Link frames (section 1.1, R19) -/

/-- A frame's size in a FIFO or buffer: its payload length plus 6. -/
def Frame.size (f : Frame) : Nat := f.payload.length + 6

/-- The bytes the check of a frame covers: channel, length and payload (R2). -/
def Frame.checked (f : Frame) : List Byte :=
  f.channel :: (halfBytes (halfOf f.payload.length) ++ f.payload)

/-- The bytes of a frame on the wire (R19). -/
def Frame.wire (f : Frame) : List Byte :=
  0xD3 :: (f.checked ++ halfBytes (checkOf f.checked))

/-- The channels of Table 1-2. -/
def fragmentChannel : Byte := 0xB0
def receiptChannel : Byte := 0xB1
def deliveryChannel : Byte := 0xB4
def reportChannel : Byte := 0xB5
def managementChannel : Byte := 0xB8

/-- Whether a channel lies in the reserved block 0xB0 to 0xBF. -/
def reservedChannel (c : Byte) : Bool := c.extractLsb' 4 4 == (0xB : BitVec 4)

/-! ## Codes of the layouts -/

/-- The class code, which is also the rank (R30). -/
def AlertClass.rank : AlertClass → Nat
  | .national => 0
  | .extreme => 1
  | .severe => 2
  | .advisory => 3
  | .local => 4
  | .test => 5

def AlertClass.ofCode : Nat → Option AlertClass
  | 0 => some .national
  | 1 => some .extreme
  | 2 => some .severe
  | 3 => some .advisory
  | 4 => some .local
  | 5 => some .test
  | _ => none

def Policy.code : Policy → Byte
  | .present => 0
  | .hold => 1

def Policy.ofCode : Nat → Option Policy
  | 0 => some .present
  | 1 => some .hold
  | _ => none

def ReceiptMode.code : ReceiptMode → Byte
  | .none => 0
  | .delivered => 1
  | .acked => 2
  | .both => 3

def ReceiptMode.ofCode : Nat → Option ReceiptMode
  | 0 => some .none
  | 1 => some .delivered
  | 2 => some .acked
  | 3 => some .both
  | _ => none

def Verdict.code : Verdict → Byte
  | .noArea => 0
  | .unknown => 1
  | .inside => 2
  | .edge => 3
  | .outside => 4

def PositionState.code : PositionState → Byte
  | .none => 0
  | .fresh => 1
  | .stale => 2

def Code.code : Code → Byte
  | .acknowledged => 1
  | .expired => 2
  | .superseded => 3
  | .withdrawn => 4
  | .outOfArea => 5
  | .muted => 6
  | .displaced => 7
  | .flushed => 8

def ReceiptKind.code : ReceiptKind → Byte
  | .delivered => 1
  | .acknowledged => 2

/-- A byte that must be 0 or 1. -/
def flagOfCode : Nat → Option Bool
  | 0 => some false
  | 1 => some true
  | _ => none

/-! ## Alert keys -/

/-- The reach code of an issue word. -/
def Scope.code : Scope → BitVec 2
  | .cell _ _ => 0
  | .zone _ => 1
  | .nation => 2

/-- The issue word of a NOTICE with this key: issue, reach, kind NOTICE and the area flag (section 1.9). -/
def Key.issueWord (k : Key) (area : Bool) : Half :=
  k.issue ++ k.scope.code ++ (0 : BitVec 1) ++ (if area then (1 : BitVec 1) else 0)

/-! ## Fragments -/

/-- A well-formed fragment. `trailer` is the area trailer, present when the area flag is 1. -/
structure Fragment where
  key : Key
  zone : Half
  cell : Word
  withdraw : Bool
  revision : BitVec 4
  index : Nat
  total : Nat
  digest : Half
  lifetimeCode : Byte
  text : List Byte
  trailer : Option (List Vertex)
deriving DecidableEq, Repr

def fragmentReach (p : List Byte) : BitVec 2 := (halfAt p 8).extractLsb' 2 2
def fragmentWithdraw (p : List Byte) : Bool := (halfAt p 8).getLsbD 1
def fragmentArea (p : List Byte) : Bool := (halfAt p 8).getLsbD 0
def fragmentIndex (p : List Byte) : Nat := ((byteAt p 11).extractLsb' 4 4).toNat
def fragmentTotal (p : List Byte) : Nat := ((byteAt p 11).extractLsb' 0 4).toNat
def fragmentTextLength (p : List Byte) : Nat := (byteAt p 17).toNat
def fragmentVertexCount (p : List Byte) : Nat := (byteAt p (18 + fragmentTextLength p)).toNat

/-- The vertices of a fragment's area trailer, in the order sent. -/
def fragmentVertices (p : List Byte) : List Vertex :=
  (List.range (fragmentVertexCount p)).map fun i =>
    let at_ := 19 + fragmentTextLength p + 8 * i
    { lat := coordinateAt p at_, lon := coordinateAt p (at_ + 4) }

/-- Validation (R43), check by check in the rule's order; a later check reads fields that the earlier ones have shown to exist. -/
def fragmentMalformed (p : List Byte) : Bool :=
  p.length < 18
  || fragmentReach p == 3
  || (byteAt p 10).extractLsb' 4 4 != (0 : BitVec 4)
  || fragmentIndex p == 0 || fragmentTotal p == 0 || fragmentIndex p > fragmentTotal p
  || fragmentTextLength p > 96
  || (!fragmentArea p && p.length != 18 + fragmentTextLength p)
  || (fragmentArea p && p.length < 19 + fragmentTextLength p)
  || (fragmentArea p && (fragmentVertexCount p < 3 || fragmentVertexCount p > 12))
  || (fragmentArea p && p.length != 19 + fragmentTextLength p + 8 * fragmentVertexCount p)
  || (fragmentArea p && fragmentIndex p != fragmentTotal p)
  || (fragmentArea p && (fragmentVertices p).any fun v => !coordinatesInRange v.lat v.lon)
  || (fragmentWithdraw p && fragmentTotal p != 1)
  || (fragmentWithdraw p && fragmentArea p)

/-- The scope of a fragment's key (R46). -/
def fragmentScope (p : List Byte) : Scope :=
  if fragmentReach p = 0 then .cell (halfAt p 0) (wordAt p 2)
  else if fragmentReach p = 1 then .zone (halfAt p 0)
  else .nation

/-- A fragment's fields, if it is well formed (R43, R46). -/
def readFragment (p : List Byte) : Option Fragment :=
  if fragmentMalformed p then none
  else some
    { key := { stream := halfAt p 6, issue := (halfAt p 8).extractLsb' 4 12, language := halfAt p 12, scope := fragmentScope p },
      zone := halfAt p 0, cell := wordAt p 2, withdraw := fragmentWithdraw p, revision := (byteAt p 10).extractLsb' 0 4,
      index := fragmentIndex p, total := fragmentTotal p, digest := halfAt p 14, lifetimeCode := byteAt p 16,
      text := (p.drop 18).take (fragmentTextLength p),
      trailer := if fragmentArea p then some (fragmentVertices p) else none }

/-! ## Window blocks (R29) -/

/-- A window block checked field by field and clamped; `none` where a field is refused. -/
def readBlock (b : List Byte) : Option Window := do
  let valid ← flagOfCode (byteAt b 0).toNat
  let cls ← AlertClass.ofCode (byteAt b 5).toNat
  let muted ← flagOfCode (byteAt b 6).toNat
  let edge ← Policy.ofCode (byteAt b 10).toNat
  let unknown ← Policy.ofCode (byteAt b 11).toNat
  let mode ← ReceiptMode.ofCode (byteAt b 12).toNat
  some
    { valid := valid, base := halfAt b 1, mask := halfAt b 3,
      attrs :=
        { cls := cls, muted := muted, reportDelay := min (byteAt b 7).toNat 7, periodCode := min (byteAt b 8).toNat 6,
          reminderCount := min (byteAt b 9).toNat 7, edgePolicy := edge, unknownPolicy := unknown, receiptMode := mode,
          defaultLifetime := max (byteAt b 13).toNat 1 },
      horizon := min (max (byteAt b 14).toNat 1) 72 }

/-- A window as a 15-byte block (R34). -/
def Window.block (w : Window) : List Byte :=
  [byteOfBool w.valid] ++ halfBytes w.base ++ halfBytes w.mask ++
    [byteOf w.attrs.cls.rank, byteOfBool w.attrs.muted, byteOf w.attrs.reportDelay, byteOf w.attrs.periodCode,
     byteOf w.attrs.reminderCount, w.attrs.edgePolicy.code, w.attrs.unknownPolicy.code, w.attrs.receiptMode.code,
     byteOf w.attrs.defaultLifetime, byteOf w.horizon]

/-! ## Configuration blocks (R10, R14, R201) -/

/-- The marks a port takes from its two bytes: the low mark is judged against the high mark stored with it (R10). -/
def readMarks (high low : Byte) : Marks :=
  let h := min (max (high.toNat * 256) 256) 2048
  { high := h, low := if low.toNat * 256 < h then low.toNat * 256 else h - 256 }

/-- The configuration items of a configuration block, checked and clamped; `none` where a byte is refused (R201). -/
def readSettings (b : List Byte) : Option Settings :=
  if byteAt b 8 ≠ 0 && byteAt b 8 ≠ 1 then none
  else if (byteAt b 9).extractLsb' 4 4 ≠ (0 : BitVec 4) then none
  else some
    { marksM := readMarks (byteAt b 0) (byteAt b 1), marksP := readMarks (byteAt b 2) (byteAt b 3),
      backlogMark := min (max ((byteAt b 4).toNat * 256) 256) 4096, contextTimeout := max (byteAt b 5).toNat 5,
      positionMaxAge := min (max (halfAt b 6).toNat 1) 3600,
      unlistedAction := if byteAt b 8 = 1 then .forward else .discard,
      wakeEnables :=
        { alert := (byteAt b 9).getLsbD 0, report := (byteAt b 9).getLsbD 1, reply := (byteAt b 9).getLsbD 2,
          backlog := (byteAt b 9).getLsbD 3 } }

/-! ## Requests and replies -/

/-- The results of replies. -/
inductive Result where
  | done
  | busy
  | badArgument
  | locked
  | exhausted
  | unknownHandle
  | notDelivered
  | unknownRequest
  | scanning
deriving DecidableEq, Repr

def Result.code : Result → Byte
  | .done => 0
  | .busy => 1
  | .badArgument => 2
  | .locked => 3
  | .exhausted => 4
  | .unknownHandle => 5
  | .notDelivered => 6
  | .unknownRequest => 7
  | .scanning => 8

/-- The fifteen requests. -/
inductive Request where
  | getStatus
  | getCounters
  | setTime
  | setPosition
  | loadWindow
  | muteWindow
  | readWindow
  | provision
  | lockProvision
  | acknowledge
  | fetchRecord
  | flushAlerts
  | configure
  | clearHistory
  | reset
deriving DecidableEq, Repr

def Request.code : Request → Byte
  | .getStatus => 0x01
  | .getCounters => 0x02
  | .setTime => 0x03
  | .setPosition => 0x04
  | .loadWindow => 0x10
  | .muteWindow => 0x11
  | .readWindow => 0x12
  | .provision => 0x18
  | .lockProvision => 0x19
  | .acknowledge => 0x20
  | .fetchRecord => 0x21
  | .flushAlerts => 0x22
  | .configure => 0x30
  | .clearHistory => 0x31
  | .reset => 0x3F

/-- The number of argument bytes of a request (R195). -/
def Request.arguments : Request → Nat
  | .getStatus => 0
  | .getCounters => 2
  | .setTime => 4
  | .setPosition => 10
  | .loadWindow => 16
  | .muteWindow => 2
  | .readWindow => 1
  | .provision => 16
  | .lockProvision => 1
  | .acknowledge => 2
  | .fetchRecord => 3
  | .flushAlerts => 0
  | .configure => 10
  | .clearHistory => 0
  | .reset => 0

def Request.all : List Request :=
  [.getStatus, .getCounters, .setTime, .setPosition, .loadWindow, .muteWindow, .readWindow, .provision, .lockProvision,
   .acknowledge, .fetchRecord, .flushAlerts, .configure, .clearHistory, .reset]

/-- The request a payload's code names, if it has a code and the code names one. -/
def requestOf (p : List Byte) : Option Request :=
  match p with
  | [] => none
  | c :: _ => Request.all.find? fun r => r.code == c

/-- A reply payload: the request's code and tag, a result, and data where the result is DONE (R194). A code or tag missing from the
request is returned as 0 (R195). -/
def replyPayload (code tag : Byte) (result : Result) (data : List Byte) : List Byte :=
  [code, tag, result.code] ++ (if result = .done then data else [])

/-! ## Handles -/

/-- The 16-bit value of a handle: generation × 256 + slot (R115). -/
def Handle.value (h : Handle) : Half := h.generation ++ byteOf h.slot

/-- The handle of a record, 0xFFFF for one without a slot (R118). -/
def Record.handleValue (r : Record) : Half :=
  match r.handle with
  | some h => h.value
  | none => 0xFFFF

/-! ## Deliveries and REMIND frames (R123, R124, R127) -/

/-- The part count N of a text length (R123). -/
def partCount (textLength : Nat) : Nat :=
  if textLength ≤ 192 then 1 else 1 + (textLength - 192 + 255) / 256

/-- The text bytes part `i` of a delivery sequence carries (R123). -/
def partText (text : List Byte) (i : Nat) : List Byte :=
  if i ≤ 1 then text.take 192 else (text.drop (192 + 256 * (i - 2))).take 256

/-- Lifetime remaining, in units of 10 s (R124). -/
def lifetimeRemaining (lifetimeEnd epoch : Word) : Nat :=
  if lifetimeEnd.toNat ≤ epoch.toNat then 0 else min ((lifetimeEnd.toNat - epoch.toNat + 9) / 10) 65535

/-- The header fields of a DELIVER part 1 and of a REMIND frame, from the stream to the text length (R124). -/
def Record.header (r : Record) (epoch : Word) : List Byte :=
  halfBytes r.key.stream ++ halfBytes (r.key.issueWord r.area.isSome) ++ [r.revision.setWidth 8, byteOf r.attrs.cls.rank] ++
  halfBytes r.key.language ++ [(r.verdict.getD .noArea).code] ++ halfBytes r.zone ++ wordBytes r.cell ++
  halfBytes (halfOf (lifetimeRemaining r.lifetimeEnd epoch)) ++ [byteOf r.remindersLeft] ++ halfBytes (halfOf r.text.length)

/-- The payload of part `i` of `n` of a record's delivery sequence. -/
def Record.partPayload (r : Record) (epoch : Word) (n i : Nat) : List Byte :=
  halfBytes r.handleValue ++ [1, byteOf i, byteOf n] ++ (if i = 1 then r.header epoch else []) ++ partText r.text i

/-- The payload of a REMIND frame of a record (R127). -/
def Record.remindPayload (r : Record) (epoch : Word) : List Byte :=
  halfBytes r.handleValue ++ [2, 1, 1] ++ r.header epoch

/-! ## Reports and receipts -/

/-- A 12-byte summary. -/
def Summary.bytes (s : Summary) : List Byte :=
  halfBytes s.handle ++ halfBytes s.stream ++ halfBytes s.issueWord ++ [s.revision.setWidth 8, s.code.code] ++ wordBytes s.epoch

/-- A report payload (R162). -/
def reportPayload (status : Byte) (summaries : List Summary) : List Byte :=
  [status, byteOf summaries.length] ++ summaries.flatMap Summary.bytes

/-- A receipt payload (R152). -/
def Receipt.payload (r : Receipt) : List Byte :=
  halfBytes r.stream ++ halfBytes r.issueWord ++ [r.revision.setWidth 8] ++ halfBytes r.language ++ halfBytes r.zone ++
  wordBytes r.cell ++ [r.kind.code] ++ wordBytes r.wall

/-! ## Counter groups (R197) -/

def LinkCounters.list (c : LinkCounters) : List Half :=
  [c.accepted, c.headerErrors, c.checkErrors, c.gapErrors, c.overruns, c.misdirected, c.forwarded, c.sent]

def IntakeCounters.list (c : IntakeCounters) : List Half :=
  [c.taken, c.malformed, c.unlisted, c.rawForwarded, c.unlistedDropped, c.withdrawals, c.earlyDuplicates, c.duplicateFragments,
   c.totalMismatches, c.conflicts, c.digestMismatches, c.completions, c.failed, c.timedOut, c.evicted, c.contextShed, c.stale,
   c.unlistedAtCompletion]

def RecordCounters.list (c : RecordCounters) : List Half :=
  [c.created, c.firstDeliveries, c.redeliveries, c.remindersSent, c.acknowledged, c.expired, c.superseded, c.withdrawn, c.outOfArea,
   c.muted, c.displaced, c.flushed, c.receiptsDropped, c.reportOverflow]

def AreaCounters.list (c : AreaCounters) : List Half :=
  [c.positionUpdates, c.positionsStale, c.areaIgnored, c.recordsHeld, c.recordsReleased, c.heldOverflow, c.heldLifetimeEnded]

def HistoryCounters.list (c : HistoryCounters) : List Half :=
  [c.noticesNew, c.noticesNewer, c.noticesReissued, c.withdrawalsOrphan, c.withdrawalsApplied, c.withdrawalsRaised,
   c.withdrawalsStale, c.withdrawalsDuplicate, c.entriesExpired, c.indexEvictions, c.writesCommitted, c.programFailures,
   c.writeDeferrals, c.erasesCompleted, c.eraseFailures, c.eraseSuspensions, c.provisioningPrograms, c.provisioningFailures,
   c.scanVoidSlots]

/-- The data of a GET COUNTERS reply: the group, the count and the counters. -/
def countersData (group : Byte) (counters : List Half) : List Byte :=
  [group, byteOf counters.length] ++ counters.flatMap halfBytes

end Sys2Proof.Machine
end

