-- ==== Sys2Proof/Machine/Ops.lean ====
section
/-!
DEFINITION. The shared operations on the state: the update of one block, of one port, of one counter, and the arithmetic of counters,
ages and lifetimes.
-/

namespace Sys2Proof.Machine

/-! ## Updates of one block -/

def State.onLink (f : Link → Link) (s : State) : State := { s with link := f s.link }
def State.onWindows (f : Windows → Windows) (s : State) : State := { s with windows := f s.windows }
def State.onIntake (f : Intake → Intake) (s : State) : State := { s with intake := f s.intake }
def State.onIndex (f : Index → Index) (s : State) : State := { s with index := f s.index }
def State.onArea (f : Area → Area) (s : State) : State := { s with area := f s.area }
def State.onRecords (f : Records → Records) (s : State) : State := { s with records := f s.records }
def State.onAck (f : Acknowledgement → Acknowledgement) (s : State) : State := { s with ack := f s.ack }
def State.onReport (f : Report → Report) (s : State) : State := { s with report := f s.report }
def State.onArray (f : NvArray → NvArray) (s : State) : State := { s with array := f s.array }
def State.onStore (f : Store → Store) (s : State) : State := { s with store := f s.store }
def State.onManagement (f : Management → Management) (s : State) : State := { s with management := f s.management }
def State.onTime (f : Timebase → Timebase) (s : State) : State := { s with time := f s.time }
def State.onDue (f : EpochDue → EpochDue) (s : State) : State := { s with due := f s.due }

/-- One of the two ports. -/
def Link.port (l : Link) : Port → PortState
  | .m => l.m
  | .p => l.p

/-- The update of one port. -/
def Link.onPort (port : Port) (f : PortState → PortState) (l : Link) : Link :=
  match port with
  | .m => { l with m := f l.m }
  | .p => { l with p := f l.p }

def State.onPort (port : Port) (f : PortState → PortState) (s : State) : State := s.onLink (Link.onPort port f)

/-! ## Counters -/

/-- A counter incremented: 16 bits wide, saturating at 65535 ("Counters" of the conventions). -/
def bump (c : Half) : Half := if c = 0xFFFF then c else c + 1

def PortState.count (f : LinkCounters → LinkCounters) (p : PortState) : PortState := { p with counters := f p.counters }

def State.countLink (port : Port) (f : LinkCounters → LinkCounters) (s : State) : State := s.onPort port (PortState.count f)

def State.countIntake (f : IntakeCounters → IntakeCounters) (s : State) : State :=
  s.onIntake fun i => { i with counters := f i.counters }

def State.countHistory (f : HistoryCounters → HistoryCounters) (s : State) : State :=
  s.onIndex fun i => { i with counters := f i.counters }

def State.countArea (f : AreaCounters → AreaCounters) (s : State) : State :=
  s.onArea fun a => { a with counters := f a.counters }

def State.countRecords (f : RecordCounters → RecordCounters) (s : State) : State :=
  s.onRecords fun r => { r with counters := f r.counters }

/-! ## Ages and lifetimes -/

/-- The epoch count less an earlier moment (R63, R94); open where the count has wrapped past the moment. -/
def ageOf (epoch moment : Word) : Nat :=
  if moment.toNat ≤ epoch.toNat then epoch.toNat - moment.toNat else Config.ageAcrossWrap epoch moment

/-- The lifetime end: the epoch count plus the lifetime in seconds (R117); open where the sum is no epoch count. -/
def lifetimeEndOf (epoch : Word) (lifetime : Nat) : Word :=
  if epoch.toNat + lifetime < 4294967296 then BitVec.ofNat 32 (epoch.toNat + lifetime)
  else Config.lifetimeEndAcrossWrap epoch lifetime

/-- The expiry of an entry: its time plus its horizon × 3600, held at 4,294,967,295 (R69). -/
def expiryOf (time : Word) (horizon : Nat) : Word :=
  BitVec.ofNat 32 (min (time.toNat + horizon * 3600) 4294967295)

/-! ## Lists -/

/-- `x` put into a list before the first element that does not come before it. -/
def insertBefore {α : Type} (before : α → α → Bool) (x : α) : List α → List α
  | [] => [x]
  | y :: ys => if before y x then y :: insertBefore before x ys else x :: y :: ys

/-- A list put in order. -/
def arrange {α : Type} (before : α → α → Bool) : List α → List α
  | [] => []
  | x :: xs => insertBefore before x (arrange before xs)

/-- The first of the elements that no other precedes, walking from the left with a candidate in hand. -/
def leastFrom {α : Type} (before : α → α → Bool) (best : α) : List α → α
  | [] => best
  | x :: xs => leastFrom before (if before x best then x else best) xs

/-- The least element of a list, the first among equals. -/
def least {α : Type} (before : α → α → Bool) : List α → Option α
  | [] => none
  | x :: xs => some (leastFrom before x xs)

/-! ## Receive FIFOs and forward buffers (R7, R13) -/

/-- The bytes a list of frames takes. -/
def framesSize (fs : List Frame) : Nat := (fs.map Frame.size).sum

/-- A receive FIFO's occupancy (R7). -/
def Fifo.occupancy (f : Fifo) : Nat := framesSize f.frames + f.reserved

/-- Whether the M→P forward buffer has room for a frame (R13). -/
def Link.roomToP (l : Link) (f : Frame) : Bool := framesSize l.toP + f.size ≤ Config.forwardToPCapacity

/-- Whether the P→M forward buffer has room for a frame (R13). -/
def Link.roomToM (l : Link) (f : Frame) : Bool := framesSize l.toM + f.size ≤ Config.forwardToMCapacity

end Sys2Proof.Machine
end

