-- ==== Sys2Proof/Machine/Sectors.lean ====
section
/-!
DEFINITION. The nonvolatile array as it reads: sector states, used and next slots, the order of sequences, provisioning content.
-/

namespace Sys2Proof.Machine

/-- The states a sector's header gives (R171). -/
inductive SectorState where
  | erased
  | opened
  | full
  | retiring
  | worn
  | invalid
deriving DecidableEq, Repr

/-- A used slot is one that is not blank (R172). -/
def Slot.used : Slot → Bool
  | .blank => false
  | _ => true

/-- The state of a sector as its header reads (R171). -/
def Sector.state (x : Sector) : SectorState :=
  if x.worn then .worn
  else if x.retiring then .retiring
  else if x.sequence.isNone && !x.opened && !x.full then
    if x.slots.all fun c => !c.used then .erased else .invalid
  else if x.sequence.isSome && x.opened then (if x.full then .full else .opened)
  else .invalid

/-- The number of used slots of a sector. -/
def Sector.usedSlots (x : Sector) : Nat := x.slots.countP Slot.used

/-- The number of slots up to and with the highest-numbered used one. -/
def Sector.extent (x : Sector) : Nat := (x.slots.reverse.dropWhile fun c => !c.used).length

/-- The slot after the highest-numbered used slot, if the sector has one (R172). -/
def Sector.nextSlot (x : Sector) : Option Nat := if x.extent < x.slots.length then some x.extent else none

/-- The numbers of the history sectors. -/
def sectorNumbers : List Nat := [0, 1, 2, 3]

def NvArray.sector (a : NvArray) (k : Nat) : Sector := a.sectors.getD k .erased

def State.sector (s : State) (k : Nat) : Sector := s.array.sector k

def State.onSector (k : Nat) (f : Sector → Sector) (s : State) : State :=
  s.onArray fun a => { a with sectors := a.sectors.modify k f }

/-- A usable sector is not WORN and has not been taken as WORN (R182). -/
def State.usable (s : State) (k : Nat) : Bool := (s.sector k).state != .worn && !s.store.takenWorn.contains k

/-- The usable history sectors, lowest first. -/
def State.usableSectors (s : State) : List Nat := sectorNumbers.filter s.usable

/-- The usable sectors in a state, lowest first. -/
def State.sectorsIn (s : State) (x : SectorState) : List Nat := s.usableSectors.filter fun k => (s.sector k).state == x

/-- A sequence `a` is newer than `b` (R171). -/
def newerSequence (a b : Half) : Bool := 1 ≤ (a - b).toNat && (a - b).toNat ≤ 32767

def State.sequenceOf (s : State) (k : Nat) : Half := (s.sector k).sequence.getD 0

/-- Sector `i` is older than sector `j`; of two of which neither is newer, the lower-numbered is older (R171). -/
def State.olderSector (s : State) (i j : Nat) : Bool :=
  newerSequence (s.sequenceOf j) (s.sequenceOf i) || (!newerSequence (s.sequenceOf i) (s.sequenceOf j) && i < j)

/-- Sectors from oldest to newest. -/
def State.bySequence (s : State) (ks : List Nat) : List Nat := arrange s.olderSector ks

/-! ## Provisioning (R184) -/

/-- The block of a committed copy. -/
def Copy.block? : Copy → Option Window
  | .committed b => some b
  | _ => none

def Copy.used : Copy → Bool
  | .blank => false
  | _ => true

/-- A slot's content: its highest-numbered committed copy. -/
def ProvisioningSlot.content (p : ProvisioningSlot) : Option Window := (p.copies.reverse.filterMap Copy.block?).head?

/-- The next unused copy of a slot, numbered from 0: the one after the highest-numbered used copy. -/
def ProvisioningSlot.nextCopy (p : ProvisioningSlot) : Option Nat :=
  let n := (p.copies.reverse.dropWhile fun c => !c.used).length
  if n < p.copies.length then some n else none

/-- A slot is locked when its lock mark reads as programmed. -/
def ProvisioningSlot.locked (p : ProvisioningSlot) : Bool := p.lock == .set

def State.provisioningSlot (s : State) (n : Nat) : ProvisioningSlot :=
  s.array.provisioning.getD n ⟨[], .clear⟩

def State.onProvisioningSlot (n : Nat) (f : ProvisioningSlot → ProvisioningSlot) (s : State) : State :=
  s.onArray fun a => { a with provisioning := a.provisioning.modify n f }

/-- The override window a provisioning slot gives: its content with muted held as no, or the cleared window (R38). -/
def ProvisioningSlot.window (p : ProvisioningSlot) : Window :=
  match p.content with
  | some b => { b with attrs := { b.attrs with muted := false } }
  | none => .cleared

end Sys2Proof.Machine
end

