-- ==== Sys2Proof/Machine/Flags.lean ====
section
/-!
DEFINITION. The conditions and levels that follow from the rest of the state: hold outputs, the BACKLOG condition, the ALERT flag, the
wake causes and WAKE, the history state, and whether a program waits for the array controller. `State.settle` brings the outputs in
line after an event.
-/

namespace Sys2Proof.Machine

/-! ## Hold outputs and BACKLOG -/

/-- The level of a hold output, with its hysteresis (R9). -/
def holdLevel (marks : Marks) (occupancy : Nat) (level : Bool) : Bool :=
  if occupancy ≥ marks.high then true else if occupancy ≤ marks.low then false else level

def Settings.marks (x : Settings) : Port → Marks
  | .m => x.marksM
  | .p => x.marksP

/-- The BACKLOG condition (R14). -/
def State.backlog (s : State) : Bool := framesSize s.link.toP ≥ s.settings.backlogMark

/-! ## Wake causes (R136, R161, R164) -/

/-- A record that the delivery engine has a full sequence to send for (R122). -/
def Record.wantsDelivery (r : Record) : Bool := r.undelivered || r.redeliver.isSome

/-- Whether the delivery engine offers work (R122). -/
def State.deliveryWork (s : State) : Bool := s.records.active.any fun r => r.wantsDelivery || r.reminder.isSome

/-- The record unit's ALERT flag (R136). -/
def State.alertFlag (s : State) : Bool := s.deliveryWork || s.records.delivery.isSome

/-- Whether a report frame is pending (R161). -/
def State.reportPending (s : State) : Bool := !s.report.queue.isEmpty && s.report.countdown == some 0

/-- The causes that hold (R164). -/
def State.causes (s : State) : WakeCauses :=
  { alert := s.alertFlag, report := s.reportPending, reply := !s.management.replies.isEmpty, backlog := s.backlog }

/-- WAKE while the part is powered and out of reset (R166). -/
def State.wakeLevel (s : State) : Bool :=
  let c := s.causes
  let e := s.settings.wakeEnables
  (c.alert && e.alert) || (c.report && e.report) || (c.reply && e.reply) || (c.backlog && e.backlog)

/-- The code of the highest-priority cause that holds, enabled or not (R167). -/
def WakeCauses.highest (c : WakeCauses) : Byte :=
  if c.alert then 1 else if c.report then 2 else if c.reply then 3 else if c.backlog then 4 else 0

/-! ## The history store -/

/-- The code of the history state (R183). -/
def State.historyState (s : State) : Byte :=
  if s.store.ramOnly then 1
  else if !s.store.erases.isEmpty || s.store.erase.isSome || s.store.clear.isSome then 2
  else 0

/-- Whether the current sector is OPEN with a next slot (R173). -/
def State.writable (s : State) : Bool :=
  match s.store.current with
  | some k => (s.sector k).state == .opened && (s.sector k).nextSlot.isSome
  | none => false

/-- Whether a history write is waiting (R173). -/
def State.writeWaiting (s : State) : Bool :=
  (!s.store.writes.isEmpty || s.store.retry.isSome) && s.writable && !s.store.ramOnly && s.store.clear.isNone

/-- Whether a provisioning program is waiting: one is in flight and not running. -/
def State.provisioningWaiting (s : State) : Bool := s.store.job.isSome && s.store.running != some .provisioning

/-- Whether a program or amend is waiting (R173, R174). -/
def State.programWaiting (s : State) : Bool := s.provisioningWaiting || !s.store.amends.isEmpty || s.writeWaiting

/-- Whether the controller can start a program or amend: none runs, and no erase runs (R173). -/
def State.controllerFree (s : State) : Bool :=
  s.store.running.isNone &&
    match s.store.erase with
    | some e => e.condition == .suspended
    | none => true

/-- An erase that runs out of its minimum run becomes SUSPENDING when a program waits (R174, R175). -/
def Erase.askedToStop (e : Erase) (waiting : Bool) : Erase :=
  if e.condition = .running ∧ !e.minimumRun ∧ waiting then { e with condition := .suspending } else e

/-! ## After an event -/

def PortState.settle (marks : Marks) (p : PortState) : PortState :=
  { p with holdOut := holdLevel marks p.fifo.occupancy p.holdOut }

/-- The outputs brought in line with the state an event left: MHO and PHO (R9), the suspension of a running erase (R174), WAKE
(R166). -/
def State.settle (s : State) : State :=
  { s with
    link := { s.link with m := s.link.m.settle s.settings.marksM, p := s.link.p.settle s.settings.marksP }
    store := { s.store with erase := s.store.erase.map fun e => e.askedToStop s.programWaiting }
    wake := s.wakeLevel }

/-- An event of the part. Where its conditions hold it takes place whole and the outputs follow; where they do not, or there is no
supply, it does not take place and the state stays as it is (log entry 1). -/
def State.occur (s : State) (ready : Bool) (effect : State → State) : Host.Outcome State Fault Refusal :=
  .next (if s.powered && ready then (effect s).settle else s)

end Sys2Proof.Machine
end

