-- ==== Sys2Proof/Machine/Link.lean ====
section
/-!
DEFINITION. Chapter 1: the receivers, the receive FIFOs, the sorters, the hold inputs, the ends of sent frames and the M-port arbiter. (The
P-port arbiter stands in Delivery.lean, where the frames it builds are.)
-/

namespace Sys2Proof.Machine

/-! ## Receivers (R3 to R8) -/

/-- A payload byte taken: kept where the frame was given room, and taken into the check either way (R3, R8). -/
def Incoming.take (f : Incoming) (b : Byte) : Incoming :=
  { f with check := checkByte f.check b, count := f.count + 1, kept := if f.room then f.kept ++ [b] else f.kept }

/-- A byte that is neither a second length byte nor a second check byte (R3). -/
def Receiver.byte (r : Receiver) (b : Byte) : Receiver :=
  match r with
  | .hunt => if b = 0xD3 then .header [] else .hunt
  | .header kept => .header (kept ++ [b])
  | .payload f => if f.count + 1 < f.length then .payload (f.take b) else .check (f.take b) none
  | .check f _ => .check f (some b)

/-- Whether the next byte is neither a second length byte nor a second check byte. -/
def Receiver.plain : Receiver → Bool
  | .header kept => kept.length < 2
  | .check _ (some _) => false
  | _ => true

/-- Whether the next byte is a second length byte. -/
def Receiver.atHeaderEnd : Receiver → Bool
  | .header kept => kept.length == 2
  | _ => false

/-- Whether the next byte is a second check byte. -/
def Receiver.atFrameEnd : Receiver → Bool
  | .check _ (some _) => true
  | _ => false

/-- Whether the receiver is outside HUNT, where its gap timer runs (R6). -/
def Receiver.busy (r : Receiver) : Bool := r != .hunt

/-- The receiver after a header: PAYLOAD, or CHECK when the length is 0 (R3). -/
def Receiver.afterHeader (channel : Byte) (length : Nat) (room : Bool) (check : Half) : Receiver :=
  let f : Incoming := { channel := channel, length := length, room := room, check := check, count := 0, kept := [] }
  if length = 0 then .check f none else .payload f

/-- The second length byte: a header error (R4), room reserved (R7), or room refused (R8). -/
def PortState.headerEnd (b : Byte) (p : PortState) : PortState :=
  match p.receiver with
  | .header [channel, high] =>
    let length := (half high b).toNat
    if length > 512 then
      { p with receiver := .hunt, counters := { p.counters with headerErrors := bump p.counters.headerErrors } }
    else
      let check := checkOf [channel, high, b]
      if p.fifo.occupancy + (length + 6) ≤ Config.fifoCapacity then
        { p with receiver := .afterHeader channel length true check, fifo := { p.fifo with reserved := length + 6 } }
      else { p with receiver := .afterHeader channel length false check }
  | _ => p

/-- The second check byte: the frame is accepted (R3), an overrun (R8), or a check error (R5). -/
def PortState.frameEnd (b : Byte) (p : PortState) : PortState :=
  match p.receiver with
  | .check f (some high) =>
    if half high b = f.check then
      if f.room then
        { p with
          receiver := .hunt
          fifo := { frames := p.fifo.frames ++ [⟨f.channel, f.kept⟩], reserved := 0 }
          counters := { p.counters with accepted := bump p.counters.accepted } }
      else { p with receiver := .hunt, counters := { p.counters with overruns := bump p.counters.overruns } }
    else
      { p with
        receiver := .hunt
        fifo := { p.fifo with reserved := 0 }
        counters := { p.counters with checkErrors := bump p.counters.checkErrors } }
  | _ => p

/-- The gap timeout: the partial frame is discarded and its room released (R6). -/
def PortState.gapError (p : PortState) : PortState :=
  { p with
    receiver := .hunt
    fifo := { p.fifo with reserved := 0 }
    counters := { p.counters with gapErrors := bump p.counters.gapErrors } }

def execByteReceived (port : Port) (b : Byte) (s : State) : Host.Outcome State Fault Refusal :=
  s.occur (s.link.port port).receiver.plain (State.onPort port fun p => { p with receiver := p.receiver.byte b })

def execHeaderEnd (port : Port) (b : Byte) (s : State) : Host.Outcome State Fault Refusal :=
  s.occur (s.link.port port).receiver.atHeaderEnd (State.onPort port (PortState.headerEnd b))

def execFrameEnd (port : Port) (b : Byte) (s : State) : Host.Outcome State Fault Refusal :=
  s.occur (s.link.port port).receiver.atFrameEnd (State.onPort port (PortState.frameEnd b))

def execGapError (port : Port) (s : State) : Host.Outcome State Fault Refusal :=
  s.occur (s.link.port port).receiver.busy (State.onPort port PortState.gapError)

/-! ## Sorters (R11, R12) -/

/-- A sorter's head frame leaves the receive FIFO. -/
def PortState.dropHead (p : PortState) : PortState := { p with fifo := { p.fifo with frames := p.fifo.frames.drop 1 } }

/-- Where a frame belongs on the M-port, and whether there is room for it (R11). -/
def State.roomForM (f : Frame) (s : State) : Bool :=
  if f.channel = fragmentChannel then s.intake.queue.length < Config.intakeCapacity
  else if reservedChannel f.channel then true
  else s.link.roomToP f

/-- Where a frame belongs on the P-port, and whether there is room for it (R12). -/
def State.roomForP (f : Frame) (s : State) : Bool :=
  if f.channel = managementChannel then s.management.requests.length < Config.requestCapacity
  else if reservedChannel f.channel then true
  else s.link.roomToM f

/-- The M sorter deals with a frame (R11). -/
def State.sortM (f : Frame) (s : State) : State :=
  let s := s.onPort .m PortState.dropHead
  if f.channel = fragmentChannel then s.onIntake fun i => { i with queue := i.queue ++ [f.payload] }
  else if reservedChannel f.channel then s.countLink .m fun c => { c with misdirected := bump c.misdirected }
  else (s.onLink fun l => { l with toP := l.toP ++ [f] }).countLink .m fun c => { c with forwarded := bump c.forwarded }

/-- The P sorter deals with a frame (R12). -/
def State.sortP (f : Frame) (s : State) : State :=
  let s := s.onPort .p PortState.dropHead
  if f.channel = managementChannel then s.onManagement fun g => { g with requests := g.requests ++ [f.payload] }
  else if reservedChannel f.channel then s.countLink .p fun c => { c with misdirected := bump c.misdirected }
  else (s.onLink fun l => { l with toM := l.toM ++ [f] }).countLink .p fun c => { c with forwarded := bump c.forwarded }

/-- The M sorter takes the head frame once its destination has room; until then it stalls. -/
def execMSorter (s : State) : Host.Outcome State Fault Refusal :=
  match s.link.m.fifo.frames.head? with
  | some f => s.occur (s.roomForM f) (State.sortM f)
  | none => s.occur false id

/-- The P sorter takes the head frame once its destination has room; until then it stalls. -/
def execPSorter (s : State) : Host.Outcome State Fault Refusal :=
  match s.link.p.fifo.frames.head? with
  | some f => s.occur (s.roomForP f) (State.sortP f)
  | none => s.occur false id

/-! ## Hold inputs and transmitters (R15, R18) -/

/-- A hold input takes a level. It is the far end's line, so it does so with or without a supply. -/
def execHoldInput (port : Port) (level : Bool) (s : State) : Host.Outcome State Fault Refusal :=
  .next (s.onPort port fun p => { p with holdIn := level })

/-- Whether a transmitter can start a frame (R15). -/
def PortState.canStart (p : PortState) : Bool := p.sending.isNone && !p.holdIn

/-- A transmitter starts a frame. -/
def State.send (port : Port) (source : Source) (frame : Frame) (s : State) : State :=
  s.onPort port fun p => { p with sending := some ⟨source, frame⟩ }

/-- The oldest frame of a port's forward buffer has been sent (R13). -/
def Link.dropForwarded (port : Port) (l : Link) : Link :=
  match port with
  | .m => { l with toM := l.toM.drop 1 }
  | .p => { l with toP := l.toP.drop 1 }

/-- What is done with a frame whose last byte has been sent (R15). -/
def State.doneWith (port : Port) (source : Source) (s : State) : State :=
  match source with
  | .forwarded => s.onLink (Link.dropForwarded port)
  | .reply => s.onManagement fun g => { g with replies := g.replies.drop 1 }
  | .receipt => s.onAck fun a => { a with receipts := a.receipts.drop 1 }
  | .delivery => s
  | .report => s

/-- A transmitter has sent the last byte of its frame. -/
def State.frameSent (port : Port) (s : State) : State :=
  match (s.link.port port).sending with
  | some x =>
    ((s.onPort port fun p => { p with sending := none }).countLink port fun c => { c with sent := bump c.sent }).doneWith
      port x.source
  | none => s

def execFrameSent (port : Port) (s : State) : Host.Outcome State Fault Refusal :=
  s.occur (s.link.port port).sending.isSome (State.frameSent port)

/-- The M-port arbiter's choice: a receipt when one waits and either no forwarded frame waits or the last-receipt flag is clear
(R18). -/
def State.receiptTurn (s : State) : Bool := !s.ack.receipts.isEmpty && (s.link.toM.isEmpty || !s.link.lastReceipt)

/-- The M-port arbiter takes a frame (R18). -/
def State.arbitrateM (s : State) : State :=
  if s.receiptTurn then
    match s.ack.receipts with
    | r :: _ => (s.send .m .receipt ⟨receiptChannel, r.payload⟩).onLink fun l => { l with lastReceipt := true }
    | [] => s
  else
    match s.link.toM with
    | f :: _ => (s.send .m .forwarded f).onLink fun l => { l with lastReceipt := false }
    | [] => s

def execMPortArbiter (s : State) : Host.Outcome State Fault Refusal :=
  s.occur (s.link.m.canStart && !(s.ack.receipts.isEmpty && s.link.toM.isEmpty)) State.arbitrateM

end Sys2Proof.Machine
end

