-- ==== Sys2Proof/Machine/Area.lean ====
section
/-!
DEFINITION. Chapter 5, the arithmetic: margins, the uncertainty square, the crossing test, verdicts and policies. All of it is exact
integer arithmetic (R102).
-/

namespace Sys2Proof.Machine

/-- A closed rectangle of latitudes and longitudes: a bounding box or an uncertainty square. -/
structure Box where
  south : Int
  north : Int
  west : Int
  east : Int
deriving DecidableEq, Repr

/-- The bounding box of an area (R96), widened vertex by vertex. -/
def Box.around (v : Vertex) (vs : List Vertex) : Box :=
  vs.foldl (fun b v => ⟨min b.south v.lat, max b.north v.lat, min b.west v.lon, max b.east v.lon⟩) ⟨v.lat, v.lat, v.lon, v.lon⟩

/-- The bounding box of an area's vertices. -/
def boundingBox : List Vertex → Box
  | [] => ⟨0, 0, 0, 0⟩
  | v :: vs => Box.around v vs

/-- The longitude span above which an area is ignored (R97). -/
def spanTooWide (area : List Vertex) : Bool :=
  (boundingBox area).east - (boundingBox area).west > 180000000

/-- The latitude margin (R98). -/
def latMargin (uncertainty : Nat) : Nat := uncertainty * 9

/-- The latitude band (R99). -/
def latBand (lat : Int) : Nat := min (lat.natAbs / 10000000) 8

/-- The longitude factor of a band, in sixteenths (Table 5-1). -/
def lonFactor (band : Nat) : Nat := [17, 18, 19, 21, 25, 32, 47, 93, 255].getD band 255

/-- The longitude margin (R99). -/
def lonMargin (uncertainty : Nat) (lat : Int) : Nat := (latMargin uncertainty * lonFactor (latBand lat) + 15) / 16

/-- The uncertainty square of a position (R100): the latitude limits are held within ±90,000,000, the longitude limits are not. -/
def Position.square (p : Position) : Box :=
  { south := max (p.lat - latMargin p.uncertainty) (-90000000)
    north := min (p.lat + latMargin p.uncertainty) 90000000
    west := p.lon - lonMargin p.uncertainty p.lat
    east := p.lon + lonMargin p.uncertainty p.lat }

/-- Whether a square intersects a bounding box; every limit counts as inside (R100). -/
def Box.meets (square box : Box) : Bool :=
  square.south ≤ box.north && square.north ≥ box.south && square.west ≤ box.east && square.east ≥ box.west

/-- Whether a bounding box lies within a square (R103, step 8). -/
def Box.within (box square : Box) : Bool :=
  box.south ≥ square.south && box.north ≤ square.north && box.west ≥ square.west && box.east ≤ square.east

/-- Whether the edge from `i` to `j` is a crossing for a point (R101, steps 1 to 3). -/
def isCrossing (py px : Int) (i j : Vertex) : Bool :=
  let d := j.lat - i.lat
  let num := (px - i.lon) * d - (py - i.lat) * (j.lon - i.lon)
  (decide (i.lat > py) != decide (j.lat > py)) && ((d > 0 && num < 0) || (d < 0 && num > 0))

/-- The edges of an area: each vertex with the next, and the last with the first (R96). -/
def areaEdges (area : List Vertex) : List (Vertex × Vertex) := area.zip (area.drop 1 ++ area.take 1)

/-- The crossing test (R101): inside when the number of crossings is odd. -/
def insideArea (area : List Vertex) (py px : Int) : Bool :=
  (areaEdges area).countP (fun e => isCrossing py px e.1 e.2) % 2 == 1

/-- The corners of a square in the order NE, NW, SW, SE (R103, step 7). -/
def Box.corners (b : Box) : List (Int × Int) := [(b.north, b.east), (b.north, b.west), (b.south, b.west), (b.south, b.east)]

/-- The verdict on an area whose span is not above 180,000,000, from a FRESH position (R103, steps 4 to 9). -/
def Position.judge (p : Position) (area : List Vertex) : Verdict :=
  let box := boundingBox area
  if !p.square.meets box then .outside
  else if insideArea area p.lat p.lon then .inside
  else if latMargin p.uncertainty = 0 then .outside
  else if p.square.corners.any (fun c => insideArea area c.1 c.2) then .edge
  else if box.within p.square then .edge
  else .outside

/-- The verdict of a record with this area, or without one (R103). -/
def Position.verdict (p : Position) (area : Option (List Vertex)) : Verdict :=
  match area with
  | none => .noArea
  | some a =>
    if spanTooWide a then .noArea
    else if p.state = .fresh then p.judge a
    else .unknown

/-- Whether an area is ignored for its span, which counts at creation (R97). -/
def areaIgnored (area : Option (List Vertex)) : Bool :=
  match area with
  | none => false
  | some a => spanTooWide a

/-- Whether a verdict presents a record of these attributes (R104). -/
def Verdict.presents (v : Verdict) (a : Attributes) : Bool :=
  match v with
  | .noArea => true
  | .inside => true
  | .outside => false
  | .edge => a.edgePolicy == .present
  | .unknown => a.unknownPolicy == .present

end Sys2Proof.Machine
end

