-- ==== Sys2Proof/Machine/Report.lean ====
section
/-!
DEFINITION. Chapter 8: summaries joining the report queue, the flush countdown, the report frame.
-/

namespace Sys2Proof.Machine

/-- The flush countdown after a summary of this delay joins the queue (R159). -/
def Report.countdownAfter (r : Report) (delay : Nat) : Option Nat :=
  if r.queue.isEmpty then some delay
  else if r.queue.length + 1 ≥ Config.reportCapacity then some 0
  else some (min (r.countdown.getD delay) delay)

/-- A summary joins the report queue, or is dropped when the queue is full (R158, R159). -/
def State.joinReport (x : Summary) (delay : Nat) (s : State) : State :=
  if s.report.queue.length < Config.reportCapacity then
    s.onReport fun r => { queue := r.queue ++ [⟨x, delay⟩], countdown := r.countdownAfter delay }
  else s.countRecords fun c => { c with reportOverflow := bump c.reportOverflow }

/-- One epoch's decrement of the flush countdown (R160). -/
def Report.decrement (r : Report) : Report :=
  { r with countdown := r.countdown.map fun d => d - 1 }

/-- The status byte of a report frame (R163). -/
def State.reportStatus (s : State) : Byte :=
  (0 : BitVec 4) ++ (s.area.position.state.code.extractLsb' 0 2) ++ (if s.time.timeSet then (0 : BitVec 1) else 1) ++
    (if s.store.ramOnly then (1 : BitVec 1) else 0)

/-- The pending report frame as it is built now (R162). -/
def State.reportFrame (s : State) : Frame :=
  ⟨reportChannel, reportPayload s.reportStatus (s.report.queue.map QueuedSummary.summary)⟩

end Sys2Proof.Machine
end

