-- ==== Sys2Proof/Machine/Records.lean ====
section
/-!
DEFINITION. Chapter 6, the record store and its lists: slots and handles, completion and latching, the active list, the held list, the
creation of a record; and the building of receipts (chapter 7), which completion asks for.
-/

namespace Sys2Proof.Machine

/-! ## Slots and handles (R115) -/

/-- The records that live: on the active list, on the held list, or latched (R81). -/
def Records.live (r : Records) : List Record := r.active ++ r.held ++ r.latched.toList

/-- Whether a live record names a key (R81). -/
def State.named (s : State) (k : Key) : Bool := s.records.live.any fun r => r.key == k

/-- The handle the next record to take a slot gets: the oldest free slot with its generation. -/
def Records.nextHandle (r : Records) : Option Handle := r.free.head?.map fun k => ⟨r.generations.getD k 0, k⟩

/-- A slot is freed: its generation advances and it joins the free list as its newest member. -/
def Records.freeSlot (h : Handle) (r : Records) : Records :=
  { r with generations := r.generations.modify h.slot (· + 1), free := r.free ++ [h.slot] }

/-- The record a request's handle names (R128): its low byte is a slot, that slot is occupied, and the generations agree. -/
def Records.find (r : Records) (h : Half) : Option Record :=
  let slot := (h.extractLsb' 0 8 : Byte).toNat
  if slot < 24 then r.live.find? fun x => x.handle == some ⟨h.extractLsb' 8 8, slot⟩ else none

/-! ## Receipts (R150 to R154) -/

/-- A receipt of a record as it is built now (R152). -/
def State.receiptOf (s : State) (r : Record) (kind : ReceiptKind) : Receipt :=
  { stream := r.key.stream, issueWord := r.key.issueWord r.area.isSome, revision := r.revision, language := r.key.language,
    zone := r.zone, cell := r.cell, kind := kind, wall := s.time.wall }

/-- A receipt joins the receipt queue, or is dropped when the queue is full (R154). -/
def State.queueReceipt (r : Record) (kind : ReceiptKind) (s : State) : State :=
  if s.ack.receipts.length < Config.receiptCapacity then
    s.onAck fun a => { a with receipts := a.receipts ++ [s.receiptOf r kind] }
  else s.countRecords fun c => { c with receiptsDropped := bump c.receiptsDropped }

/-- Whether a receipt mode asks for a DELIVERED receipt. -/
def ReceiptMode.wantsDelivered : ReceiptMode → Bool
  | .delivered => true
  | .both => true
  | _ => false

/-- Whether a receipt mode asks for an ACKNOWLEDGED receipt. -/
def ReceiptMode.wantsAcknowledged : ReceiptMode → Bool
  | .acked => true
  | .both => true
  | _ => false

/-! ## Completion (R130, R131) -/

/-- The counter of a completion code (R137). -/
def RecordCounters.countCode (code : Code) (c : RecordCounters) : RecordCounters :=
  match code with
  | .acknowledged => { c with acknowledged := bump c.acknowledged }
  | .expired => { c with expired := bump c.expired }
  | .superseded => { c with superseded := bump c.superseded }
  | .withdrawn => { c with withdrawn := bump c.withdrawn }
  | .outOfArea => { c with outOfArea := bump c.outOfArea }
  | .muted => { c with muted := bump c.muted }
  | .displaced => { c with displaced := bump c.displaced }
  | .flushed => { c with flushed := bump c.flushed }

/-- The summary of a completion carried out now (R130). -/
def State.summaryOf (s : State) (r : Record) (code : Code) : Summary :=
  { handle := r.handleValue, stream := r.key.stream, issueWord := r.key.issueWord r.area.isSome, revision := r.revision,
    code := code, epoch := s.time.epoch }

/-- The delay a completion's summary brings (R130). -/
def Record.summaryDelay (r : Record) (code : Code) : Nat := if code = .flushed then 0 else r.attrs.reportDelay

/-- Steps 2 to 5 of completion, for a record on no list (R130). -/
def State.finish (code : Code) (r : Record) (s : State) : State :=
  let s := s.joinReport (s.summaryOf r code) (r.summaryDelay code)
  let s := if code = .acknowledged && r.attrs.receiptMode.wantsAcknowledged then s.queueReceipt r .acknowledged else s
  let s := s.countRecords (RecordCounters.countCode code)
  match r.handle with
  | some h => s.onRecords (Records.freeSlot h)
  | none => s

/-- A record leaves the active list and the held list. -/
def Records.unlist (x : Record) (r : Records) : Records :=
  { r with active := r.active.filter fun y => y.handle != x.handle, held := r.held.filter fun y => y.handle != x.handle }

/-- A listed record completes at once (R130). -/
def State.complete (code : Code) (r : Record) (s : State) : State := (s.onRecords (Records.unlist r)).finish code r

/-- A DELIVERING record has its completion latched: it leaves the active list and keeps its slot (R131), and its pending reminder ends
(R148). -/
def State.latch (code : Code) (r : Record) (s : State) : State :=
  s.onRecords fun x =>
    { x.unlist r with
      latched := some { r with latched := some code, ackDeferred := code == .acknowledged, reminder := none } }

/-- A completion reaches a listed record: latched while DELIVERING, carried out at once otherwise. -/
def State.endRecord (code : Code) (r : Record) (s : State) : State :=
  if r.state = .delivering then s.latch code r else s.complete code r

/-- A completion reaches each of some listed records, in order. -/
def State.endAll (code : Code) (rs : List Record) (s : State) : State := rs.foldl (fun s r => s.endRecord code r) s

/-- The records of a key on the active list and on the held list complete (R82, R134). -/
def State.endKey (code : Code) (k : Key) (s : State) : State :=
  s.endAll code ((s.records.active ++ s.records.held).filter fun r => r.key == k)

/-! ## The active list (R120, R121) -/

/-- The capacity of the active list: 15 while a latched record holds its slot (R120). -/
def Records.capacity (r : Records) : Nat := if r.latched.isSome then 15 else 16

/-- A record put into the active list after every record of its own rank or a more important one (R121). -/
def Records.place (x : Record) (r : Records) : Records :=
  { r with active := insertBefore (fun y x => y.attrs.cls.rank ≤ x.attrs.cls.rank) x r.active }

/-- The record to displace: the last of the list that is not DELIVERING (R121). -/
def Records.lastToDisplace (r : Records) : Option Record := r.active.reverse.find? fun x => x.state != .delivering

/-- The newcomer among the active records, if it is still there, takes the oldest free slot (R118). -/
def Records.seat (entered : Nat) (r : Records) : Records :=
  if r.active.any fun x => x.entered == entered && x.handle.isNone then
    { r with
      active := r.active.map fun x => if x.entered == entered && x.handle.isNone then { x with handle := r.nextHandle } else x
      free := r.free.drop 1 }
  else r

/-- The displacement that an over-full active list asks for (R121). -/
def State.displace (s : State) : State :=
  if s.records.active.length > s.records.capacity then
    match s.records.lastToDisplace with
    | some v => s.complete .displaced v
    | none => s
  else s

/-- A record enters the active list in state WAITING, at creation or at its release (R121). -/
def State.enterActive (r : Record) (s : State) : State :=
  let n := s.records.entries
  let s := s.onRecords fun x => { x.place { r with state := .waiting, entered := n } with entries := n + 1 }
  s.displace.onRecords (Records.seat n)

/-! ## The held list (R106 to R108) -/

/-- A record joins the held list as its newest member and takes a slot (R107, R118). -/
def State.joinHeld (r : Record) (s : State) : State :=
  (s.onRecords fun x =>
    { x with held := x.held ++ [{ r with handle := x.nextHandle, state := .held }], free := x.free.drop 1 }).countArea
      fun c => { c with recordsHeld := bump c.recordsHeld }

/-- The held record of earliest lifetime end, the first to have joined among equals (R108). -/
def Records.earliestHeld (r : Records) : Option Record :=
  least (fun x y => x.lifetimeEnd.toNat < y.lifetimeEnd.toNat) r.held

/-- A record judged to be held joins the held list, or the record of earliest lifetime end among the nine completes OUT-OF-AREA
(R107, R108). -/
def State.hold (r : Record) (s : State) : State :=
  if s.records.held.length < Config.heldCapacity then s.joinHeld r
  else
    let overflow := State.countArea fun c => { c with heldOverflow := bump c.heldOverflow }
    match s.records.earliestHeld with
    | some e =>
      if r.lifetimeEnd.toNat ≤ e.lifetimeEnd.toNat then (overflow s).finish .outOfArea r
      else (overflow (s.complete .outOfArea e)).joinHeld r
    | none => s.joinHeld r

/-! ## Creation (R117) -/

/-- A finished alert (R58). -/
structure Alert where
  key : Key
  zone : Half
  cell : Word
  revision : BitVec 4
  text : List Byte
  lifetimeCode : Byte
  area : Option (List Vertex)
  attrs : Attributes
deriving DecidableEq, Repr

/-- The lifetime of an alert, in seconds (R37, R117). -/
def Alert.lifetime (a : Alert) : Nat :=
  (if a.lifetimeCode = 0 then a.attrs.defaultLifetime else a.lifetimeCode.toNat) * 300

/-- The fields a record takes from its alert (R117, steps 1 and 2). -/
def Alert.record (a : Alert) (epoch : Word) : Record :=
  { handle := none, key := a.key, zone := a.zone, cell := a.cell, revision := a.revision, attrs := a.attrs, text := a.text,
    area := a.area, verdict := none, lifetimeEnd := lifetimeEndOf epoch a.lifetime, state := .waiting, undelivered := true,
    redeliver := none, reminder := none, remindersLeft := a.attrs.reminderCount, deliveryStep := 0, ackDeferred := false,
    latched := none, entered := 0 }

/-- A new record is judged, and its span counted where it is ignored (R97, R105). -/
def State.judgeNew (r : Record) (s : State) : State × Record :=
  (if areaIgnored r.area then s.countArea fun c => { c with areaIgnored := bump c.areaIgnored } else s,
   { r with verdict := some (s.area.position.verdict r.area) })

/-- The record unit creates a record from a finished alert (R117). -/
def State.create (a : Alert) (s : State) : State :=
  let r := a.record s.time.epoch
  let s := s.countRecords fun c => { c with created := bump c.created }
  if a.attrs.muted then s.finish .muted r
  else
    let (s, r) := s.judgeNew r
    if (s.area.position.verdict r.area).presents r.attrs then s.enterActive r else s.hold r

end Sys2Proof.Machine
end

