-- ==== Sys2Proof/Machine/Delivery.lean ====
section
/-!
DEFINITION. The delivery engine (R122 to R127) and the P-port arbiter (R16, R17), which takes the engine's frames, replies, forwarded
frames and the pending report frame.
-/

namespace Sys2Proof.Machine

/-! ## Selection (R122) -/

/-- How many reminder steps ago a record's reminder was set; the step wraps at 65536. -/
def Record.reminderAge (step : Half) (r : Record) : Nat :=
  match r.reminder with
  | some stamp => (step - stamp).toNat
  | none => 0

/-- The first record in list order that wants a full delivery. -/
def Records.nextDelivery (r : Records) : Option Record := r.active.find? Record.wantsDelivery

/-- The record with the oldest pending reminder, list order among those of one step. -/
def Records.nextReminder (step : Half) (r : Records) : Option Record :=
  least (fun x y => x.reminderAge step > y.reminderAge step) (r.active.filter fun x => x.reminder.isSome)

/-- The parts of a sequence in the order they are sent (R123). -/
def Record.partOrder (r : Record) : List Nat :=
  let n := partCount r.text.length
  let first := if r.undelivered then 1 else r.redeliver.getD 1
  (List.range' first (n + 1 - first)) ++ List.range' 1 (first - 1)

/-! ## The frames of a sequence -/

/-- A record of the active list changed in place. -/
def Records.update (x : Record) (f : Record → Record) (r : Records) : Records :=
  { r with active := r.active.map fun y => if y.handle == x.handle then f y else y }

/-- The record a sequence carries: DELIVERING on the active list, or latched. -/
def Records.delivering (slot : Nat) (r : Records) : Option Record :=
  (r.active ++ r.latched.toList).find? fun x => x.state == .delivering && (x.handle.map Handle.slot) == some slot

/-- Step 1 and 2 of the take of a last frame: what a first delivery or a redelivery records (R126). -/
def State.countDelivery (r : Record) (s : State) : State :=
  if r.undelivered then
    let s := s.countRecords fun c => { c with firstDeliveries := bump c.firstDeliveries }
    if (r.latched.isNone || r.ackDeferred) && r.attrs.receiptMode.wantsDelivered then s.queueReceipt r .delivered else s
  else s.countRecords fun c => { c with redeliveries := bump c.redeliveries }

/-- A record after the last frame of its sequence (R126, steps 1 to 3). -/
def Record.afterSequence (step : Half) (r : Record) : Record :=
  { r with undelivered := false, redeliver := none, deliveryStep := if r.undelivered then step else r.deliveryStep }

/-- The take of the last frame of a sequence (R126). -/
def State.lastFrame (r : Record) (s : State) : State :=
  let s := (s.countDelivery r).onRecords fun x => { x with delivery := none }
  match r.latched with
  | none => s.onRecords (Records.update r fun y => { y.afterSequence s.ack.step with state := .delivered })
  | some code => (s.onRecords fun x => { x with latched := none }).finish code (r.afterSequence s.ack.step)

/-- The take of the next frame of the sequence in progress (R17, R124 to R126). -/
def State.takeSequenceFrame (d : Delivery) (s : State) : State :=
  match d.left, s.records.delivering d.slot with
  | i :: rest, some r =>
    let s := s.send .p .delivery ⟨deliveryChannel, r.partPayload s.time.epoch d.count i⟩
    if rest.isEmpty then s.lastFrame r else s.onRecords fun x => { x with delivery := some { d with left := rest } }
  | _, _ => s.onRecords fun x => { x with delivery := none }

/-- A full delivery of a record begins, and its first frame is taken (R123, R125). -/
def State.beginDelivery (r : Record) (s : State) : State :=
  match r.handle with
  | some h =>
    let d : Delivery := { slot := h.slot, count := partCount r.text.length, left := r.partOrder }
    (s.onRecords fun x => { x.update r fun y => { y with state := .delivering } with delivery := some d }).takeSequenceFrame d
  | none => s

/-- A REMIND frame of a record is taken (R127). -/
def State.takeRemind (r : Record) (s : State) : State :=
  ((s.send .p .delivery ⟨deliveryChannel, r.remindPayload s.time.epoch⟩).onRecords
    (Records.update r fun y => { y with reminder := none })).countRecords fun c => { c with remindersSent := bump c.remindersSent }

/-- The delivery engine's work is taken: a full delivery, else a reminder (R122). So too where a FETCH RECORD was taken with the record's
reminder pending: the redelivery goes first and the REMIND after it, as R122 ranks them, where a row of R129 has the REMIND go out and the
redelivery follow (DESIGN CHOICE, log entry 32). -/
def State.takeDeliveryWork (s : State) : State :=
  match s.records.nextDelivery with
  | some r => s.beginDelivery r
  | none =>
    match s.records.nextReminder s.ack.step with
    | some r => s.takeRemind r
    | none => s

/-! ## The P-port arbiter (R16) -/

def State.setLastForwarded (b : Bool) (s : State) : State := s.onLink fun l => { l with lastForwarded := b }

/-- The oldest forwarded frame is taken. -/
def State.takeForwarded (s : State) : State :=
  match s.link.toP with
  | f :: _ => (s.send .p .forwarded f).setLastForwarded true
  | [] => s

/-- The oldest reply is taken. -/
def State.takeReply (s : State) : State :=
  match s.management.replies with
  | r :: _ => s.send .p .reply ⟨managementChannel, r⟩
  | [] => s

/-- The pending report frame is built and taken (R162). -/
def State.takeReport (s : State) : State :=
  (s.send .p .report s.reportFrame).onReport fun _ => { queue := [], countdown := none }

/-- The choice of the P-port arbiter: the first of the six that applies (R16). -/
def State.arbitrateP (s : State) : State :=
  match s.records.delivery with
  | some d => (s.takeSequenceFrame d).setLastForwarded false
  | none =>
    if !s.management.replies.isEmpty then s.takeReply.setLastForwarded false
    else if !s.link.toP.isEmpty && !s.link.lastForwarded then s.takeForwarded
    else if s.deliveryWork then s.takeDeliveryWork.setLastForwarded false
    else if s.reportPending then s.takeReport.setLastForwarded false
    else s.takeForwarded

/-- Whether the P-port arbiter finds a frame to take. -/
def State.frameForP (s : State) : Bool :=
  s.records.delivery.isSome || !s.management.replies.isEmpty || !s.link.toP.isEmpty || s.deliveryWork || s.reportPending

def execPPortArbiter (s : State) : Host.Outcome State Fault Refusal :=
  s.occur (s.link.p.canStart && s.frameForP) State.arbitrateP

end Sys2Proof.Machine
end

