-- ==== Sys2Proof/Machine/History.lean ====
section
/-!
DEFINITION. Chapter 4: the history index. Revision comparison, the resolution of notices and withdrawals, refresh and offer, expiry,
eviction, restamping, the refill of CLEAR HISTORY; and the offer to the pending write list (R176).
-/

namespace Sys2Proof.Machine

/-! ## The pending write list takes an offer (R176) -/

/-- A key is offered to the pending write list. -/
def State.offer (k : Key) (s : State) : State :=
  if s.store.ramOnly || s.store.writes.contains k then s
  else if s.store.writes.length < Config.writeListCapacity then s.onStore fun x => { x with writes := x.writes ++ [k] }
  else s.countHistory fun c => { c with writeDeferrals := bump c.writeDeferrals }

/-- Keys are offered one after another. -/
def State.offerAll (ks : List Key) (s : State) : State := ks.foldl (fun s k => s.offer k) s

/-! ## Entries (R69, R75, R88) -/

def Index.find (x : Index) (k : Key) : Option Entry := x.entries.find? fun e => e.fields.key == k

/-- A slot program of this key, if one is running, has its entry changed under it (R87, R177). -/
def Running.touch (k : Key) (r : Running) : Running :=
  match r with
  | .slotProgram w => .slotProgram { w with touched := w.touched || w.fields.key == k }
  | _ => r

def Store.touch (k : Key) (x : Store) : Store := { x with running := x.running.map (Running.touch k) }

/-- A slot program of a key whose entry is removed, if one is running, is marked so (R88, R177, R178). -/
def Running.forget (gone : Key → Bool) (r : Running) : Running :=
  match r with
  | .slotProgram w => .slotProgram { w with removed := w.removed || gone w.fields.key }
  | _ => r

/-- Keys whose entries are removed leave the pending write list, and a retry due for one is not made (R88, R178). -/
def Store.forget (gone : Key → Bool) (x : Store) : Store :=
  { x with
    running := x.running.map (Running.forget gone)
    writes := x.writes.filter fun k => !gone k
    retry := x.retry.filter fun k => !gone k }

/-- The fields of an entry created or changed now (R75, steps 1 to 4). -/
def Timebase.stamp (t : Timebase) (k : Key) (revision : BitVec 4) (state : EntryState) (horizon : Nat) : EntryFields :=
  { key := k, revision := revision, state := state, time := t.wall, horizon := horizon, timeUnset := !t.timeSet,
    expiry := expiryOf t.wall horizon }

/-- An entry's fields changed in place, or a new entry made as the newest in index order; it is unpersisted either way (R70, R75). -/
def Index.put (f : EntryFields) (x : Index) : Index :=
  if (x.find f.key).isSome then
    { x with entries := x.entries.map fun e => if e.fields.key == f.key then { e with fields := f, persisted := false } else e }
  else { x with entries := x.entries ++ [{ fields := f, persisted := false, location := none }] }

/-- An entry is created or changed, and its key offered for persistence, in one event (R75, R87). -/
def State.putEntry (f : EntryFields) (s : State) : State :=
  ((s.onIndex (Index.put f)).onStore (Store.touch f.key)).offer f.key

/-- An entry is removed, its key taken off the pending write list and its due retry dropped (R88, R178). -/
def State.removeEntry (k : Key) (s : State) : State :=
  (s.onIndex fun x => { x with entries := x.entries.filter fun e => e.fields.key != k }).onStore (Store.forget (· == k))

/-- The sweep after a history write has ended: the oldest unpersisted entry not on the list joins it (R177); not in RAM-ONLY. -/
def State.sweepUnpersisted (s : State) : State :=
  if s.store.ramOnly || s.store.writes.length ≥ Config.writeListCapacity then s
  else
    match s.index.entries.find? fun e => !e.persisted && !s.store.writes.contains e.fields.key with
    | some e => s.onStore fun x => { x with writes := x.writes ++ [e.fields.key] }
    | none => s

/-- Where a removal has dropped a retry that was due, its history write has ended, and the sweep follows (R177, R178, log entry 12). -/
def State.afterRemovals (due : Option Key) (s : State) : State :=
  if due.isSome && s.store.retry.isNone then s.sweepUnpersisted else s

/-! ## Eviction (R85, R86) -/

/-- The order of eviction: earliest expiry, then earliest entry time. -/
def Entry.evictedBefore (a b : Entry) : Bool :=
  a.fields.expiry.toNat < b.fields.expiry.toNat ||
    (a.fields.expiry == b.fields.expiry && a.fields.time.toNat < b.fields.time.toNat)

/-- The victim of an eviction: among entries whose key no live record names, the first of the order, index order breaking ties. -/
def State.evictionVictim (s : State) : Option Entry :=
  least Entry.evictedBefore (s.index.entries.filter fun e => !s.named e.fields.key)

/-- Room made for a new entry where the index is full (R85). -/
def State.makeRoom (s : State) : State :=
  if s.index.entries.length < Config.indexCapacity then s
  else
    match s.evictionVictim with
    | some e =>
      ((s.removeEntry e.fields.key).countHistory fun c => { c with indexEvictions := bump c.indexEvictions }).afterRemovals
        s.store.retry
    | none => s

/-! ## Resolution (R72, R73) -/

/-- A revision is newer than another when it is 1 to 7 ahead, modulo 16 (R72). -/
def newerRevision (r r0 : BitVec 4) : Bool := 1 ≤ (r - r0).toNat && (r - r0).toNat ≤ 7

inductive NoticeOutcome where
  | new
  | newer
  | reissue
  | duplicate
deriving DecidableEq, Repr

/-- The resolution of a notice (Table 4-3). -/
def Index.resolveNotice (x : Index) (k : Key) (r : BitVec 4) : NoticeOutcome :=
  match x.find k with
  | none => .new
  | some e =>
    if newerRevision r e.fields.revision then
      match e.fields.state with
      | .noticeSeen => .newer
      | .withdrawn => .reissue
    else .duplicate

inductive WithdrawalOutcome where
  | orphan
  | apply
  | stale
  | raise
  | duplicate
deriving DecidableEq, Repr

/-- The resolution of a withdrawal (Table 4-4). -/
def Index.resolveWithdrawal (x : Index) (k : Key) (r : BitVec 4) : WithdrawalOutcome :=
  match x.find k with
  | none => .orphan
  | some e =>
    match e.fields.state with
    | .noticeSeen => if newerRevision r e.fields.revision || r == e.fields.revision then .apply else .stale
    | .withdrawn => if newerRevision r e.fields.revision then .raise else .duplicate

/-- A notice resolved at completion changes the index and asks the record unit to end what it supersedes (R76, R77, R78). -/
def State.takeNotice (k : Key) (r : BitVec 4) (horizon : Nat) (s : State) : State :=
  match s.index.resolveNotice k r with
  | .new =>
    ((s.makeRoom).putEntry (s.time.stamp k r .noticeSeen horizon)).countHistory fun c =>
      { c with noticesNew := bump c.noticesNew }
  | .newer =>
    ((s.endKey .superseded k).putEntry (s.time.stamp k r .noticeSeen horizon)).countHistory fun c =>
      { c with noticesNewer := bump c.noticesNewer }
  | .reissue =>
    ((s.endKey .superseded k).putEntry (s.time.stamp k r .noticeSeen horizon)).countHistory fun c =>
      { c with noticesReissued := bump c.noticesReissued }
  | .duplicate => s

/-- A withdrawal (R79, R80). -/
def State.takeWithdrawal (k : Key) (r : BitVec 4) (horizon : Nat) (s : State) : State :=
  match s.index.resolveWithdrawal k r with
  | .orphan =>
    ((s.makeRoom).putEntry (s.time.stamp k r .withdrawn horizon)).countHistory fun c =>
      { c with withdrawalsOrphan := bump c.withdrawalsOrphan }
  | .apply =>
    ((s.endKey .withdrawn k).putEntry (s.time.stamp k r .withdrawn horizon)).countHistory fun c =>
      { c with withdrawalsApplied := bump c.withdrawalsApplied }
  | .raise =>
    (s.putEntry (s.time.stamp k r .withdrawn horizon)).countHistory fun c =>
      { c with withdrawalsRaised := bump c.withdrawalsRaised }
  | .stale => s.countHistory fun c => { c with withdrawalsStale := bump c.withdrawalsStale }
  | .duplicate => s.countHistory fun c => { c with withdrawalsDuplicate := bump c.withdrawalsDuplicate }

/-! ## Expiry, restamping, refill (R83, R84, R89) -/

/-- The keys the expiry sweep removes (R84). -/
def State.expiredKeys (s : State) : List Key :=
  (s.index.entries.filter fun e => e.fields.expiry.toNat ≤ s.time.wall.toNat && !s.named e.fields.key).map (·.fields.key)

/-- The expiry sweep of one epoch (R84): none while time is unset or the scan runs. -/
def State.sweepExpired (s : State) : State :=
  if s.time.timeSet && !s.scanning then
    (s.expiredKeys.foldl
      (fun s k => (s.removeEntry k).countHistory fun c => { c with entriesExpired := bump c.entriesExpired }) s).afterRemovals
        s.store.retry
  else s

/-- Every entry whose time-unset flag is set takes the wall time just set (R83). -/
def State.restamp (s : State) : State :=
  (s.index.entries.filter fun e => e.fields.timeUnset).foldl
    (fun s e => s.putEntry (s.time.stamp e.fields.key e.fields.revision e.fields.state e.fields.horizon)) s

/-- The index is emptied and refilled with an entry for each record on the active list and the held list (R89). An entry keeps the horizon
of the entry that stood for the key; every such record has one (R81). -/
def State.refillIndex (s : State) : State :=
  let old := s.index
  let emptied := (s.onIndex fun x => { x with entries := [] }).onStore (Store.forget fun _ => true)
  (s.records.active ++ s.records.held).foldl
    (fun s r =>
      s.putEntry (s.time.stamp r.key r.revision .noticeSeen (((old.find r.key).map fun e => e.fields.horizon).getD 1)))
    emptied

end Sys2Proof.Machine
end

