-- ==== Sys2Proof/Machine/Window.lean ====
section
/-!
DEFINITION. Chapter 2: matching and classification, and the load of the override windows.
-/

namespace Sys2Proof.Machine

/-- A window matches a stream when they agree in every bit of the mask (R23). -/
def Window.matches (w : Window) (stream : Half) : Bool := stream &&& w.mask == w.base &&& w.mask

/-- The windows with their identities in the order they are tested: V0 to V3, then W0 to W15 (R24). -/
def Windows.inOrder (w : Windows) : List (WindowName × Window) :=
  (w.override.zipIdx.map fun e => (.override e.2, e.1)) ++ w.ordinary.zipIdx.map fun e => (.ordinary e.2, e.1)

/-- The answer to a classification of a stream (R24, R25): the first valid window that matches, given by its identity together with its
values as they stand; `none` is UNLISTED. -/
def Windows.answer (w : Windows) (stream : Half) : Option (WindowName × Window) :=
  w.inOrder.find? fun x => x.2.valid && x.2.matches stream

/-- What a requester keeps of the answer: the window's values; no requester keeps the identity (R25). -/
def Windows.classify (w : Windows) (stream : Half) : Option Window := (w.answer stream).map Prod.snd

/-- The window an index from 0 to 19 names; 16 to 19 name V0 to V3 (R34). -/
def Windows.at (w : Windows) (i : Nat) : Window := (w.ordinary ++ w.override).getD i .cleared

/-- An ordinary window written whole (R32). -/
def Windows.setOrdinary (i : Nat) (x : Window) (w : Windows) : Windows := { w with ordinary := w.ordinary.set i x }

/-- The muted attribute of an ordinary window set or cleared (R33). -/
def Windows.setMuted (i : Nat) (muted : Bool) (w : Windows) : Windows :=
  { w with ordinary := w.ordinary.modify i fun x => { x with attrs := { x.attrs with muted := muted } } }

/-- One override window loaded from its provisioning slot (R38, R39). -/
def State.loadOverride (n : Nat) (s : State) : State :=
  s.onWindows fun w => { w with override := w.override.set n (s.provisioningSlot n).window }

/-- Every override window loaded from its provisioning slot (R38). -/
def State.loadOverrides (s : State) : State :=
  s.onWindows fun w => { w with override := s.array.provisioning.map ProvisioningSlot.window }

end Sys2Proof.Machine
end

