-- ==== Sys2Proof/Machine/Store.lean ====
section
/-!
DEFINITION. Chapter 9: the array controller's programs, amends and erases; rotation, reclaim, failures and RAM-ONLY; provisioning
programs; the course of a CLEAR HISTORY.
-/

namespace Sys2Proof.Machine

/-! ## Deferred replies (R193, R200) -/

/-- A deferred reply is made: it replaces its reservation and joins the reply queue as the newest. -/
def State.deferredReply (r : Request) (tag : Byte) (result : Result) (s : State) : State :=
  s.onManagement fun g => { g with replies := g.replies ++ [replyPayload r.code tag result []], reserved := false }

/-! ## Header amends (R171, R179) -/

def Amend.isOpening : Amend → Bool
  | .opening _ => true
  | _ => false

/-- The header after an amend has programmed it. -/
def Sector.program (a : Amend) (x : Sector) : Sector :=
  match a with
  | .opening q => { x with sequence := some q, opened := true, doubt := none }
  | .full => { x with full := true, doubt := none }
  | .retiring => { x with retiring := true, doubt := none }
  | .worn => { x with worn := true, doubt := none }

/-- The header amends that wait or run. -/
def Store.outstanding (x : Store) : List AmendRequest :=
  (match x.running with
   | some (.headerAmend r) => [r]
   | _ => []) ++ x.amends

def Store.hasAmend (x : Store) (k : Nat) (a : Amend) : Bool := x.outstanding.any fun r => r.sector == k && r.amend == a

/-- Whether the opening of some sector waits or runs. -/
def Store.openingRequested (x : Store) : Bool := x.outstanding.any fun r => r.amend.isOpening

/-- A header amend is requested. -/
def Store.requestAmend (k : Nat) (a : Amend) (x : Store) : Store := { x with amends := x.amends ++ [⟨k, a, false⟩] }

/-- The sequence for the next sector to be opened: that of the last current sector plus 1 (R179); where there has been none since the
scan, that of the newest FULL sector plus 1, or 0 (as R188). -/
def State.nextSequence (s : State) : Half :=
  match s.store.lastSequence with
  | some q => q + 1
  | none =>
    match (s.bySequence (s.sectorsIn .full)).getLast? with
    | some k => s.sequenceOf k + 1
    | none => 0

/-- Whether the current sector is FULL, or no sector is current (R179, R181). -/
def State.needsSuccessor (s : State) : Bool :=
  match s.store.current with
  | some k => (s.sector k).state == .full
  | none => true

/-- The opening of the lowest-numbered ERASED sector is requested, where a successor is needed, one exists and none is being opened
(R179); never in RAM-ONLY (R182) or while a CLEAR HISTORY is in progress (R181). -/
def State.openSuccessor (s : State) : State :=
  if s.needsSuccessor && !s.store.ramOnly && s.store.clear.isNone && !s.store.openingRequested then
    match (s.sectorsIn .erased).head? with
    | some k => s.onStore (Store.requestAmend k (.opening s.nextSequence))
    | none => s
  else s

/-- The amend of the current sector to FULL is requested (R178, R179), once; a CLEAR HISTORY in progress retires the sector instead (DEDUCED, log
entry 13). -/
def State.closeCurrent (k : Nat) (s : State) : State :=
  if s.store.current == some k && s.store.clear.isNone && (s.sector k).state == .opened && !s.store.hasAmend k .full then
    s.onStore (Store.requestAmend k .full)
  else s

/-- A current sector with no next slot is amended FULL (R179). -/
def State.closeWhenUsed (k : Nat) (s : State) : State := if (s.sector k).nextSlot.isNone then s.closeCurrent k else s

/-! ## Reclaim (R180) -/

/-- The conditions of R180; no reclaim starts in RAM-ONLY (R182) or before the scan ends (R189). -/
def State.reclaimDue (s : State) : Bool :=
  (match s.store.current with
   | some k => (s.sector k).usedSlots ≥ 56 || (s.sector k).state == .full
   | none => true) &&
    (s.sectorsIn .erased).isEmpty && s.store.reclaims.isEmpty && s.store.clear.isNone && !s.store.ramOnly && !s.scanning

/-- Whether a sector other than the current one is FULL, or OPEN and treated as FULL (R188). -/
def State.treatedAsFull (s : State) (k : Nat) : Bool :=
  s.store.current != some k && ((s.sector k).state == .full || (s.sector k).state == .opened)

/-- The sector to reclaim: the oldest FULL sector other than the current one. -/
def State.reclaimTarget (s : State) : Option Nat := (s.bySequence (s.usableSectors.filter s.treatedAsFull)).head?

/-- Whether an entry's location lies in a sector. -/
def Entry.livesIn (k : Nat) (e : Entry) : Bool := e.location.any fun l => l.1 == k

/-- The start of a reclaim (R180): the sector's entries become unpersisted and are offered, its RETIRING amend and its erase queued. -/
def State.startReclaim (k : Nat) (s : State) : State :=
  let keys := (s.index.entries.filter (Entry.livesIn k)).map (·.fields.key)
  let s := s.onIndex fun x =>
    { x with entries := x.entries.map fun e => if e.livesIn k then { e with persisted := false, location := none } else e }
  (s.offerAll keys).onStore fun x =>
    { x.requestAmend k .retiring with erases := x.erases ++ [k], reclaims := x.reclaims ++ [k] }

/-- The conditions of a reclaim are examined. -/
def State.examineReclaim (s : State) : State :=
  if s.reclaimDue then
    match s.reclaimTarget with
    | some k => s.startReclaim k
    | none => s
  else s

/-! ## Unusable sectors and RAM-ONLY (R179, R181, R182) -/

/-- The store enters RAM-ONLY when fewer than 2 history sectors are usable (R182); an opening that already waits or runs goes on (log
entry 30). -/
def State.checkRamOnly (s : State) : State :=
  if s.usableSectors.length < 2 then s.onStore fun x => { x with ramOnly := true, writes := [], retry := none } else s

/-- A sector is not used again: it stops being current, and no amend or erase of it goes on waiting. -/
def Store.retireForGood (k : Nat) (x : Store) : Store :=
  { x with
    takenWorn := x.takenWorn ++ [k]
    current := if x.current == some k then none else x.current
    amends := x.amends.filter fun r => r.sector != k
    erases := x.erases.filter (· != k)
    reclaims := x.reclaims.filter (· != k) }

/-! ## CLEAR HISTORY (R187) -/

/-- The clear ends, with its reply (R187, step 5). -/
def State.finishClear (tag : Byte) (s : State) : State :=
  (s.onStore fun x => { x with clear := none }).deferredReply .clearHistory tag .done

/-- The clear goes on to step 4 when its retirements and erases are done: an opening is requested, or the clear ends in RAM-ONLY
(R187). -/
def State.settleClear (s : State) : State :=
  match s.store.clear with
  | none => s
  | some c =>
    if (s.store.outstanding.any fun r => r.amend == .retiring) || !s.store.erases.isEmpty || s.store.erase.isSome then s
    else if s.usableSectors.length < 2 then s.checkRamOnly.finishClear c.tag
    else if s.store.openingRequested then s
    else
      match (s.sectorsIn .erased).head? with
      | some k => s.onStore fun x => { x.requestAmend k (.opening 0) with clear := some { c with opening := true } }
      | none => s.finishClear c.tag

/-- The usable OPEN and FULL sectors, lowest first: those the clear retires. -/
def State.sectorsToRetire (s : State) : List Nat :=
  s.usableSectors.filter fun k =>
    ((s.sector k).state == .opened || (s.sector k).state == .full) && !s.store.hasAmend k .retiring

/-- The usable sectors, lowest first, whose erase is neither queued nor in flight. -/
def State.sectorsToErase (s : State) : List Nat :=
  s.usableSectors.filter fun k => !s.store.erases.contains k && !(s.store.erase.any fun e => e.sector == k)

/-- The clear begins: retirements and erases are queued, and openings that wait are not made (R181, R187). -/
def State.beginClear (tag : Byte) (s : State) : State :=
  (s.onStore fun x =>
    { x with
      amends := (x.amends.filter fun r => !r.amend.isOpening) ++ s.sectorsToRetire.map fun k => ⟨k, .retiring, false⟩
      erases := x.erases ++ s.sectorsToErase
      clear := some { tag := tag, opening := false } }).settleClear

/-! ## History writes (R177, R178) -/

/-- Whether the controller takes a history write next (R173). -/
def State.canWrite (s : State) : Bool :=
  s.controllerFree && !s.provisioningWaiting && s.store.amends.isEmpty && s.writeWaiting

/-- The key a history write takes: the due retry, else the oldest on the list; and whether it is a retry. -/
def Store.nextWrite (x : Store) : Option (Key × Bool) :=
  match x.retry with
  | some k => some (k, true)
  | none => x.writes.head?.map fun k => (k, false)

/-- The key of a starting write leaves the list, and a retry is no longer due (R176, R177). -/
def Store.takeWrite (k : Key) (x : Store) : Store := { x with writes := x.writes.erase k, retry := none }

/-- A history write starts: its key leaves the list, the entry is read as it stands, the slot program begins (R177). -/
def State.startWrite (s : State) : State :=
  match s.store.nextWrite, s.store.current with
  | some (k, retry), some n =>
    match s.index.find k, (s.sector n).nextSlot with
    | some e, some slot =>
      s.onStore fun x =>
        { x.takeWrite k with
          running :=
            some (.slotProgram
              { sector := n, slot := slot, fields := e.fields, retry := retry, touched := false, removed := false }) }
    | _, _ => s.onStore (Store.takeWrite k)
  | _, _ => s

def execHistoryWrite (s : State) : Host.Outcome State Fault Refusal :=
  s.occur s.canWrite State.startWrite

/-- An entry becomes persisted with a location. -/
def Index.persist (k : Key) (location : Nat × Nat) (x : Index) : Index :=
  { x with
    entries := x.entries.map fun e => if e.fields.key == k then { e with persisted := true, location := some location } else e }

/-- A slot program has succeeded (R177). -/
def State.writeCommitted (w : SlotProgram) (s : State) : State :=
  let s := (s.onSector w.sector fun x => { x with slots := x.slots.set w.slot (.committed w.fields) }).countHistory fun c =>
    { c with writesCommitted := bump c.writesCommitted }
  let s := if w.touched then s else s.onIndex (Index.persist w.fields.key (w.sector, w.slot))
  s.sweepUnpersisted

/-- A slot program has failed: its slot is void, the failures are counted, and the write is retried or ends (R178). -/
def State.writeFailed (w : SlotProgram) (slot : Slot) (s : State) : State :=
  let s := (s.onSector w.sector fun x => { x with slots := x.slots.set w.slot slot }).countHistory fun c =>
    { c with programFailures := bump c.programFailures }
  let s := s.onStore fun x => { x with failures := x.failures.modify w.sector (· + 1) }
  let s :=
    if !w.retry && !w.removed && !s.store.ramOnly then
      s.onStore fun x => { x with retry := some w.fields.key }
    else s.sweepUnpersisted
  if s.store.failures.getD w.sector 0 ≥ 2 then s.closeCurrent w.sector else s

/-- A slot of a sector has become used: a sector with no next slot closes, and the conditions of a reclaim are examined (R179,
R180). -/
def State.slotUsed (k : Nat) (s : State) : State := (s.closeWhenUsed k).examineReclaim

/-- A slot program ends with its verify results. The sweep that follows the end of the write (R177) comes first; then the slot it used may
close its sector and start a reclaim (R179, R180), whose offers come after the swept key (DESIGN CHOICE, log entry 33). -/
def State.slotProgramEnd (verify : SlotVerify) (w : SlotProgram) (s : State) : State :=
  let s := s.onStore fun x => { x with running := none }
  (match verify with
   | .passed => s.writeCommitted w
   | .fieldsFailed => s.writeFailed w .void
   | .markFailed => s.writeFailed w (.markFailed w.fields)).slotUsed w.sector

def execSlotProgramEnd (verify : SlotVerify) (s : State) : Host.Outcome State Fault Refusal :=
  match s.store.running with
  | some (.slotProgram w) => s.occur true (State.slotProgramEnd verify w)
  | _ => s.occur false id

/-! ## Header amends run (R173, R179) -/

/-- The oldest header amend starts; when a clear retires its first sector, no sector is current (R187). -/
def State.startAmend (s : State) : State :=
  match s.store.amends with
  | r :: rest =>
    s.onStore fun x =>
      { x with
        amends := rest
        running := some (.headerAmend r)
        current := if r.amend == .retiring && x.clear.isSome then none else x.current }
  | [] => s

def execHeaderAmend (s : State) : Host.Outcome State Fault Refusal :=
  s.occur (s.controllerFree && !s.provisioningWaiting && !s.store.amends.isEmpty) State.startAmend

/-- A sector has been opened: it becomes current with failure count 0 (R179); the opening of a clear ends the clear (R187). A sector
whose opening was running when a clear began is retired like the others. -/
def State.opened (k : Nat) (q : Half) (s : State) : State :=
  match s.store.clear with
  | some c =>
    if c.opening then
      (s.onStore fun x => { x with current := some k, lastSequence := some q, failures := x.failures.set k 0 }).finishClear c.tag
    else s.onStore (Store.requestAmend k .retiring)
  | none => s.onStore fun x => { x with current := some k, lastSequence := some q, failures := x.failures.set k 0 }

/-- A header amend has succeeded. -/
def State.amendPassed (r : AmendRequest) (s : State) : State :=
  let s := s.onSector r.sector (Sector.program r.amend)
  match r.amend with
  | .opening q => s.opened r.sector q
  | .full => s.openSuccessor.examineReclaim
  | .retiring => s.settleClear
  | .worn => s

/-- A header amend has failed its verify: it is made once more, ahead of the amends that wait (log entry 31), and a second failure takes the
sector as WORN (R179). -/
def State.amendFailed (r : AmendRequest) (s : State) : State :=
  let s := s.onSector r.sector fun x => { x with doubt := some r.amend }
  if !r.again then s.onStore fun x => { x with amends := { r with again := true } :: x.amends }
  else if r.amend = .worn then s
  else
    let s := (s.onStore (Store.retireForGood r.sector)).checkRamOnly
    s.openSuccessor.settleClear

def State.amendEnd (passed : Bool) (r : AmendRequest) (s : State) : State :=
  let s := s.onStore fun x => { x with running := none }
  if passed then s.amendPassed r else s.amendFailed r

def execHeaderAmendEnd (passed : Bool) (s : State) : Host.Outcome State Fault Refusal :=
  match s.store.running with
  | some (.headerAmend r) => s.occur true (State.amendEnd passed r)
  | _ => s.occur false id

/-! ## Erases (R173 to R175, R181) -/

/-- The oldest queued erase starts, not in a minimum run. -/
def State.startErase (s : State) : State :=
  match s.store.erases with
  | k :: rest =>
    s.onStore fun x =>
      { x with erases := rest, erase := some { sector := k, condition := .running, minimumRun := false, ranMicros := 0 } }
  | [] => s

def execEraseStart (s : State) : Host.Outcome State Fault Refusal :=
  s.occur (s.controllerFree && s.store.erase.isNone && !s.programWaiting && !s.store.erases.isEmpty && !s.scanning)
    State.startErase

/-- A SUSPENDING erase can stop with this running time: not less than it had, and below 24 ms (R174). -/
def Erase.canStop (t : Nat) (e : Erase) : Bool :=
  e.condition == .suspending && e.ranMicros ≤ t && t < Config.eraseMicros

/-- A SUSPENDING erase becomes SUSPENDED and is counted (R174). -/
def State.suspendErase (t : Nat) (s : State) : State :=
  (s.onStore fun x =>
    { x with erase := x.erase.map fun e => { e with condition := .suspended, minimumRun := false, ranMicros := t } }).countHistory
      fun c => { c with eraseSuspensions := bump c.eraseSuspensions }

def execEraseSuspend (t : Nat) (s : State) : Host.Outcome State Fault Refusal :=
  s.occur (s.store.erase.any (Erase.canStop t)) (State.suspendErase t)

/-- A SUSPENDED erase resumes and enters its minimum run (R174, R175). -/
def State.resumeErase (s : State) : State :=
  s.onStore fun x => { x with erase := x.erase.map fun e => { e with condition := .running, minimumRun := true } }

def execEraseResume (s : State) : Host.Outcome State Fault Refusal :=
  s.occur ((s.store.erase.any fun e => e.condition == .suspended) && s.store.running.isNone && !s.programWaiting)
    State.resumeErase

/-- The minimum run of a resumed erase can end before its 24 ms do (R175). -/
def Erase.minimumRunEnds (e : Erase) : Bool :=
  e.condition == .running && e.minimumRun && e.ranMicros + Config.minimumRunMicros < Config.eraseMicros

/-- The minimum run ends (R175); the erase becomes SUSPENDING if a program waits, as after any event. -/
def State.endMinimumRun (s : State) : State :=
  s.onStore fun x =>
    { x with
      erase := x.erase.map fun e => { e with minimumRun := false, ranMicros := e.ranMicros + Config.minimumRunMicros } }

def execMinimumRunEnd (s : State) : Host.Outcome State Fault Refusal :=
  s.occur (s.store.erase.any Erase.minimumRunEnds) State.endMinimumRun

/-- An erase has passed its verify: the sector is ERASED (R181). -/
def State.erasePassed (k : Nat) (s : State) : State :=
  let s := (s.onSector k fun x => { Sector.erased with slots := List.replicate x.slots.length .blank }).countHistory fun c =>
    { c with erasesCompleted := bump c.erasesCompleted }
  (s.onStore fun x => { x with reclaims := x.reclaims.filter (· != k) }).openSuccessor.examineReclaim.settleClear

/-- An erase has failed its verify: the sector is not used again, and its WORN mark is requested (R181). -/
def State.eraseFailed (k : Nat) (s : State) : State :=
  let s := (s.onSector k fun x => { x with halfErased := true }).countHistory fun c =>
    { c with eraseFailures := bump c.eraseFailures }
  let s := (s.onStore fun x => (x.retireForGood k).requestAmend k .worn).checkRamOnly
  s.examineReclaim.settleClear

/-- An erase reaches 24 ms of running time. -/
def State.endErase (passed : Bool) (k : Nat) (s : State) : State :=
  let s := s.onStore fun x => { x with erase := none }
  if passed then s.erasePassed k else s.eraseFailed k

def execEraseEnd (passed : Bool) (s : State) : Host.Outcome State Fault Refusal :=
  match s.store.erase with
  | some e => s.occur (e.condition != .suspended) (State.endErase passed e.sector)
  | none => s.occur false id

/-! ## Provisioning programs (R185, R186) -/

/-- The waiting provisioning program starts. -/
def execProvisioningProgram (s : State) : Host.Outcome State Fault Refusal :=
  s.occur (s.controllerFree && s.provisioningWaiting) (State.onStore fun x => { x with running := some .provisioning })

/-- A provisioning program is no longer in flight, and its reply is made. -/
def State.endJob (j : ProvisioningJob) (result : Result) (s : State) : State :=
  (s.onStore fun x => { x with job := none }).deferredReply
    (match j.target with
     | .copy _ _ => .provision
     | .lock _ => .lockProvision) j.tag result

/-- A provisioning program has passed its verify: the copy is committed and its window reloaded, or the slot is locked. -/
def State.provisioningPassed (j : ProvisioningJob) (s : State) : State :=
  let s := s.countHistory fun c => { c with provisioningPrograms := bump c.provisioningPrograms }
  match j.target with
  | .copy n b =>
    (((s.onProvisioningSlot j.slot fun p => { p with copies := p.copies.set n (.committed b) }).loadOverride j.slot)).endJob j .done
  | .lock _ => (s.onProvisioningSlot j.slot fun p => { p with lock := .set }).endJob j .done

/-- A provisioning program has failed its verify: a copy is void and the next one is tried; a lock mark is tried once more. -/
def State.provisioningFailed (j : ProvisioningJob) (s : State) : State :=
  let s := s.countHistory fun c => { c with provisioningFailures := bump c.provisioningFailures }
  match j.target with
  | .copy n b =>
    let s := s.onProvisioningSlot j.slot fun p => { p with copies := p.copies.set n .void }
    match (s.provisioningSlot j.slot).nextCopy with
    | some m => s.onStore fun x => { x with job := some { j with target := .copy m b } }
    | none => s.endJob j .exhausted
  | .lock again =>
    let s := s.onProvisioningSlot j.slot fun p => { p with lock := .doubtful }
    if again then s.endJob j .exhausted else s.onStore fun x => { x with job := some { j with target := .lock true } }

def State.provisioningEnd (passed : Bool) (j : ProvisioningJob) (s : State) : State :=
  let s := s.onStore fun x => { x with running := none }
  if passed then s.provisioningPassed j else s.provisioningFailed j

def execProvisioningProgramEnd (passed : Bool) (s : State) : Host.Outcome State Fault Refusal :=
  match s.store.running, s.store.job with
  | some .provisioning, some j => s.occur true (State.provisioningEnd passed j)
  | _, _ => s.occur false id

end Sys2Proof.Machine
end

