-- ==== Sys2Proof/Machine/Management.lean ====
section
/-!
DEFINITION. Chapter 10: the management unit takes the oldest request, checks it, and the block that owns its state carries it out and
answers it. (RESET stands in Resets.lean.)
-/

namespace Sys2Proof.Machine

/-! ## Requests and replies (R192 to R195) -/

/-- The payload of the oldest request. -/
def State.headRequest (s : State) : List Byte := s.management.requests.headD []

/-- Whether the reply queue has a free place: a reservation takes one too (R193). -/
def Management.placeFree (g : Management) : Bool :=
  g.replies.length + (if g.reserved then 1 else 0) < Config.replyCapacity

/-- The oldest request leaves the request queue (R192). -/
def State.popRequest (s : State) : State := s.onManagement fun g => { g with requests := g.requests.drop 1 }

/-- The reply to a request payload joins the reply queue as its newest (R193, R194). -/
def State.answer (p : List Byte) (result : Result) (data : List Byte) (s : State) : State :=
  s.onManagement fun g => { g with replies := g.replies ++ [replyPayload (byteAt p 0) (byteAt p 1) result data] }

/-- A place is reserved for a deferred reply (R200). -/
def State.reserve (s : State) : State := s.onManagement fun g => { g with reserved := true }

/-- Whether the oldest request is this one and can be executed (R192). -/
def State.requestReady (r : Request) (s : State) : Bool :=
  match s.management.requests with
  | p :: _ => requestOf p == some r && s.management.placeFree
  | [] => false

/-- The answer of the common checks, if one of them fails (R195); the code is known to be that of `r`. -/
def commonCheck (r : Request) (scanning : Bool) (p : List Byte) : Option Result :=
  if p.length < 2 then some .badArgument
  else if scanning && r != .getStatus then some .scanning
  else if p.length ≠ r.arguments + 2 then some .badArgument
  else none

/-- The execution of the oldest request: it leaves the queue, the common checks are made, and `own` carries it out. -/
def State.carryOut (r : Request) (own : List Byte → State → State) (s : State) : State :=
  let p := s.headRequest
  match commonCheck r s.scanning p with
  | some result => s.popRequest.answer p result []
  | none => own p s.popRequest

/-- The arguments of a request payload: the bytes after its code and tag. -/
def argAt (p : List Byte) (i : Nat) : Byte := byteAt p (i + 2)

/-! ## GET STATUS (R196) -/

/-- The status block. -/
def State.statusBlock (s : State) : List Byte :=
  [byteOfBool s.scanning, s.historyState, byteOf (s.intake.contexts.countP Option.isSome), byteOf s.records.active.length,
   byteOf s.records.held.length, byteOf s.report.queue.length, s.causes.highest, s.area.position.state.code,
   byteOfBool s.time.timeSet]

def State.getStatus (p : List Byte) (s : State) : State := s.answer p .done s.statusBlock

def execGetStatus (s : State) : Host.Outcome State Fault Refusal :=
  s.occur (s.requestReady .getStatus) (State.carryOut .getStatus State.getStatus)

/-! ## GET COUNTERS (R197) -/

/-- The counters of a group, in their stated order. -/
def State.counterGroup (s : State) (group : Nat) : List Half :=
  match group with
  | 0 => s.link.m.counters.list
  | 1 => s.link.p.counters.list
  | 2 => s.intake.counters.list
  | 3 => s.records.counters.list ++ s.area.counters.list
  | 4 => s.index.counters.list
  | _ => []

/-- Every counter of a group set to 0. -/
def State.clearGroup (group : Nat) (s : State) : State :=
  match group with
  | 0 => s.countLink .m fun _ => .zero
  | 1 => s.countLink .p fun _ => .zero
  | 2 => s.countIntake fun _ => .zero
  | 3 => (s.countRecords fun _ => .zero).countArea fun _ => .zero
  | 4 => s.countHistory fun _ => .zero
  | _ => s

def State.getCounters (p : List Byte) (s : State) : State :=
  let group := (argAt p 0).toNat
  match flagOfCode (argAt p 1).toNat with
  | none => s.answer p .badArgument []
  | some clear =>
    if group > 4 then s.answer p .badArgument []
    else
      let answered := s.answer p .done (countersData (argAt p 0) (s.counterGroup group))
      if clear then answered.clearGroup group else answered

def execGetCounters (s : State) : Host.Outcome State Fault Refusal :=
  s.occur (s.requestReady .getCounters) (State.carryOut .getCounters State.getCounters)

/-! ## SET TIME (R198) -/

def State.setTime (p : List Byte) (s : State) : State :=
  ((s.onTime fun t => { t with wall := wordAt p 2, timeSet := true }).restamp).answer p .done []

def execSetTime (s : State) : Host.Outcome State Fault Refusal :=
  s.occur (s.requestReady .setTime) (State.carryOut .setTime State.setTime)

/-! ## SET POSITION (R93, R109) -/

/-- The position record takes a position. -/
def Position.given (lat lon : Int) (uncertainty : Nat) (epoch : Word) : Position :=
  { state := if uncertainty = 65535 then .none else .fresh, lat := lat, lon := lon, uncertainty := uncertainty, arrival := epoch }

/-- A held record leaves the held list. -/
def Records.releaseHeld (x : Record) (r : Records) : Records :=
  { r with held := r.held.filter fun y => y.handle != x.handle }

/-- A held record takes a new verdict in its place. -/
def Records.rejudge (x : Record) (v : Verdict) (r : Records) : Records :=
  { r with held := r.held.map fun y => if y.handle == x.handle then { y with verdict := some v } else y }

/-- A held record is judged again: released into the active list, or held on (R109). -/
def State.judgeHeld (s : State) (r : Record) : State :=
  let v := s.area.position.verdict r.area
  if v.presents r.attrs then
    ((s.onRecords (Records.releaseHeld r)).countArea fun c => { c with recordsReleased := bump c.recordsReleased }).enterActive
      { r with verdict := some v }
  else s.onRecords (Records.rejudge r v)

/-- An accepted position: taken, counted, and every held record judged again, oldest first (R93). -/
def State.acceptPosition (lat lon : Int) (uncertainty : Nat) (s : State) : State :=
  let s := (s.onArea fun a => { a with position := Position.given lat lon uncertainty s.time.epoch }).countArea fun c =>
    { c with positionUpdates := bump c.positionUpdates }
  s.records.held.foldl State.judgeHeld s

def State.setPosition (p : List Byte) (s : State) : State :=
  if coordinatesInRange (coordinateAt p 2) (coordinateAt p 6) then
    (s.acceptPosition (coordinateAt p 2) (coordinateAt p 6) (halfAt p 10).toNat).answer p .done []
  else s.answer p .badArgument []

def execSetPosition (s : State) : Host.Outcome State Fault Refusal :=
  s.occur (s.requestReady .setPosition) (State.carryOut .setPosition State.setPosition)

/-! ## Windows (R32 to R34) -/

def State.loadWindow (p : List Byte) (s : State) : State :=
  let index := (argAt p 0).toNat
  match readBlock (p.drop 3) with
  | none => s.answer p .badArgument []
  | some w =>
    if index > 15 then s.answer p .badArgument []
    else if w.attrs.cls = .national && w.attrs.muted then s.answer p .locked []
    else (s.onWindows (Windows.setOrdinary index w)).answer p .done []

def execLoadWindow (s : State) : Host.Outcome State Fault Refusal :=
  s.occur (s.requestReady .loadWindow) (State.carryOut .loadWindow State.loadWindow)

def State.muteWindow (p : List Byte) (s : State) : State :=
  let index := (argAt p 0).toNat
  match flagOfCode (argAt p 1).toNat with
  | none => s.answer p .badArgument []
  | some muted =>
    if index > 19 then s.answer p .badArgument []
    else if index ≥ 16 then s.answer p .locked []
    else if (s.windows.at index).attrs.cls = .national then s.answer p .locked []
    else (s.onWindows (Windows.setMuted index muted)).answer p .done []

def execMuteWindow (s : State) : Host.Outcome State Fault Refusal :=
  s.occur (s.requestReady .muteWindow) (State.carryOut .muteWindow State.muteWindow)

def State.readWindow (p : List Byte) (s : State) : State :=
  let index := (argAt p 0).toNat
  if index > 19 then s.answer p .badArgument [] else s.answer p .done (s.windows.at index).block

def execReadWindow (s : State) : Host.Outcome State Fault Refusal :=
  s.occur (s.requestReady .readWindow) (State.carryOut .readWindow State.readWindow)

/-! ## Provisioning (R39, R185, R186) -/

/-- Whether a provisioning program is in flight or a CLEAR HISTORY is in progress: the ground of BUSY. -/
def Store.occupied (x : Store) : Bool := x.job.isSome || x.clear.isSome

/-- A provisioning program is requested, and its reply deferred (R200). -/
def State.requestProgram (p : List Byte) (target : ProvisioningTarget) (s : State) : State :=
  (s.onStore fun x =>
    { x with job := some { tag := byteAt p 1, slot := (argAt p 0).toNat, target := target } }).reserve

def State.provision (p : List Byte) (s : State) : State :=
  let slot := (argAt p 0).toNat
  match readBlock (p.drop 3) with
  | none => s.answer p .badArgument []
  | some block =>
    if slot > 3 then s.answer p .badArgument []
    else if s.store.occupied then s.answer p .busy []
    else if (s.provisioningSlot slot).locked then s.answer p .locked []
    else
      match (s.provisioningSlot slot).nextCopy with
      | none => s.answer p .exhausted []
      | some n => s.requestProgram p (.copy n block)

def execProvision (s : State) : Host.Outcome State Fault Refusal :=
  s.occur (s.requestReady .provision) (State.carryOut .provision State.provision)

def State.lockProvision (p : List Byte) (s : State) : State :=
  let slot := (argAt p 0).toNat
  if slot > 3 then s.answer p .badArgument []
  else if s.store.occupied then s.answer p .busy []
  else if (s.provisioningSlot slot).locked then s.answer p .done []
  else s.requestProgram p (.lock false)

def execLockProvision (s : State) : Host.Outcome State Fault Refusal :=
  s.occur (s.requestReady .lockProvision) (State.carryOut .lockProvision State.lockProvision)

/-! ## Records (R128, R135, R139) -/

def State.acknowledge (p : List Byte) (s : State) : State :=
  match s.records.find (halfAt p 2) with
  | none => s.answer p .unknownHandle []
  | some r =>
    match r.state with
    | .held => s.answer p .notDelivered []
    | .waiting => s.answer p .notDelivered []
    | .delivered => (s.complete .acknowledged r).answer p .done []
    | .delivering => (if r.latched.isNone then s.latch .acknowledged r else s).answer p .done []

def execAcknowledge (s : State) : Host.Outcome State Fault Refusal :=
  s.occur (s.requestReady .acknowledge) (State.carryOut .acknowledge State.acknowledge)

/-- The first part a redelivery starts with: 0, or a part above the record's count, is stored as 1 (R128). -/
def firstPart (textLength part : Nat) : Nat := if part = 0 ∨ part > partCount textLength then 1 else part

def State.fetchRecord (p : List Byte) (s : State) : State :=
  match s.records.find (halfAt p 2) with
  | none => s.answer p .unknownHandle []
  | some r =>
    match r.state with
    | .held => s.answer p .notDelivered []
    | .waiting => s.answer p .notDelivered []
    | .delivering => s.answer p .done []
    | .delivered =>
      (s.onRecords (Records.update r fun x =>
        { x with redeliver := some (firstPart x.text.length (argAt p 2).toNat) })).answer p .done []

def execFetchRecord (s : State) : Host.Outcome State Fault Refusal :=
  s.occur (s.requestReady .fetchRecord) (State.carryOut .fetchRecord State.fetchRecord)

def State.flushAlerts (p : List Byte) (s : State) : State :=
  (s.endAll .flushed (s.records.active ++ s.records.held)).answer p .done []

def execFlushAlerts (s : State) : Host.Outcome State Fault Refusal :=
  s.occur (s.requestReady .flushAlerts) (State.carryOut .flushAlerts State.flushAlerts)

/-! ## CONFIGURE (R201) -/

def State.configure (p : List Byte) (s : State) : State :=
  match readSettings (p.drop 2) with
  | none => s.answer p .badArgument []
  | some x => { s with settings := x }.answer p .done []

def execConfigure (s : State) : Host.Outcome State Fault Refusal :=
  s.occur (s.requestReady .configure) (State.carryOut .configure State.configure)

/-! ## CLEAR HISTORY (R89, R187) -/

def State.clearHistory (p : List Byte) (s : State) : State :=
  if s.store.occupied then s.answer p .busy [] else s.reserve.refillIndex.beginClear (byteAt p 1)

def execClearHistory (s : State) : Host.Outcome State Fault Refusal :=
  s.occur (s.requestReady .clearHistory) (State.carryOut .clearHistory State.clearHistory)

/-! ## A code that names no request (R195) -/

/-- Whether the oldest request's code names no request, or is missing, and the request can be executed. -/
def State.unknownReady (s : State) : Bool :=
  match s.management.requests with
  | p :: _ => (requestOf p).isNone && s.management.placeFree
  | [] => false

def State.answerUnknown (s : State) : State :=
  let p := s.headRequest
  s.popRequest.answer p (if p.length < 2 then .badArgument else .unknownRequest) []

def execUnknownRequest (s : State) : Host.Outcome State Fault Refusal := s.occur s.unknownReady State.answerUnknown

end Sys2Proof.Machine
end

