-- ==== Sys2Proof/Machine/Resets.lean ====
section
/-!
DEFINITION. The three kinds of reset and the loss of power: what they leave of the operations on the array (R190), the reset state of
every block, and the start-up scan (R188, R189).
-/

namespace Sys2Proof.Machine

/-! ## What becomes of an operation on the array (R190) -/

def State.setSlot (k n : Nat) (x : Slot) (s : State) : State :=
  s.onSector k fun y => { y with slots := y.slots.set n x }

def State.setCopy (k n : Nat) (x : Copy) (s : State) : State :=
  s.onProvisioningSlot k fun y => { y with copies := y.copies.set n x }

def State.setLock (k : Nat) (x : LockMark) (s : State) : State := s.onProvisioningSlot k fun y => { y with lock := x }

/-- A program or amend is cut: its locations are left unknown (R170). -/
def State.cutProgram (s : State) : State :=
  match s.store.running, s.store.job with
  | some (.slotProgram w), _ => s.setSlot w.sector w.slot (.cut w.fields)
  | some (.headerAmend r), _ => s.onSector r.sector fun x => { x with doubt := some r.amend }
  | some .provisioning, some j =>
    match j.target with
    | .copy n b => s.setCopy j.slot n (.cut b)
    | .lock _ => s.setLock j.slot .doubtful
  | _, _ => s

/-- What a slot program leaves by its verifies (R177, R178). -/
def programmedSlot (verify : SlotVerify) (fields : EntryFields) : Slot :=
  match verify with
  | .passed => .committed fields
  | .fieldsFailed => .void
  | .markFailed => .markFailed fields

/-- A program or amend runs to its end before a soft reset takes effect, and nothing follows from it but its content. -/
def State.finishProgram (verify : SlotVerify) (s : State) : State :=
  match s.store.running, s.store.job with
  | some (.slotProgram w), _ => s.setSlot w.sector w.slot (programmedSlot verify w.fields)
  | some (.headerAmend r), _ =>
    s.onSector r.sector fun x => if verify = .passed then x.program r.amend else { x with doubt := some r.amend }
  | some .provisioning, some j =>
    match j.target with
    | .copy n b => s.setCopy j.slot n (if verify = .passed then .committed b else .void)
    | .lock _ => s.setLock j.slot (if verify = .passed then .set else .doubtful)
  | _, _ => s

/-- An erase in flight, whatever its condition, is cut or abandoned. -/
def State.cutErase (s : State) : State :=
  match s.store.erase with
  | some e => s.onSector e.sector fun x => { x with halfErased := true }
  | none => s

/-! ## The reset state of the blocks -/

/-- The timebase a reset leaves: a soft reset keeps wall time and the time-set flag (R1). -/
def Timebase.after (soft : Bool) (t : Timebase) : Timebase := if soft then { t with epoch := 0 } else .reset

/-- Every block in the state its chapter gives for the reset: the array stands, the hold inputs keep their levels, and a soft reset keeps
the configuration items (R203) and wall time. -/
def State.resetBlocks (soft : Bool) (s : State) : State :=
  { powered := true, scanning := true, rate := s.rate, wake := false, link := .reset s.link.m.holdIn s.link.p.holdIn,
    settings := if soft then s.settings else .reset, windows := .reset, intake := .reset, index := .reset, area := .reset,
    records := .reset, ack := .reset, report := .reset, array := s.array, store := .idle, management := .reset,
    time := s.time.after soft, due := .none, scans := s.scans + 1, pending := s.pending }

/-! ## The first part of the scan (R188): unknown locations as they read -/

/-- A slot as the scan finds it (R172, R178, R190). -/
def Slot.resolve (scan sector number : Nat) (x : Slot) : Slot :=
  match x with
  | .cut f =>
    if Config.unknownReads scan (.slotBlank sector number) then .blank
    else if Config.unknownReads scan (.slotCommitted sector number) then .committed f
    else .void
  | .markFailed f => if Config.unknownReads scan (.slotCommitted sector number) then .committed f else .markFailed f
  | x => x

/-- A header whose amend was cut or failed: the sequence and the mark each read as before or as programmed (R171). -/
def Sector.resolveDoubt (scan k : Nat) (x : Sector) : Sector :=
  let mark := Config.unknownReads scan (.mark k)
  match x.doubt with
  | none => x
  | some (.opening q) =>
    { x with
      sequence := if Config.unknownReads scan (.sequence k) then some q else x.sequence
      opened := x.opened || mark
      doubt := none }
  | some .full => { x with full := x.full || mark, doubt := none }
  | some .retiring => { x with retiring := x.retiring || mark, doubt := none }
  | some .worn => { x with worn := x.worn || mark, doubt := none }

/-- A sector whose erase was cut or failed: it reads as it did before the erase, or invalid (R190). -/
def Sector.resolveErase (scan k : Nat) (x : Sector) : Sector :=
  if !x.halfErased then x
  else if Config.unknownReads scan (.erase k) then { x with halfErased := false }
  else { Sector.erased with worn := x.worn, doubt := x.doubt, slots := x.slots.set 0 .void }

/-- A sector as the scan finds it. -/
def Sector.resolve (scan k : Nat) (x : Sector) : Sector :=
  let x := (x.resolveErase scan k).resolveDoubt scan k
  { x with slots := x.slots.mapIdx (Slot.resolve scan k) }

/-- A provisioning copy as the scan finds it: one whose program was cut is committed or void (R185). -/
def Copy.resolve (scan slot number : Nat) (x : Copy) : Copy :=
  match x with
  | .cut b => if Config.unknownReads scan (.copy slot number) then .committed b else .void
  | x => x

/-- A lock mark as the scan finds it: one that was cut or failed its verify may read as programmed now or at a later scan (R186). -/
def LockMark.resolve (scan slot : Nat) (x : LockMark) : LockMark :=
  match x with
  | .doubtful => if Config.unknownReads scan (.lock slot) then .set else .doubtful
  | x => x

def ProvisioningSlot.resolve (scan slot : Nat) (x : ProvisioningSlot) : ProvisioningSlot :=
  { copies := x.copies.mapIdx (Copy.resolve scan slot), lock := x.lock.resolve scan slot }

/-- The array as the scan of this number finds it. -/
def NvArray.resolve (scan : Nat) (a : NvArray) : NvArray :=
  { sectors := a.sectors.mapIdx (Sector.resolve scan), provisioning := a.provisioning.mapIdx (ProvisioningSlot.resolve scan) }

/-! ## The first part of the scan (R188): sectors to erase, the current sector -/

/-- The sectors whose headers read RETIRING or invalid, in order of sector number. -/
def State.sectorsToReclaim (s : State) : List Nat :=
  sectorNumbers.filter fun k => (s.sector k).state == .retiring || (s.sector k).state == .invalid

/-- The sequence of a spare opened by the scan: that of the newest FULL sector plus 1, or 0. -/
def State.scanSequence (s : State) : Half :=
  match (s.bySequence (s.sectorsIn .full)).getLast? with
  | some k => s.sequenceOf k + 1
  | none => 0

/-- A sector becomes current. -/
def Store.makeCurrent (k : Nat) (sequence : Half) (x : Store) : Store :=
  { x with current := some k, lastSequence := some sequence }

/-- A spare is opened by the scan. The first `worn` spares fail their opening amend twice: each is taken as WORN, and where that leaves
fewer than two usable sectors none is opened (R179, R182). -/
def State.openSpare (sequence : Half) : Nat → List Nat → State → State
  | _, [], s => s
  | 0, k :: _, s => (s.onSector k (Sector.program (.opening sequence))).onStore (Store.makeCurrent k sequence)
  | n + 1, k :: rest, s =>
    let s := s.onSector k fun x => { x with doubt := some (.opening sequence) }
    let s := (s.onStore (Store.retireForGood k)).checkRamOnly
    if s.store.ramOnly then s else s.openSpare sequence n rest

/-- The choice of the current sector (R188): the newest OPEN sector, each older one being asked for its FULL amend, and it too where it has
no next slot (R179); or a spare. -/
def State.chooseCurrent (wornSpares : Nat) (s : State) : State :=
  match (s.bySequence (s.sectorsIn .opened)).reverse with
  | k :: older =>
    (s.onStore fun x =>
      { x.makeCurrent k (s.sequenceOf k) with amends := older.reverse.map fun j => ⟨j, .full, false⟩ }).closeWhenUsed k
  | [] => s.openSpare s.scanSequence wornSpares (s.sectorsIn .erased)

/-- START_UP_SCAN: the array is read, RETIRING and invalid sectors are queued for erase, the current sector is chosen (R188). -/
def State.startUpScan (wornSpares : Nat) (s : State) : State :=
  let s := s.onArray (NvArray.resolve s.scans)
  (s.onStore fun x => { x with erases := s.sectorsToReclaim, reclaims := s.sectorsToReclaim }).chooseCurrent wornSpares

/-! ## The resets (R21, R202, and each chapter's own rule) -/

/-- A reset ends: every block in its reset state, the rate pins sampled, the scan begun. -/
def State.endReset (soft : Bool) (rate : BitVec 2) (wornSpares : Nat) (s : State) : State :=
  { s.resetBlocks soft with rate := rate }.startUpScan wornSpares

/-- A pin reset or a power-on reset: what runs on the array is cut. -/
def State.hardReset (rate : BitVec 2) (wornSpares : Nat) (s : State) : State :=
  s.cutProgram.cutErase.endReset false rate wornSpares

/-- A soft reset: a program or amend runs to its end first, an erase is abandoned. -/
def State.softReset (rate : BitVec 2) (verify : SlotVerify) (wornSpares : Nat) (s : State) : State :=
  (s.finishProgram verify).cutErase.endReset true rate wornSpares

/-- The supply rises, from whatever state (a supply that fell unnoticed cuts what was running). -/
def execPowerOnReset (rate : BitVec 2) (wornSpares : Nat) (s : State) : Host.Outcome State Fault Refusal :=
  .next (s.hardReset rate wornSpares).settle

def execPinReset (rate : BitVec 2) (wornSpares : Nat) (s : State) : Host.Outcome State Fault Refusal :=
  s.occur true (State.hardReset rate wornSpares)

/-- Whether the oldest request is a RESET that can be executed: one that resets the part needs no place for a reply (R192). -/
def State.resetReady (s : State) : Bool :=
  match s.management.requests with
  | p :: _ => requestOf p == some .reset && ((commonCheck .reset s.scanning p).isNone || s.management.placeFree)
  | [] => false

def execReset (rate : BitVec 2) (verify : SlotVerify) (wornSpares : Nat) (s : State) : Host.Outcome State Fault Refusal :=
  s.occur s.resetReady (State.carryOut .reset fun _ => State.softReset rate verify wornSpares)

/-- The lines while there is no supply: both hold outputs asserted (R9), WAKE low (R166). -/
def Link.unpowered (l : Link) : Link :=
  { l with m := { l.m with holdOut := true }, p := { l.p with holdOut := true } }

/-- The supply is lost: what runs on the array is cut, and all working state is lost (R190). -/
def State.losePower (s : State) : State :=
  let t := s.cutProgram.cutErase.resetBlocks false
  { t with powered := false, scanning := false, scans := s.scans, link := t.link.unpowered }

def execPowerLoss (s : State) : Host.Outcome State Fault Refusal := .next (if s.powered then s.losePower else s)

/-! ## The end of the scan (R189) -/

/-- A counter incremented `n` times. -/
def bumpBy (n : Nat) (c : Half) : Half := BitVec.ofNat 16 (min (c.toNat + n) 65535)

/-- The OPEN and FULL sectors, from oldest to newest: those the scan reads. A sector taken as WORN during the scan, its FULL amend having failed
twice, is read as its header then stands (DESIGN CHOICE, log entry 34). -/
def State.sectorsToRead (s : State) : List Nat :=
  s.bySequence (sectorNumbers.filter fun k => (s.sector k).state == .opened || (s.sector k).state == .full)

/-- The slots of a sector in reading order, each with its location. -/
def State.slotsOf (s : State) (k : Nat) : List ((Nat × Nat) × Slot) :=
  (s.sector k).slots.zipIdx.map fun e => ((k, e.2), e.1)

/-- The slots the scan reads, in reading order. -/
def State.slotsRead (s : State) : List ((Nat × Nat) × Slot) := s.sectorsToRead.flatMap s.slotsOf

/-- A slot that is used and not committed (R172). -/
def Slot.isVoid : Slot → Bool
  | .blank => false
  | .committed _ => false
  | _ => true

/-- An entry adopted from a committed slot (R91). -/
def adopt (x : (Nat × Nat) × Slot) : Option Entry :=
  match x.2 with
  | .committed f => some { fields := f, persisted := true, location := some x.1 }
  | _ => none

/-- An adopted entry replaces an earlier one of its key. -/
def supersedeEntry (found : List Entry) (e : Entry) : List Entry :=
  found.filter (fun x => x.fields.key != e.fields.key) ++ [e]

/-- The entries found, one for each key, in the order of their winning slots. -/
def State.entriesFound (s : State) : List Entry := (s.slotsRead.filterMap adopt).foldl supersedeEntry []

/-- The index is rebuilt: the latest 160 keys are kept, dropped keys and void slots counted (R189). -/
def State.rebuildIndex (s : State) : State :=
  let found := s.entriesFound
  let dropped := found.length - Config.indexCapacity
  (s.onIndex fun x => { x with entries := found.drop dropped }).countHistory fun c =>
    { c with
      indexEvictions := bumpBy dropped c.indexEvictions
      scanVoidSlots := bumpBy (s.slotsRead.countP fun e => e.2.isVoid) c.scanVoidSlots }

/-- The scan ends (R189). -/
def State.endScan (s : State) : State :=
  let s := s.rebuildIndex.onStore fun x => { x with writes := [], retry := none, failures := [0, 0, 0, 0] }
  ({ s.checkRamOnly with scanning := false }).examineReclaim.loadOverrides

def execScanEnd (s : State) : Host.Outcome State Fault Refusal := s.occur s.scanning State.endScan

end Sys2Proof.Machine
end

