-- ==== Sys2Proof/Machine/Intake.lean ====
section
/-!
DEFINITION. Chapter 3: the reassembly unit's work on one fragment, from the intake queue to one of its ends, with any completion it
causes.
-/

namespace Sys2Proof.Machine

/-! ## Contexts (R48 to R51) -/

/-- The assembled text: the received parts' bytes in index order (R48). -/
def Context.text (c : Context) : List Byte := c.parts.flatMap fun p => p.getD []

/-- Whether every part is RECEIVED (R57). -/
def Context.whole (c : Context) : Bool := c.parts.all Option.isSome

/-- Every status NOT-RECEIVED and the area trailer absent (R53, R59). -/
def Context.cleared (c : Context) : Context :=
  { c with parts := List.replicate c.parts.length none, trailer := none }

def State.setContext (n : Nat) (c : Option Context) (s : State) : State :=
  s.onIntake fun i => { i with contexts := i.contexts.set n c }

/-- The COLLECTING context of a key and revision, with its number (R49). -/
def Intake.lookup (i : Intake) (k : Key) (r : BitVec 4) : Option (Nat × Context) :=
  (i.contexts.zipIdx.filterMap fun e => e.1.map fun c => (e.2, c)).find? fun e => e.2.key == k && e.2.revision == r

/-- The lowest-numbered FREE context (R50). -/
def Intake.freeContext (i : Intake) : Option Nat := i.contexts.findIdx? Option.isNone

/-- An allocation sequence is older than another (R51). -/
def olderAllocation (a b : Half) : Bool := 1 ≤ (b - a).toNat && (b - a).toNat ≤ 32767

/-- The order of victims: greatest rank, then oldest allocation, then lowest number (R51); it is no order for sequences spread over more than
half their range (log entry 29). -/
def victimBefore (x y : Nat × Context) : Bool :=
  x.2.rank > y.2.rank ||
    (x.2.rank == y.2.rank &&
      (olderAllocation x.2.sequence y.2.sequence ||
        (!olderAllocation y.2.sequence x.2.sequence && x.1 < y.1)))

/-- The victim for a fragment of a rank, among contexts of equal or greater rank (R51): the one that a walk from context 0 to context 7 ends
with, each taking the place of the one in hand where it comes before it (log entry 29). -/
def Intake.victim (i : Intake) (rank : Nat) : Option (Nat × Context) :=
  least victimBefore
    ((i.contexts.zipIdx.filterMap fun e => e.1.map fun c => (e.2, c)).filter fun e => e.2.rank ≥ rank)

/-- A part accepted into a context (R56). -/
def Context.accept (f : Fragment) (epoch : Word) (c : Context) : Context :=
  { c with
    parts := c.parts.set (f.index - 1) (some f.text)
    trailer := if f.index = f.total && f.trailer.isSome then f.trailer else c.trailer
    zone := f.zone
    cell := f.cell
    progress := epoch }

/-- The context a fragment allocates, before its part is accepted (R50). -/
def Fragment.newContext (f : Fragment) (rank : Nat) (sequence : Half) (epoch : Word) : Context :=
  { key := f.key, revision := f.revision, digest := f.digest, lifetimeCode := f.lifetimeCode, rank := rank, errors := 0,
    sequence := sequence, progress := epoch, zone := f.zone, cell := f.cell, parts := List.replicate f.total none, trailer := none }

/-! ## Completion (R57 to R60) -/

/-- The finished alert of a context under its completion window (R58). -/
def Context.alert (c : Context) (w : Window) : Alert :=
  { key := c.key, zone := c.zone, cell := c.cell, revision := c.revision, text := c.text, lifetimeCode := c.lifetimeCode,
    area := c.trailer, attrs := w.attrs }

/-- A completion settled after a digest match (R58). -/
def State.settleCompletion (n : Nat) (c : Context) (s : State) : State :=
  match s.windows.classify c.key.stream with
  | none => (s.countIntake fun x => { x with unlistedAtCompletion := bump x.unlistedAtCompletion }).setContext n none
  | some w =>
    match s.index.resolveNotice c.key c.revision with
    | .duplicate => (s.countIntake fun x => { x with stale := bump x.stale }).setContext n none
    | _ => ((s.takeNotice c.key c.revision w.horizon).create (c.alert w)).setContext n none

/-- A digest match: the context waits for its completion to be settled (R57). -/
def State.awaitCompletion (n : Nat) (c : Context) (s : State) : State :=
  s.onIntake fun i => { i with contexts := i.contexts.set n (some c), completing := some n }

/-- The completion that waits, if one does, is settled (R58). -/
def State.finishCompletion (s : State) : State :=
  match s.intake.completing with
  | none => s
  | some n =>
    let s := s.onIntake fun i => { i with completing := none }
    match s.intake.contexts.getD n none with
    | some c => s.settleCompletion n c
    | none => s

/-- An error of a context: its count rises, and at 3 the context closes FAILED (R60); otherwise it goes on as `next`. The result tells
whether it goes on. -/
def State.contextError (n : Nat) (next : Context) (s : State) : State :=
  if next.errors + 1 ≥ 3 then (s.countIntake fun x => { x with failed := bump x.failed }).setContext n none
  else s.setContext n (some { next with errors := next.errors + 1 })

/-- A context with every part RECEIVED goes to completion (R57, R59); any other keeps collecting. -/
def State.afterAccept (n : Nat) (c : Context) (s : State) : State :=
  if c.whole then
    if checkOf c.text = c.digest then
      (s.countIntake fun x => { x with completions := bump x.completions }).awaitCompletion n c
    else (s.countIntake fun x => { x with digestMismatches := bump x.digestMismatches }).contextError n c.cleared
  else s.setContext n (some c)

/-! ## The steps on one fragment -/

/-- A fragment allocates context `n` (R50). -/
def State.allocate (n : Nat) (f : Fragment) (rank : Nat) (s : State) : State :=
  let c := f.newContext rank s.intake.allocations s.time.epoch
  (s.onIntake fun i => { i with allocations := i.allocations + 1 }).afterAccept n (c.accept f s.time.epoch)

/-- A fragment that finds no context allocates one, evicts for one, or is shed (R50, R51). -/
def State.allocateFor (f : Fragment) (rank : Nat) (s : State) : State :=
  match s.intake.freeContext with
  | some n => s.allocate n f rank
  | none =>
    match s.intake.victim rank with
    | some v => (s.countIntake fun x => { x with evicted := bump x.evicted }).allocate v.1 f rank
    | none => s.countIntake fun x => { x with contextShed := bump x.contextShed }

/-- A fragment joins context `n` (R52 to R55). -/
def State.join (n : Nat) (c : Context) (f : Fragment) (s : State) : State :=
  if f.total ≠ c.parts.length then
    (s.countIntake fun x => { x with totalMismatches := bump x.totalMismatches }).contextError n c
  else if f.digest ≠ c.digest || f.lifetimeCode ≠ c.lifetimeCode then
    let s := s.countIntake fun x => { x with conflicts := bump x.conflicts }
    if c.errors + 1 ≥ 3 then s.contextError n c
    else
      s.afterAccept n
        (({ c.cleared with errors := c.errors + 1, digest := f.digest, lifetimeCode := f.lifetimeCode }).accept f s.time.epoch)
  else if (c.parts.getD (f.index - 1) none).isSome then
    (s.countIntake fun x => { x with duplicateFragments := bump x.duplicateFragments }).setContext n
      (some { c with progress := s.time.epoch })
  else s.afterAccept n (c.accept f s.time.epoch)

/-- A notice on a listed stream: the early duplicate check (R47), then the context table (R49). -/
def State.takeNoticeFragment (f : Fragment) (w : Window) (s : State) : State :=
  match s.index.resolveNotice f.key f.revision with
  | .duplicate => s.countIntake fun x => { x with earlyDuplicates := bump x.earlyDuplicates }
  | _ =>
    match s.intake.lookup f.key f.revision with
    | some e => s.join e.1 e.2 f
    | none => s.allocateFor f w.attrs.cls.rank

/-- An unlisted fragment takes the unlisted action (R26, R27). -/
def State.takeUnlisted (payload : List Byte) (s : State) : State :=
  match s.settings.unlistedAction with
  | .discard => s.countIntake fun x => { x with unlisted := bump x.unlisted }
  | .forward =>
    if s.link.roomToP ⟨fragmentChannel, payload⟩ then
      (s.onLink fun l => { l with toP := l.toP ++ [⟨fragmentChannel, payload⟩] }).countIntake fun x =>
        { x with rawForwarded := bump x.rawForwarded }
    else s.countIntake fun x => { x with unlistedDropped := bump x.unlistedDropped }

/-- The reassembly unit carries a taken fragment to one of its ends (R42 to R45). -/
def State.takePayload (payload : List Byte) (s : State) : State :=
  match readFragment payload with
  | none => s.countIntake fun x => { x with malformed := bump x.malformed }
  | some f =>
    match s.windows.classify f.key.stream with
    | none => s.takeUnlisted payload
    | some w =>
      if f.withdraw then
        (s.countIntake fun x => { x with withdrawals := bump x.withdrawals }).takeWithdrawal f.key f.revision w.horizon
      else s.takeNoticeFragment f w

/-- The oldest fragment leaves the intake queue and is counted as taken (R41, R42). -/
def State.popFragment (s : State) : State :=
  s.onIntake fun i => { i with queue := i.queue.drop 1, counters := { i.counters with taken := bump i.counters.taken } }

/-- The work on the oldest fragment: to its end, or, interrupted, as far as a digest match. -/
def State.takeOldest (interrupted : Bool) (p : List Byte) (s : State) : State :=
  let s := s.popFragment.takePayload p
  if interrupted then s else s.finishCompletion

/-- The reassembly unit takes the oldest fragment once the scan has ended (R42, R67); with a completion still to be settled it settles that
one and takes no other (log entry 24). -/
def execTakeFragment (interrupted : Bool) (s : State) : Host.Outcome State Fault Refusal :=
  match s.intake.completing, s.intake.queue.head? with
  | some _, _ => s.occur (!s.scanning) State.finishCompletion
  | none, some p => s.occur (!s.scanning) (State.takeOldest interrupted p)
  | none, none => s.occur false id

/-! ## The timeout sweep (R63) -/

/-- Whether the sweep closes a context. -/
def Context.timedOut (c : Context) (epoch : Word) (timeout : Nat) : Bool := ageOf epoch c.progress ≥ timeout

/-- One context in the sweep: closed TIMED-OUT, or unchanged. -/
def State.sweepContext (s : State) (n : Nat) : State :=
  match s.intake.contexts.getD n none with
  | some c =>
    if c.timedOut s.time.epoch s.settings.contextTimeout then
      (s.countIntake fun x => { x with timedOut := bump x.timedOut }).setContext n none
    else s
  | none => s

/-- The timeout sweep of the context table (R63). -/
def State.sweepContexts (s : State) : State := (List.range s.intake.contexts.length).foldl State.sweepContext s

end Sys2Proof.Machine
end

