-- ==== Sys2Proof/Machine/Timebase.lean ====
section
/-!
DEFINITION. The timebase (R1) and the events an epoch increase brings about: the timeout sweep, the expiry sweeps, the check of the
position, the flush countdown, the reminder step. Each of them is an event of its own, taken some time after the increase, the last two
before the next one at the latest; the state holds how many increases each has still to be taken for (log entry 2).
-/

namespace Sys2Proof.Machine

/-! ## Reminders (R145 to R147) -/

/-- The period in steps of a reminder period code, 0 for a code that asks for no reminders (R146). -/
def reminderPeriod (code : Nat) : Nat := if 1 ≤ code ∧ code ≤ 6 then 2 ^ (code - 1) else 0

/-- Whether a record on the active list is due a reminder at step `step` (R146). -/
def Record.reminderDue (step : Half) (r : Record) : Bool :=
  r.state == .delivered && reminderPeriod r.attrs.periodCode > 0 && r.remindersLeft > 0 && r.reminder.isNone &&
    step != r.deliveryStep && (step - r.deliveryStep).toNat % reminderPeriod r.attrs.periodCode == 0

/-- A record at a reminder step: reminder-pending is set and stamped where it is due (R146). -/
def Record.remindAt (step : Half) (r : Record) : Record :=
  if r.reminderDue step then { r with reminder := some step, remindersLeft := r.remindersLeft - 1 } else r

/-- The reminder step increases and the schedule of the step is applied (R145, R146). -/
def State.stepReminders (s : State) : State :=
  (s.onAck fun a => { a with step := a.step + 1 }).onRecords fun r =>
    { r with active := r.active.map (Record.remindAt (s.ack.step + 1)) }

/-! ## EPOCH (R1) -/

/-- Whether an epoch count is a multiple of 16, at which the reminder step increases (R145). -/
def stepEpoch (epoch : Word) : Bool := epoch.extractLsb' 0 4 == (0 : BitVec 4)

/-- The epoch count and wall time advance; each wraps after 4,294,967,295 (R1). -/
def Timebase.advance (t : Timebase) : Timebase := { t with epoch := t.epoch + 1, wall := t.wall + 1 }

/-- The events an increase to `epoch` owes; by then the decrement and the step of the increase before are made. -/
def EpochDue.owe (epoch : Word) (d : EpochDue) : EpochDue :=
  { contextTimeout := d.contextTimeout + 1, expirySweep := d.expirySweep + 1, positionStale := d.positionStale + 1,
    heldLifetimeEnd := d.heldLifetimeEnd + 1, recordExpiry := d.recordExpiry + 1,
    flushCountdown := true, reminderStep := stepEpoch epoch }

/-- The decrement of the flush countdown that the last increase owes (R160). -/
def State.takeDecrement (s : State) : State := (s.onDue fun d => { d with flushCountdown := false }).onReport Report.decrement

/-- The increase of the reminder step that the last increase owes (R145). -/
def State.takeStep (s : State) : State := (s.onDue fun d => { d with reminderStep := false }).stepReminders

/-- An epoch: a decrement and a reminder step still owed by the increase before are made first, so that neither is put off past its epoch
(log entry 2); both counts advance, and the events of the increase are owed. -/
def State.advanceEpoch (s : State) : State :=
  let s := if s.due.flushCountdown then s.takeDecrement else s
  let s := if s.due.reminderStep then s.takeStep else s
  (s.onTime Timebase.advance).onDue (EpochDue.owe (s.time.epoch + 1))

def execEpoch (s : State) : Host.Outcome State Fault Refusal := s.occur true State.advanceEpoch

/-! ## The events of an increase -/

/-- The timeout sweep of the context table, which does not fall within the unit's work on a fragment (R42). -/
def execContextTimeout (s : State) : Host.Outcome State Fault Refusal :=
  s.occur (s.due.contextTimeout > 0 && s.intake.completing.isNone) fun s =>
    (s.onDue fun d => { d with contextTimeout := d.contextTimeout - 1 }).sweepContexts

def execExpirySweep (s : State) : Host.Outcome State Fault Refusal :=
  s.occur (s.due.expirySweep > 0) fun s => (s.onDue fun d => { d with expirySweep := d.expirySweep - 1 }).sweepExpired

/-- The check of the position's age: FRESH becomes STALE (R94). -/
def State.checkPosition (s : State) : State :=
  if s.area.position.state = .fresh && ageOf s.time.epoch s.area.position.arrival > s.settings.positionMaxAge then
    (s.onArea fun a => { a with position := { a.position with state := .stale } }).countArea fun c =>
      { c with positionsStale := bump c.positionsStale }
  else s

def execPositionStale (s : State) : Host.Outcome State Fault Refusal :=
  s.occur (s.due.positionStale > 0) fun s => (s.onDue fun d => { d with positionStale := d.positionStale - 1 }).checkPosition

/-- Whether a record's lifetime end is at or below the epoch count. -/
def Record.lifetimeOver (epoch : Word) (r : Record) : Bool := r.lifetimeEnd.toNat ≤ epoch.toNat

/-- The examination of the held list, oldest first (R110). -/
def State.examineHeld (s : State) : State :=
  (s.records.held.filter (Record.lifetimeOver s.time.epoch)).foldl
    (fun s r => (s.complete .outOfArea r).countArea fun c => { c with heldLifetimeEnded := bump c.heldLifetimeEnded }) s

def execHeldLifetimeEnd (s : State) : Host.Outcome State Fault Refusal :=
  s.occur (s.due.heldLifetimeEnd > 0) fun s =>
    (s.onDue fun d => { d with heldLifetimeEnd := d.heldLifetimeEnd - 1 }).examineHeld

/-- The expiry sweep of the active list, in list order (R133). -/
def State.expireActive (s : State) : State :=
  s.endAll .expired (s.records.active.filter (Record.lifetimeOver s.time.epoch))

def execRecordExpiry (s : State) : Host.Outcome State Fault Refusal :=
  s.occur (s.due.recordExpiry > 0) fun s => (s.onDue fun d => { d with recordExpiry := d.recordExpiry - 1 }).expireActive

/-- The decrement of an increase, before or after the summaries that join in that epoch (R160); at 0 with summaries queued the report
frame is pending (R161). -/
def execFlushCountdown (s : State) : Host.Outcome State Fault Refusal := s.occur s.due.flushCountdown State.takeDecrement

/-- The reminder step of an increase to a multiple of 16 (R145, R146). -/
def execReminderStep (s : State) : Host.Outcome State Fault Refusal := s.occur s.due.reminderStep State.takeStep

end Sys2Proof.Machine
end

