-- ==== Sys2Proof/Machine/Dispatch.lean ====
section
/-!
DEFINITION. The meaning of each command: one arm for each row of the opcode table.
-/

namespace Sys2Proof.Machine

def exec (i : Instr) (s : State) : Host.Outcome State Fault Refusal :=
  match i with
  | .powerOnReset rate worn => Sys2Proof.Machine.execPowerOnReset rate worn s
  | .pinReset rate worn => Sys2Proof.Machine.execPinReset rate worn s
  | .scanEnd => Sys2Proof.Machine.execScanEnd s
  | .epoch => Sys2Proof.Machine.execEpoch s
  | .contextTimeout => Sys2Proof.Machine.execContextTimeout s
  | .expirySweep => Sys2Proof.Machine.execExpirySweep s
  | .positionStale => Sys2Proof.Machine.execPositionStale s
  | .heldLifetimeEnd => Sys2Proof.Machine.execHeldLifetimeEnd s
  | .recordExpiry => Sys2Proof.Machine.execRecordExpiry s
  | .flushCountdown => Sys2Proof.Machine.execFlushCountdown s
  | .reminderStep => Sys2Proof.Machine.execReminderStep s
  | .headerEnd port byte => Sys2Proof.Machine.execHeaderEnd port byte s
  | .frameEnd port byte => Sys2Proof.Machine.execFrameEnd port byte s
  | .gapError port => Sys2Proof.Machine.execGapError port s
  | .mSorter => Sys2Proof.Machine.execMSorter s
  | .pSorter => Sys2Proof.Machine.execPSorter s
  | .holdInput port level => Sys2Proof.Machine.execHoldInput port level s
  | .pPortArbiter => Sys2Proof.Machine.execPPortArbiter s
  | .mPortArbiter => Sys2Proof.Machine.execMPortArbiter s
  | .frameSent port => Sys2Proof.Machine.execFrameSent port s
  | .takeFragment interrupted => Sys2Proof.Machine.execTakeFragment interrupted s
  | .getStatus => Sys2Proof.Machine.execGetStatus s
  | .getCounters => Sys2Proof.Machine.execGetCounters s
  | .setTime => Sys2Proof.Machine.execSetTime s
  | .setPosition => Sys2Proof.Machine.execSetPosition s
  | .loadWindow => Sys2Proof.Machine.execLoadWindow s
  | .muteWindow => Sys2Proof.Machine.execMuteWindow s
  | .readWindow => Sys2Proof.Machine.execReadWindow s
  | .provision => Sys2Proof.Machine.execProvision s
  | .lockProvision => Sys2Proof.Machine.execLockProvision s
  | .acknowledge => Sys2Proof.Machine.execAcknowledge s
  | .fetchRecord => Sys2Proof.Machine.execFetchRecord s
  | .flushAlerts => Sys2Proof.Machine.execFlushAlerts s
  | .configure => Sys2Proof.Machine.execConfigure s
  | .clearHistory => Sys2Proof.Machine.execClearHistory s
  | .reset rate verify worn => Sys2Proof.Machine.execReset rate verify worn s
  | .unknownRequest => Sys2Proof.Machine.execUnknownRequest s
  | .historyWrite => Sys2Proof.Machine.execHistoryWrite s
  | .slotProgramEnd verify => Sys2Proof.Machine.execSlotProgramEnd verify s
  | .headerAmend => Sys2Proof.Machine.execHeaderAmend s
  | .headerAmendEnd passed => Sys2Proof.Machine.execHeaderAmendEnd passed s
  | .eraseStart => Sys2Proof.Machine.execEraseStart s
  | .eraseSuspend ran => Sys2Proof.Machine.execEraseSuspend ran s
  | .eraseResume => Sys2Proof.Machine.execEraseResume s
  | .minimumRunEnd => Sys2Proof.Machine.execMinimumRunEnd s
  | .eraseEnd passed => Sys2Proof.Machine.execEraseEnd passed s
  | .provisioningProgram => Sys2Proof.Machine.execProvisioningProgram s
  | .provisioningProgramEnd passed => Sys2Proof.Machine.execProvisioningProgramEnd passed s
  | .byteReceived port byte => Sys2Proof.Machine.execByteReceived port byte s
  | .powerLoss => Sys2Proof.Machine.execPowerLoss s

end Sys2Proof.Machine
end

