-- ==== Sys2Proof/Safety.lean ====
section
/-!
DEFINITION. The terms the statements use: the pieces of the state an event may change (frames), a request at the head of its queue and its
answer, fields as bytes, the victim of an eviction, offers to the pending write list, summaries joining the report queue, where a new record
stands, what a reminder step does, what a reset leaves of the array and what a scan may read there, the start of a reclaim, the opening of the next sector, the course of
a clear, and the invariants of the part. They are written on the fields of the state, without the operations of the meanings they speak of.
-/

namespace Sys2Proof.Machine

/-! ## Frames -/

/-- A port without its hold output, which `Piece.outputs` stands for. -/
def PortState.inner (p : PortState) : PortState := { p with holdOut := false }

/-- The history store without the difference between RUNNING and SUSPENDING, which `Piece.outputs` stands for. -/
def Store.inner (x : Store) : Store :=
  { x with
    erase := x.erase.map fun e => { e with condition := if e.condition = .suspending then .running else e.condition } }

/-- The pieces of the state. `outputs` are MHO, PHO, WAKE and the asking of a running erase to stop, which follow from the rest. -/
inductive Piece where
  | supply
  | outputs
  | port (side : Port)
  | forward
  | arbiters
  | settings
  | windows
  | intake
  | index
  | area
  | records
  | ack
  | report
  | array
  | store
  | management
  | time
  | due
  | pending
deriving DecidableEq, Repr

/-- A piece is the same in two states. -/
def Piece.same (x : Piece) (s t : State) : Prop :=
  match x with
  | .supply => t.powered = s.powered ∧ t.scanning = s.scanning ∧ t.rate = s.rate ∧ t.scans = s.scans
  | .outputs =>
    t.wake = s.wake ∧ t.link.m.holdOut = s.link.m.holdOut ∧ t.link.p.holdOut = s.link.p.holdOut ∧ t.store.erase = s.store.erase
  | .port side => (t.link.port side).inner = (s.link.port side).inner
  | .forward => t.link.toP = s.link.toP ∧ t.link.toM = s.link.toM
  | .arbiters => t.link.lastForwarded = s.link.lastForwarded ∧ t.link.lastReceipt = s.link.lastReceipt
  | .settings => t.settings = s.settings
  | .windows => t.windows = s.windows
  | .intake => t.intake = s.intake
  | .index => t.index = s.index
  | .area => t.area = s.area
  | .records => t.records = s.records
  | .ack => t.ack = s.ack
  | .report => t.report = s.report
  | .array => t.array = s.array
  | .store => t.store.inner = s.store.inner
  | .management => t.management = s.management
  | .time => t.time = s.time
  | .due => t.due = s.due
  | .pending => t.pending = s.pending

/-- Every piece but those named is the same in two states. -/
def OnlyChanges (changed : List Piece) (s t : State) : Prop := ∀ x : Piece, x ∉ changed → x.same s t

/-! ## Requests -/

/-- A request with this payload is the oldest, and can be executed and answered. -/
def State.asked (s : State) (p : List Byte) (rest : List (List Byte)) : Prop :=
  s.powered = true ∧ s.management.requests = p :: rest ∧
    s.management.replies.length + (if s.management.reserved then 1 else 0) < 4

/-- A request is answered at once: it has left its queue and its reply is the newest. -/
def AnswersAtOnce (s t : State) (rest : List (List Byte)) (reply : List Byte) : Prop :=
  t.management = { requests := rest, replies := s.management.replies ++ [reply], reserved := s.management.reserved }

/-! ## Fields as bytes -/

/-- A number as `n` bytes, most significant first (section 1.9). -/
def bigEndian : Nat → Nat → List Byte
  | 0, _ => []
  | n + 1, v => bigEndian n (v / 256) ++ [BitVec.ofNat 8 v]

/-- The unsigned number in `n` bytes of a payload from an offset, most significant first; a byte past the end counts as 0. -/
def numberAt (p : List Byte) (i : Nat) : Nat → Nat
  | 0 => 0
  | n + 1 => numberAt p i n * 256 + (p.getD (i + n) 0).toNat

/-- The signed number in four bytes of a payload. -/
def signedAt (p : List Byte) (i : Nat) : Int :=
  if numberAt p i 4 < 2147483648 then numberAt p i 4 else (numberAt p i 4 : Int) - 4294967296

/-- The issue word of a NOTICE: bits 15 to 4 issue, 3 and 2 reach, 1 kind, 0 area flag (section 1.9). -/
def Key.issueNumber (k : Key) (area : Bool) : Nat :=
  k.issue.toNat * 16 +
    (match k.scope with
     | .cell _ _ => 0
     | .zone _ => 4
     | .nation => 8) + (if area then 1 else 0)

/-! ## Contexts (R51) -/

/-- Context `n` is the one that a fragment of this rank takes the place of (R51): of the contexts of equal or lesser importance the one of
greatest rank, and among those of that rank the one of oldest allocation sequence, the lower-numbered where neither of two is older. -/
def Intake.IsVictim (x : Intake) (rank n : Nat) (c : Context) : Prop :=
  let older (a b : Half) : Prop := 1 ≤ (b - a).toNat ∧ (b - a).toNat ≤ 32767
  x.contexts[n]? = some (some c) ∧ rank ≤ c.rank ∧
    ∀ m d, x.contexts[m]? = some (some d) → rank ≤ d.rank → m ≠ n →
      d.rank < c.rank ∨
        (d.rank = c.rank ∧ (older c.sequence d.sequence ∨ (¬ older d.sequence c.sequence ∧ n < m)))

/-! ## The pending write list -/

/-- The pending write list after the sweep that follows a history write (R177): with fewer than 16 keys, the oldest unpersisted entry in index
order that is not on it joins it; not in RAM-ONLY (R182). -/
def sweptList (ramOnly : Bool) (entries : List Entry) (writes : List Key) : List Key :=
  if ramOnly = true ∨ 16 ≤ writes.length then writes
  else
    match entries.find? fun e => !e.persisted && !writes.contains e.fields.key with
    | some e => writes ++ [e.fields.key]
    | none => writes

/-- Different keys have been offered in this order to a pending write list that stood as `writes` (R176): those not on it join as its newest
while fewer than 16 wait, each of the others is deferred and counted; in RAM-ONLY none is taken or counted. -/
def KeysOffered (s t : State) (writes keys : List Key) : Prop :=
  let offered := if s.store.ramOnly then [] else keys.filter fun x => !writes.contains x
  t.store.writes = writes ++ offered.take (16 - writes.length) ∧
    t.index.counters.writeDeferrals = bumpBy (offered.length - (16 - writes.length)) s.index.counters.writeDeferrals

/-- The entries of different keys have been created or changed, after those of `gone` were removed (R75, R83, R87, R88): their keys have been
offered to the list as it then stood, and a slot program that runs has its entry changed or removed under it. -/
def EntriesPut (s t : State) (gone : Key → Bool) (writes keys : List Key) : Prop :=
  KeysOffered s t writes keys ∧
    t.store.running = s.store.running.map fun x =>
      match x with
      | .slotProgram w =>
        .slotProgram { w with
          touched := w.touched || keys.contains w.fields.key
          removed := w.removed || gone w.fields.key }
      | _ => x

/-- The pending write list that a new entry finds once the entry of `k` has been evicted for it (R86, R88, R178): the key is off the list,
and where its retry was due, which ends its write, the sweep has followed (log entry 12). -/
def State.writesWithout (s : State) (k : Key) (entries : List Entry) : List Key :=
  let left := s.store.writes.filter fun x => x != k
  if s.store.retry = some k then sweptList s.store.ramOnly entries left else left

/-! ## The report queue (R158, R159) -/

/-- A report queue with its flush countdown after a summary has come to it: dropped by 32, and otherwise the newest of the queue, with the
countdown at its delay where the queue was empty, at 0 where it is the 32nd, and at the smaller of the two in between. -/
def Report.after (q : Report) (x : QueuedSummary) : Report :=
  let n := q.queue.length
  if 32 ≤ n then q
  else
    { queue := q.queue ++ [x]
      countdown :=
        if n = 0 then some x.delay else if n = 31 then some 0 else some (min (q.countdown.getD x.delay) x.delay) }

/-- These summaries have come to the report queue in this order, and those it dropped have been counted. -/
def SummariesJoin (s t : State) (xs : List QueuedSummary) : Prop :=
  t.report = xs.foldl Report.after s.report ∧
    t.records.counters.reportOverflow = bumpBy (xs.length - (32 - s.report.queue.length)) s.records.counters.reportOverflow

/-! ## Records -/

/-- The record that R117 asks for: from a completed context and its completion window, judged against a position at an epoch count, before it
has joined a list or taken a slot. -/
def Context.recordIn (c : Context) (w : Window) (p : Position) (epoch : Word) : Record :=
  { handle := none, key := c.key, zone := c.zone, cell := c.cell, revision := c.revision, attrs := w.attrs,
    text := c.parts.flatMap fun x => x.getD [], area := c.trailer, verdict := some (p.verdict c.trailer),
    lifetimeEnd := lifetimeEndOf epoch ((if c.lifetimeCode = 0 then w.attrs.defaultLifetime else c.lifetimeCode.toNat) * 300),
    state := .waiting, undelivered := true, redeliver := none, reminder := none, remindersLeft := w.attrs.reminderCount,
    deliveryStep := 0, ackDeferred := false, latched := none, entered := 0 }

/-- The handle a record takes with these free slots and generations: the oldest free slot (R115, R118). -/
def handleFrom (free : List Nat) (generations : List Byte) : Option Handle := free.head?.map fun k => ⟨generations.getD k 0, k⟩

/-- What becomes of a new record of this window, from a record unit, area unit and report queue as in `m` (R104, R107, R108, R117, R118,
R120, R121). A muted one completes MUTED without a slot. One to be held joins the held list, and where there are 8 already the one of earliest
lifetime end of the nine, the new one on a tie, completes OUT-OF-AREA. One presented stands WAITING after the active records of its rank or a
more important one, in the oldest free slot; where the list is full the last that is not DELIVERING, itself included, completes DISPLACED. R97,
R105: an area of a span above 180,000,000 is counted as ignored, but not for a muted one, which is not judged. -/
def NewRecordStands (m t : State) (w : Window) (r : Record) : Prop :=
  let v := m.area.position.verdict r.area
  let shown : Prop :=
    v = .noArea ∨ v = .inside ∨ (v = .edge ∧ w.attrs.edgePolicy = .present) ∨ (v = .unknown ∧ w.attrs.unknownPolicy = .present)
  let free := m.records.free
  let generations := m.records.generations
  let capacity : Nat := if m.records.latched.isSome then 15 else 16
  let wide : Prop := ∃ area, r.area = some area ∧ ∃ u ∈ area, ∃ v ∈ area, 180000000 < u.lon - v.lon
  t.records.latched = m.records.latched ∧ t.records.delivery = m.records.delivery ∧
  (w.attrs.muted = true → t.area = m.area ∧
    t.records.active = m.records.active ∧ t.records.held = m.records.held ∧ t.records.free = free ∧
    t.records.generations = generations ∧ t.records.counters.muted = bump m.records.counters.muted ∧
    SummariesJoin m t [⟨m.summaryOf r .muted, r.attrs.reportDelay⟩]) ∧
  (w.attrs.muted = false →
    (wide → t.area.counters.areaIgnored = bump m.area.counters.areaIgnored) ∧
    (¬ wide → t.area.counters.areaIgnored = m.area.counters.areaIgnored)) ∧
  (w.attrs.muted = false → ¬ shown →
    t.records.active = m.records.active ∧
    (m.records.held.length < 8 →
      t.records.held = m.records.held ++ [{ r with handle := handleFrom free generations, state := .held }] ∧
      t.records.free = free.drop 1 ∧ t.records.generations = generations ∧ t.report = m.report ∧
      t.area.counters.recordsHeld = bump m.area.counters.recordsHeld) ∧
    ∀ before e after h, m.records.held.length = 8 → m.records.held = before ++ e :: after → e.handle = some h →
        (∀ x ∈ before, e.lifetimeEnd.toNat < x.lifetimeEnd.toNat) → (∀ x ∈ after, e.lifetimeEnd.toNat ≤ x.lifetimeEnd.toNat) →
      t.area.counters.heldOverflow = bump m.area.counters.heldOverflow ∧
      t.records.counters.outOfArea = bump m.records.counters.outOfArea ∧
      (r.lifetimeEnd.toNat ≤ e.lifetimeEnd.toNat →
        t.records.held = m.records.held ∧ t.records.free = free ∧ t.records.generations = generations ∧
        t.area.counters.recordsHeld = m.area.counters.recordsHeld ∧
        SummariesJoin m t [⟨m.summaryOf r .outOfArea, r.attrs.reportDelay⟩]) ∧
      (e.lifetimeEnd.toNat < r.lifetimeEnd.toNat →
        t.records.free = (free ++ [h.slot]).drop 1 ∧ t.records.generations = generations.modify h.slot (· + 1) ∧
        t.records.held = before ++ after ++
          [{ r with handle := handleFrom (free ++ [h.slot]) (generations.modify h.slot (· + 1)), state := .held }] ∧
        t.area.counters.recordsHeld = bump m.area.counters.recordsHeld ∧
        SummariesJoin m t [⟨m.summaryOf e .outOfArea, e.attrs.reportDelay⟩])) ∧
  (w.attrs.muted = false → shown →
    t.records.held = m.records.held ∧
    t.area.counters = { m.area.counters with areaIgnored := t.area.counters.areaIgnored } ∧
    ∀ before after, m.records.active = before ++ after → (∀ x ∈ before, x.attrs.cls.rank ≤ r.attrs.cls.rank) →
        (∀ x ∈ after, r.attrs.cls.rank < x.attrs.cls.rank) →
      (m.records.active.length < capacity →
        t.records.active =
          before ++ { r with handle := handleFrom free generations, entered := m.records.entries } :: after ∧
        t.records.free = free.drop 1 ∧ t.records.generations = generations ∧ t.report = m.report ∧
        t.records.counters.displaced = m.records.counters.displaced) ∧
      (m.records.active.length = capacity →
        t.records.counters.displaced = bump m.records.counters.displaced ∧
        ((∀ x ∈ after, x.state = .delivering) →
          t.records.active = m.records.active ∧ t.records.free = free ∧ t.records.generations = generations ∧
          SummariesJoin m t [⟨m.summaryOf r .displaced, r.attrs.reportDelay⟩]) ∧
        ∀ between x last h, after = between ++ x :: last → x.state ≠ .delivering → (∀ y ∈ last, y.state = .delivering) →
            x.handle = some h →
          t.records.free = (free ++ [h.slot]).drop 1 ∧ t.records.generations = generations.modify h.slot (· + 1) ∧
          t.records.active = before ++
            { r with
              handle := handleFrom (free ++ [h.slot]) (generations.modify h.slot (· + 1)), entered := m.records.entries } ::
            (between ++ last) ∧
          SummariesJoin m t [⟨m.summaryOf x .displaced, x.attrs.reportDelay⟩]))

/-- The reminder step has increased and its schedule has been applied (R145, R146, R147): each DELIVERED active record that is due has its
reminder set, stamped with the new step, and its reminders left decremented; every other record is as it was. -/
def ReminderStepTaken (s t : State) : Prop :=
  let step := s.ack.step + 1
  t.ack = { s.ack with step := step } ∧
  ∃ f : Record → Record, t.records = { s.records with active := s.records.active.map f } ∧
    ∀ r : Record,
      (∀ c : Nat, r.state = .delivered → r.attrs.periodCode = c + 1 → c < 6 → 0 < r.remindersLeft → r.reminder = none →
          step ≠ r.deliveryStep → (step - r.deliveryStep).toNat % 2 ^ c = 0 →
        f r = { r with reminder := some step, remindersLeft := r.remindersLeft - 1 }) ∧
      (r.state ≠ .delivered ∨ r.attrs.periodCode = 0 ∨ r.remindersLeft = 0 ∨ r.reminder ≠ none ∨ step = r.deliveryStep ∨
          (∃ c : Nat, r.attrs.periodCode = c + 1 ∧ c < 6 ∧ (step - r.deliveryStep).toNat % 2 ^ c ≠ 0) →
        f r = r)

/-! ## The array (R170, R188, R190) -/

/-- The sectors with an erase in flight cut. -/
def State.eraseCut (s : State) (sectors : List Sector) : List Sector :=
  match s.store.erase with
  | some e => sectors.modify e.sector fun x => { x with halfErased := true }
  | none => sectors

/-- The array a loss of power, a power-on reset or a pin reset leaves: what runs is cut, its locations unknown, and an erase in flight too
(R190). -/
def State.arrayCut (s : State) : NvArray :=
  match s.store.running, s.store.job with
  | some (.slotProgram w), _ =>
    { s.array with
      sectors := s.eraseCut (s.array.sectors.modify w.sector fun x => { x with slots := x.slots.set w.slot (.cut w.fields) }) }
  | some (.headerAmend r), _ =>
    { s.array with sectors := s.eraseCut (s.array.sectors.modify r.sector fun x => { x with doubt := some r.amend }) }
  | some .provisioning, some ⟨_, slot, .copy n b⟩ =>
    { sectors := s.eraseCut s.array.sectors
      provisioning := s.array.provisioning.modify slot fun x => { x with copies := x.copies.set n (.cut b) } }
  | some .provisioning, some ⟨_, slot, .lock _⟩ =>
    { sectors := s.eraseCut s.array.sectors
      provisioning := s.array.provisioning.modify slot fun x => { x with lock := .doubtful } }
  | _, _ => { s.array with sectors := s.eraseCut s.array.sectors }

/-- The array a soft reset leaves: a program or amend has run to its end with its verify result, an erase in flight is abandoned (R190). -/
def State.arrayEnded (s : State) (verify : SlotVerify) : NvArray :=
  match s.store.running, s.store.job with
  | some (.slotProgram w), _ =>
    let slot : Slot :=
      match verify with
      | .passed => .committed w.fields
      | .fieldsFailed => .void
      | .markFailed => .markFailed w.fields
    { s.array with
      sectors := s.eraseCut (s.array.sectors.modify w.sector fun x => { x with slots := x.slots.set w.slot slot }) }
  | some (.headerAmend r), _ =>
    { s.array with
      sectors := s.eraseCut (s.array.sectors.modify r.sector fun x =>
        if verify = .passed then
          match r.amend with
          | .opening q => { x with sequence := some q, opened := true, doubt := none }
          | .full => { x with full := true, doubt := none }
          | .retiring => { x with retiring := true, doubt := none }
          | .worn => { x with worn := true, doubt := none }
        else { x with doubt := some r.amend }) }
  | some .provisioning, some ⟨_, slot, .copy n b⟩ =>
    { sectors := s.eraseCut s.array.sectors
      provisioning := s.array.provisioning.modify slot fun x =>
        { x with copies := x.copies.set n (if verify = .passed then .committed b else .void) } }
  | some .provisioning, some ⟨_, slot, .lock _⟩ =>
    { sectors := s.eraseCut s.array.sectors
      provisioning := s.array.provisioning.modify slot fun x => { x with lock := if verify = .passed then .set else .doubtful } }
  | _, _ => { s.array with sectors := s.eraseCut s.array.sectors }

/-- What the scan may read in a slot: a cut one as blank, committed or void, one whose mark failed its verify as committed or still void
(R178, R190). -/
def Slot.ReadsAs (x y : Slot) : Prop :=
  match x with
  | .cut f => y = .blank ∨ y = .committed f ∨ y = .void
  | .markFailed f => y = .committed f ∨ y = x
  | _ => y = x

/-- What the scan may read of a sector: after an amend that was cut or failed, the sequence and the mark each as before or as programmed
(R171); after an erase that was cut or failed, an ERASED or RETIRING sector as before or invalid (R190); otherwise the header as it is. -/
def Sector.ReadsAs (x y : Sector) : Prop :=
  y.doubt = none ∧ y.halfErased = false ∧
  (x.halfErased = false →
    List.Forall₂ Slot.ReadsAs x.slots y.slots ∧
    (x.doubt = none → y = { x with slots := y.slots }) ∧
    (∀ q, x.doubt = some (.opening q) →
      (y.sequence = x.sequence ∨ y.sequence = some q) ∧ (y.opened = x.opened ∨ y.opened = true) ∧
      y = { x with sequence := y.sequence, opened := y.opened, doubt := none, slots := y.slots }) ∧
    (x.doubt = some .full → (y.full = x.full ∨ y.full = true) ∧ y = { x with full := y.full, doubt := none, slots := y.slots }) ∧
    (x.doubt = some .retiring →
      (y.retiring = x.retiring ∨ y.retiring = true) ∧ y = { x with retiring := y.retiring, doubt := none, slots := y.slots }) ∧
    (x.doubt = some .worn → (y.worn = x.worn ∨ y.worn = true) ∧ y = { x with worn := y.worn, doubt := none, slots := y.slots })) ∧
  (x.halfErased = true → x.doubt = none → x.slots ≠ [] → x.state = .erased ∨ x.state = .retiring →
    y.state = x.state ∨ y.state = .invalid)

/-- What the scan may read of a copy: one whose program was cut as committed or void (R185). -/
def Copy.ReadsAs (x y : Copy) : Prop :=
  match x with
  | .cut b => y = .committed b ∨ y = .void
  | _ => y = x

/-- What the scan may read of a provisioning slot; a lock mark that was cut or failed may read as programmed (R186). -/
def ProvisioningSlot.ReadsAs (x y : ProvisioningSlot) : Prop :=
  List.Forall₂ Copy.ReadsAs x.copies y.copies ∧ (y.lock = x.lock ∨ (x.lock = .doubtful ∧ y.lock = .set))

/-- What the scan may read of the array. -/
def NvArray.ReadsAs (x y : NvArray) : Prop :=
  List.Forall₂ Sector.ReadsAs x.sectors y.sectors ∧ List.Forall₂ ProvisioningSlot.ReadsAs x.provisioning y.provisioning

/-- The first part of the scan, having read the array `a` (R188): the RETIRING and invalid sectors are queued for erase, each a reclaim in
flight. The newest OPEN sector is current and every older one is asked for its FULL amend, as is the current one where it has no next slot
(R179). With none OPEN, the lowest-numbered spare is opened with the sequence of the newest FULL sector plus 1, or 0; with no spare either,
no sector is current. `worn` is the number of spares whose opening fails; the clause on a spare is for none. -/
def State.ScanBegun (t : State) (a : NvArray) (worn : Nat) : Prop :=
  let x (k : Nat) : Sector := a.sectors.getD k .erased
  let sequence (k : Nat) : Half := (x k).sequence.getD 0
  let newer (i j : Nat) : Prop := 1 ≤ (sequence i - sequence j).toNat ∧ (sequence i - sequence j).toNat ≤ 32767
  let queued := [0, 1, 2, 3].filter fun k => (x k).state = .retiring || (x k).state = .invalid
  t.array.provisioning = a.provisioning ∧ t.store.erases = queued ∧ t.store.reclaims = queued ∧
  (∀ k ∈ [0, 1, 2, 3], (x k).state = .opened →
      (∀ j ∈ [0, 1, 2, 3], (x j).state = .opened → j ≠ k → newer k j) →
    t.array = a ∧ t.store.current = some k ∧ t.store.lastSequence = some (sequence k) ∧
    ∀ r : AmendRequest, r ∈ t.store.amends ↔
      r.amend = .full ∧ r.again = false ∧ r.sector ∈ [0, 1, 2, 3] ∧ (x r.sector).state = .opened ∧
        (r.sector ≠ k ∨ (x k).nextSlot = none)) ∧
  (worn = 0 → (∀ k ∈ [0, 1, 2, 3], (x k).state ≠ .opened) →
    ∀ k ∈ [0, 1, 2, 3], (x k).state = .erased → (∀ j ∈ [0, 1, 2, 3], (x j).state = .erased → k ≤ j) →
    t.store.current = some k ∧ t.store.amends = [] ∧
    ∃ q, t.store.lastSequence = some q ∧
      t.array.sectors = a.sectors.modify k (fun y => { y with sequence := some q, opened := true, doubt := none }) ∧
      ((∀ j ∈ [0, 1, 2, 3], (x j).state ≠ .full) → q = 0) ∧
      (∀ j ∈ [0, 1, 2, 3], (x j).state = .full → (∀ i ∈ [0, 1, 2, 3], (x i).state = .full → i ≠ j → newer j i) →
        q = sequence j + 1)) ∧
  ((∀ k ∈ [0, 1, 2, 3], (x k).state ≠ .opened ∧ (x k).state ≠ .erased) →
    t.array = a ∧ t.store.current = none ∧ t.store.amends = [])

/-! ## Reclaim (R180) -/

/-- Sector `j` is a FULL sector other than the current one; an OPEN sector that is not current counts as FULL (R180, R188, log entry 20). -/
def State.CountsAsFull (s : State) (j : Nat) : Prop :=
  j ∈ s.usableSectors ∧ s.store.current ≠ some j ∧ ((s.sector j).state = .full ∨ (s.sector j).state = .opened)

/-- Sector `k` is the oldest FULL sector other than the current one (R180). -/
def State.IsOldestFull (s : State) (k : Nat) : Prop :=
  let age (j : Nat) : Nat := ((s.sector j).sequence.getD 0 - (s.sector k).sequence.getD 0).toNat
  s.CountsAsFull k ∧ ∀ j, s.CountsAsFull j → j ≠ k → 1 ≤ age j ∧ age j ≤ 32767

/-- No usable sector is ERASED. -/
def State.NoSpare (s : State) : Prop := ∀ j ∈ s.usableSectors, (s.sector j).state ≠ .erased

/-- Sector `k` is the lowest-numbered usable ERASED sector. -/
def State.IsFirstSpare (s : State) (k : Nat) : Prop :=
  k ∈ s.usableSectors ∧ (s.sector k).state = .erased ∧ ∀ j ∈ s.usableSectors, (s.sector j).state = .erased → k ≤ j

/-- A reclaim of sector `k` has started (R180): from these index entries, this pending write list, these waiting amends and these queued
erases, the entries that live in the sector are unpersisted with no location, their keys have been offered in index order, the RETIRING amend
and the erase are queued. -/
def ReclaimStarts (s t : State) (entries : List Entry) (writes : List Key) (amends : List AmendRequest) (erases : List Nat) (k : Nat) : Prop :=
  let lives (e : Entry) : Bool := e.location.any fun l => l.1 == k
  t.index.entries = entries.map (fun e => if lives e then { e with persisted := false, location := none } else e) ∧
  KeysOffered s t writes ((entries.filter lives).map fun e => e.fields.key) ∧
  t.store.amends = amends ++ [⟨k, .retiring, false⟩] ∧ t.store.erases = erases ++ [k] ∧ t.store.reclaims = [k]

/-- The conditions of R180 have been examined, with these entries, this list, these amends, erases and reclaims: where the current sector holds 56
used slots or is FULL, or no sector is current, no spare stands ready, no reclaim is in flight, no clear is in progress, and the store is neither
in RAM-ONLY (R182) nor scanned (R189), a reclaim of the oldest FULL sector starts; otherwise all are left as they are. -/
def ReclaimFollows (s t : State) (entries : List Entry) (writes : List Key) (amends : List AmendRequest) (erases reclaims : List Nat) : Prop :=
  let due : Prop :=
    (∀ k, t.store.current = some k → 56 ≤ (t.sector k).usedSlots ∨ (t.sector k).state = .full) ∧ t.NoSpare ∧ reclaims = [] ∧
      t.store.clear = none ∧ t.store.ramOnly = false ∧ t.scanning = false
  (due → (entries.map fun e => e.fields.key).Nodup → ∀ k, t.IsOldestFull k → ReclaimStarts s t entries writes amends erases k) ∧
  (¬ (due ∧ ∃ k, t.CountsAsFull k) →
    t.index.entries = entries ∧ KeysOffered s t writes [] ∧ t.store.amends = amends ∧ t.store.erases = erases ∧
      t.store.reclaims = reclaims)

/-! ## Rotation (R179, R181) -/

/-- The sequence the next opened sector takes: that of the last current sector plus 1 (R179); where there has been none since the scan, that of
the newest FULL sector plus 1, or 0 (log entry 18). -/
def State.IsNextSequence (s : State) (q : Half) : Prop :=
  let full (j : Nat) : Prop := j ∈ s.usableSectors ∧ (s.sector j).state = .full
  let sequence (j : Nat) : Half := (s.sector j).sequence.getD 0
  (∀ last, s.store.lastSequence = some last → q = last + 1) ∧
  (s.store.lastSequence = none →
    ((∀ j, ¬ full j) → q = 0) ∧
    ∀ j, full j → (∀ i, full i → i ≠ j → 1 ≤ (sequence j - sequence i).toNat ∧ (sequence j - sequence i).toNat ≤ 32767) → q = sequence j + 1)

/-- The amends after the store has looked for a successor (R179, R181), where these wait and `opening` tells whether an opening waits or runs:
where the current sector is FULL or no sector is current, the lowest-numbered spare is asked to be opened; not in RAM-ONLY (R182), in a clear, or
beside another opening. -/
def SuccessorFollows (t : State) (opening : Bool) (amends after : List AmendRequest) : Prop :=
  let needed : Prop :=
    (∀ k, t.store.current = some k → (t.sector k).state = .full) ∧ t.store.ramOnly = false ∧ t.store.clear = none ∧ opening = false
  (needed → ∀ k, t.IsFirstSpare k → ∃ q, t.IsNextSequence q ∧ after = amends ++ [⟨k, .opening q, false⟩]) ∧
  (¬ (needed ∧ ∃ k, t.IsFirstSpare k) → after = amends)

/-! ## CLEAR HISTORY (R187) -/

/-- A clear after one of its amends or erases has ended, with these amends waiting: while a RETIRING amend is outstanding, or an erase queued or in
flight, it goes on as it stands; after the last one it ends with its reply in RAM-ONLY where fewer than two sectors are usable, and otherwise
asks for the opening of the lowest-numbered spare with sequence 0, where no opening waits. -/
def ClearFollows (s t : State) (c : Clear) (amends : List AmendRequest) : Prop :=
  let left : Prop := (∃ x ∈ t.store.outstanding, x.amend = .retiring) ∨ t.store.erases ≠ [] ∨ t.store.erase ≠ none
  (left → t.store.clear = some c ∧ t.management = s.management ∧ t.store.amends = amends) ∧
  (¬ left → t.usableSectors.length < 2 →
    t.store.ramOnly = true ∧ t.store.writes = [] ∧ t.store.retry = none ∧ t.store.clear = none ∧ t.store.amends = amends ∧
    t.management = { s.management with replies := s.management.replies ++ [[0x31, c.tag, 0]], reserved := false }) ∧
  (¬ left → 2 ≤ t.usableSectors.length → (∀ x ∈ amends, x.amend.isOpening = false) → ∀ k, t.IsFirstSpare k →
    t.store.amends = amends ++ [⟨k, .opening 0, false⟩] ∧ t.store.clear = some { c with opening := true } ∧
    t.management = s.management)

/-! ## Invariants -/

/-- The outputs of a powered part, from the rest of its state. `hold`: a hold output is asserted at or above the high mark and released at or
below the low mark (R9). `wake`: WAKE is high while an enabled cause holds: ALERT, REPORT, REPLY or BACKLOG (R164, R166). `erase`: no
program or amend waits beside an erase that is RUNNING out of its minimum run (R173, R174). The low mark is below the high mark (R10). -/
structure State.OutputsFollow (s : State) : Prop where
  marks : ∀ port, (s.settings.marks port).low < (s.settings.marks port).high
  hold : s.powered = true → ∀ port,
    let p := s.link.port port
    let occupancy := (p.fifo.frames.map fun f => f.payload.length + 6).sum + p.fifo.reserved
    ((s.settings.marks port).high ≤ occupancy → p.holdOut = true) ∧ (occupancy ≤ (s.settings.marks port).low → p.holdOut = false)
  wake : s.powered = true →
    (s.wake = true ↔
      (s.settings.wakeEnables.alert = true ∧
        ((∃ r ∈ s.records.active, r.undelivered = true ∨ r.redeliver ≠ none ∨ r.reminder ≠ none) ∨ s.records.delivery ≠ none)) ∨
      (s.settings.wakeEnables.report = true ∧ s.report.queue ≠ [] ∧ s.report.countdown = some 0) ∨
      (s.settings.wakeEnables.reply = true ∧ s.management.replies ≠ []) ∨
      (s.settings.wakeEnables.backlog = true ∧
        s.settings.backlogMark ≤ (s.link.toP.map fun f => f.payload.length + 6).sum))
  erase : s.powered = true → ∀ e, s.store.erase = some e → e.condition = .running → e.minimumRun = false →
    (s.store.job = none ∨ s.store.running = some .provisioning) ∧ s.store.amends = [] ∧
    ∀ k, s.store.writes ≠ [] ∨ s.store.retry ≠ none → s.store.current = some k → (s.sector k).state = .opened →
      (s.sector k).nextSlot ≠ none → s.store.clear = none → s.store.ramOnly = true

/-- The bounds of the queues and tables (R41, R42, R60, R106, R154, R158, R159, R176, R192, R193), and the reminder step of a powered part: with
the increase that is still owed, if one is, it is the epoch count divided by 16, modulo 65536, and one is owed only while the epoch count is the
multiple of 16 that brought it (R145, log entry 2). -/
structure State.Bounded (s : State) : Prop where
  intake : s.intake.queue.length ≤ 16
  contexts : s.intake.contexts.length = 8 ∧ ∀ c, some c ∈ s.intake.contexts → c.errors ≤ 2
  completing : ∀ n, s.intake.completing = some n → ∃ c, s.intake.contexts[n]? = some (some c)
  held : s.records.held.length ≤ 8
  receipts : s.ack.receipts.length ≤ 16
  report : s.report.queue.length ≤ 32 ∧ (s.report.queue = [] ↔ s.report.countdown = none)
  writes : s.store.writes.length ≤ 16 ∧ s.store.writes.Nodup
  requests : s.management.requests.length ≤ 4
  replies : s.management.replies.length + (if s.management.reserved then 1 else 0) ≤ 4
  reserved : s.management.reserved = (s.store.job.isSome || s.store.clear.isSome)
  oneDeferred : s.store.job = none ∨ s.store.clear = none
  reminderStep : s.powered = true →
    (s.ack.step.toNat + (if s.due.reminderStep then 1 else 0)) % 65536 = s.time.epoch.toNat / 16 % 65536 ∧
      (s.due.reminderStep = true → s.time.epoch.toNat % 16 = 0)

/-- A receive FIFO within its 2048 bytes, the frame being taken in within the room reserved for it (R3, R7). -/
def PortState.fits (p : PortState) : Prop :=
  p.fifo.occupancy ≤ 2048 ∧
    match p.receiver with
    | .hunt => p.fifo.reserved = 0
    | .header _ => p.fifo.reserved = 0
    | .payload f =>
      f.count < f.length ∧ p.fifo.reserved = (if f.room then f.length + 6 else 0) ∧ (f.room = true → f.kept.length = f.count)
    | .check f _ => p.fifo.reserved = (if f.room then f.length + 6 else 0) ∧ (f.room = true → f.kept.length = f.length)

/-- The receive FIFOs and forward buffers within their capacities (R7, R13). -/
def Link.fits (l : Link) : Prop := l.m.fits ∧ l.p.fits ∧ framesSize l.toP ≤ 4096 ∧ framesSize l.toM ≤ 2048

/-- Slots, handles and lists of the record unit agree (R115, R119, R120, R131). -/
structure Records.Ordered (r : Records) : Prop where
  handles : ∀ x ∈ r.live, x.handle.isSome = true
  slots : (r.free ++ r.live.filterMap fun x => x.handle.map Handle.slot).Perm (List.range 24)
  generations : r.generations.length = 24 ∧ ∀ x ∈ r.live, ∀ h, x.handle = some h → r.generations.getD h.slot 0 = h.generation
  active : r.active.length ≤ (if r.latched.isSome then 15 else 16)
  held : r.held.length ≤ 8
  order : r.active.Pairwise fun x y =>
    x.attrs.cls.rank < y.attrs.cls.rank ∨ (x.attrs.cls.rank = y.attrs.cls.rank ∧ x.entered < y.entered)
  entered : ∀ x ∈ r.active, x.entered < r.entries
  heldStates : ∀ x ∈ r.held, x.state = .held ∧ x.latched = none
  activeStates : ∀ x ∈ r.active, x.state ≠ .held ∧ x.latched = none
  latchedState : ∀ x, r.latched = some x → x.state = .delivering ∧ x.latched.isSome = true
  sequence : match r.delivery with
    | none => r.latched = none ∧ ∀ x ∈ r.active, x.state ≠ .delivering
    | some d => d.left ≠ [] ∧
      ∃ x, (r.active ++ r.latched.toList).filter (fun y => y.state == .delivering) = [x] ∧ x.handle.map Handle.slot = some d.slot

/-- No two entries share a key (R69), every active or held record has its NOTICE-SEEN entry (R81), and no record is listed while the scan
runs (R138). -/
def State.indexLaw (s : State) : Prop :=
  (s.scanning = true → s.records.active = [] ∧ s.records.held = []) ∧
  (s.index.entries.map fun e => e.fields.key).Nodup ∧
    ∀ r ∈ s.records.active ++ s.records.held,
      ∃ e ∈ s.index.entries, e.fields.key = r.key ∧ e.fields.state = .noticeSeen ∧ e.fields.revision = r.revision

/-- Whether the content of a copy is unknown. -/
def Copy.unknown : Copy → Bool
  | .cut _ => true
  | _ => false

/-- No locked slot is being programmed, no content of a locked slot is unknown, and while there is power no copy's content is unknown: the
scan has read it (R184, R185, R186, R190). -/
def State.provisioningSound (s : State) : Prop :=
  (∀ j, s.store.job = some j → (s.provisioningSlot j.slot).locked = false) ∧
  (∀ n, (s.provisioningSlot n).locked = true ∨ s.powered = true → ∀ x ∈ (s.provisioningSlot n).copies, x.unknown = false)

end Sys2Proof.Machine
end

