-- ==== Sys2Proof/Certificates/Slice0/Obligations.lean ====
section
/-!
DEFINITION. The statements for the provers. Each docstring names the rules of spec/ it formalises; where a statement's conclusion is that a
command answers a next state, it is also the statement of where that command completes.
-/

open Sys2Proof Sys2Proof.Machine

/-! ## The queue of commands -/

/-- A step executes the command at the front of the queue on the state with the rest of the queue, and a part with nothing to do idles
(the idling is the model's choice, log entry 3). -/
def Obligations.StepRunsTheFrontCommand : Prop :=
  (∀ (c : Instr) (rest : List Instr) (s : State), step { s with pending := c :: rest } = exec c { s with pending := rest }) ∧
  (∀ (c : Instr) (s : State), step (s.enqueueFront c) = exec c s) ∧
  ∀ s : State, s.pending = [] → step s = .next s

/-! ## Link path -/

/-- R3, R8: what a byte that ends neither a header nor a frame does to its receiver. R2: the check it is computed into: it starts from 0xFFFF and
takes each byte most significant bit first, shifting left and taking away x^16 + x^12 + x^5 + 1 where the bit shifted out and the bit taken
in differ. -/
def Obligations.ByteReceivedMovesTheReceiver : Prop :=
  (checkOf [] = 0xFFFF ∧ (∀ (p : List Byte) (b : Byte), checkOf (p ++ [b]) = checkByte (checkOf p) b) ∧
    ∀ (c : Half) (b : Byte),
      checkByte c b = [7, 6, 5, 4, 3, 2, 1, 0].foldl
        (fun (x : Half) i => if x.getLsbD 15 = b.getLsbD i then x <<< 1 else (x <<< 1) ^^^ 0x1021) c) ∧
  ∀ (s : State) (port : Port) (b : Byte), s.powered = true → (s.link.port port).receiver.plain = true →
    ∃ t, exec (.byteReceived port b) s = .next t ∧ OnlyChanges [.port port, .outputs] s t ∧
      let q := (s.link.port port).inner
      let r := (t.link.port port).inner
      (q.receiver = .hunt → r = { q with receiver := if b = 0xD3 then .header [] else .hunt }) ∧
      (∀ kept, q.receiver = .header kept → kept.length < 2 ∧ r = { q with receiver := .header (kept ++ [b]) }) ∧
      (∀ f, q.receiver = .payload f →
        let g : Incoming :=
          { f with check := checkByte f.check b, count := f.count + 1, kept := if f.room then f.kept ++ [b] else f.kept }
        r = { q with receiver := if f.count + 1 < f.length then .payload g else .check g none }) ∧
      (∀ f, q.receiver = .check f none → r = { q with receiver := .check f (some b) })

/-- R3, R4, R7, R8: the second length byte abandons the frame, reserves room, or refuses room. -/
def Obligations.HeaderEndReservesRoom : Prop :=
  ∀ (s : State) (port : Port) (channel high b : Byte), s.powered = true →
    (s.link.port port).receiver = .header [channel, high] →
    ∃ t, exec (.headerEnd port b) s = .next t ∧ OnlyChanges [.port port, .outputs] s t ∧
      let q := (s.link.port port).inner
      let r := (t.link.port port).inner
      let len := (high ++ b).toNat
      let taken (room : Bool) : Receiver :=
        let f : Incoming :=
          { channel := channel, length := len, room := room, check := checkOf [channel, high, b], count := 0, kept := [] }
        if len = 0 then .check f none else .payload f
      (512 < len → r = { q with receiver := .hunt, counters := { q.counters with headerErrors := bump q.counters.headerErrors } }) ∧
      (len ≤ 512 → q.fifo.occupancy + (len + 6) ≤ 2048 →
        r = { q with receiver := taken true, fifo := { q.fifo with reserved := len + 6 } }) ∧
      (len ≤ 512 → 2048 < q.fifo.occupancy + (len + 6) → r = { q with receiver := taken false })

/-- R3, R5, R8: the second check byte makes the frame the newest of the receive FIFO, or discards it. -/
def Obligations.FrameEndAcceptsOrDiscards : Prop :=
  ∀ (s : State) (port : Port) (f : Incoming) (high b : Byte), s.powered = true →
    (s.link.port port).receiver = .check f (some high) →
    ∃ t, exec (.frameEnd port b) s = .next t ∧ OnlyChanges [.port port, .outputs] s t ∧
      let q := (s.link.port port).inner
      let r := (t.link.port port).inner
      (high ++ b = f.check → f.room = true →
        r = { q with
          receiver := .hunt
          fifo := { frames := q.fifo.frames ++ [⟨f.channel, f.kept⟩], reserved := 0 }
          counters := { q.counters with accepted := bump q.counters.accepted } }) ∧
      (high ++ b = f.check → f.room = false →
        r = { q with receiver := .hunt, counters := { q.counters with overruns := bump q.counters.overruns } }) ∧
      (high ++ b ≠ f.check →
        r = { q with
          receiver := .hunt
          fifo := { q.fifo with reserved := 0 }
          counters := { q.counters with checkErrors := bump q.counters.checkErrors } })

/-- R6: a gap discards the partial frame; in HUNT no gap timer runs and nothing happens. -/
def Obligations.GapDiscardsThePartialFrame : Prop :=
  ∀ (s : State) (port : Port), s.powered = true →
    ((s.link.port port).receiver ≠ .hunt →
      ∃ t, exec (.gapError port) s = .next t ∧ OnlyChanges [.port port, .outputs] s t ∧
        let q := (s.link.port port).inner
        (t.link.port port).inner =
          { q with
            receiver := .hunt
            fifo := { q.fifo with reserved := 0 }
            counters := { q.counters with gapErrors := bump q.counters.gapErrors } }) ∧
    ((s.link.port port).receiver = .hunt → exec (.gapError port) s = .next s)

/-- R11: where the M sorter places the head frame, and where it stalls. -/
def Obligations.MSorterPlacesTheHeadFrame : Prop :=
  ∀ (s : State) (f : Frame) (rest : List Frame), s.powered = true → s.link.m.fifo.frames = f :: rest →
    let q := s.link.m.inner
    (f.channel = 0xB0 → s.intake.queue.length < 16 →
      ∃ t, exec .mSorter s = .next t ∧ OnlyChanges [.port .m, .intake, .outputs] s t ∧
        t.link.m.inner = { q with fifo := { q.fifo with frames := rest } } ∧
        t.intake = { s.intake with queue := s.intake.queue ++ [f.payload] }) ∧
    (reservedChannel f.channel = true → f.channel ≠ 0xB0 →
      ∃ t, exec .mSorter s = .next t ∧ OnlyChanges [.port .m, .outputs] s t ∧
        t.link.m.inner =
          { q with
            fifo := { q.fifo with frames := rest }
            counters := { q.counters with misdirected := bump q.counters.misdirected } }) ∧
    (reservedChannel f.channel = false → framesSize s.link.toP + (f.payload.length + 6) ≤ 4096 →
      ∃ t, exec .mSorter s = .next t ∧ OnlyChanges [.port .m, .forward, .outputs] s t ∧
        t.link.toP = s.link.toP ++ [f] ∧ t.link.toM = s.link.toM ∧
        t.link.m.inner =
          { q with
            fifo := { q.fifo with frames := rest }
            counters := { q.counters with forwarded := bump q.counters.forwarded } }) ∧
    ((f.channel = 0xB0 ∧ 16 ≤ s.intake.queue.length) ∨
        (reservedChannel f.channel = false ∧ 4096 < framesSize s.link.toP + (f.payload.length + 6)) →
      exec .mSorter s = .next s)

/-- R12, R192: where the P sorter places the head frame, and where it stalls. -/
def Obligations.PSorterPlacesTheHeadFrame : Prop :=
  ∀ (s : State) (f : Frame) (rest : List Frame), s.powered = true → s.link.p.fifo.frames = f :: rest →
    let q := s.link.p.inner
    (f.channel = 0xB8 → s.management.requests.length < 4 →
      ∃ t, exec .pSorter s = .next t ∧ OnlyChanges [.port .p, .management, .outputs] s t ∧
        t.link.p.inner = { q with fifo := { q.fifo with frames := rest } } ∧
        t.management = { s.management with requests := s.management.requests ++ [f.payload] }) ∧
    (reservedChannel f.channel = true → f.channel ≠ 0xB8 →
      ∃ t, exec .pSorter s = .next t ∧ OnlyChanges [.port .p, .outputs] s t ∧
        t.link.p.inner =
          { q with
            fifo := { q.fifo with frames := rest }
            counters := { q.counters with misdirected := bump q.counters.misdirected } }) ∧
    (reservedChannel f.channel = false → framesSize s.link.toM + (f.payload.length + 6) ≤ 2048 →
      ∃ t, exec .pSorter s = .next t ∧ OnlyChanges [.port .p, .forward, .outputs] s t ∧
        t.link.toM = s.link.toM ++ [f] ∧ t.link.toP = s.link.toP ∧
        t.link.p.inner =
          { q with
            fifo := { q.fifo with frames := rest }
            counters := { q.counters with forwarded := bump q.counters.forwarded } }) ∧
    ((f.channel = 0xB8 ∧ 4 ≤ s.management.requests.length) ∨
        (reservedChannel f.channel = false ∧ 2048 < framesSize s.link.toM + (f.payload.length + 6)) →
      exec .pSorter s = .next s)

/-- R15: a hold input takes its level and nothing else changes, outputs included; with it asserted an arbiter takes nothing. (That it takes its
level with no supply too is the model's choice, log entry 11.) -/
def Obligations.HoldInputStopsNewFrames : Prop :=
  (∀ (s : State) (port : Port) (level : Bool),
    ∃ t, exec (.holdInput port level) s = .next t ∧ OnlyChanges [.port port] s t ∧
      (t.link.port port).inner = { (s.link.port port).inner with holdIn := level }) ∧
  (∀ s : State, s.link.p.holdIn = true → exec .pPortArbiter s = .next s) ∧
  (∀ s : State, s.link.m.holdIn = true → exec .mPortArbiter s = .next s)

/-- R13, R15, R193: the last byte of a frame is sent. -/
def Obligations.FrameSentIsDoneWith : Prop :=
  ∀ (s : State) (port : Port) (source : Source) (f : Frame), s.powered = true →
    (s.link.port port).sending = some ⟨source, f⟩ →
    ∃ t, exec (.frameSent port) s = .next t ∧ OnlyChanges [.port port, .forward, .management, .ack, .outputs] s t ∧
      let q := (s.link.port port).inner
      (t.link.port port).inner = { q with sending := none, counters := { q.counters with sent := bump q.counters.sent } } ∧
      t.link.toP = (if source = .forwarded ∧ port = .p then s.link.toP.drop 1 else s.link.toP) ∧
      t.link.toM = (if source = .forwarded ∧ port = .m then s.link.toM.drop 1 else s.link.toM) ∧
      t.management =
        (if source = .reply then { s.management with replies := s.management.replies.drop 1 } else s.management) ∧
      t.ack = (if source = .receipt then { s.ack with receipts := s.ack.receipts.drop 1 } else s.ack)

/-- R18, R155: the M-port arbiter's choice, row by row of the rule's table; R152: the payload of a receipt, and the fields it is built with. -/
def Obligations.MPortArbiterAlternates : Prop :=
  (∀ x : Receipt, x.payload =
    bigEndian 2 x.stream.toNat ++ bigEndian 2 x.issueWord.toNat ++ [BitVec.ofNat 8 x.revision.toNat] ++ bigEndian 2 x.language.toNat ++
      bigEndian 2 x.zone.toNat ++ bigEndian 4 x.cell.toNat ++
      [match x.kind with
       | .delivered => (1 : Byte)
       | .acknowledged => 2] ++ bigEndian 4 x.wall.toNat) ∧
  (∀ (s : State) (r : Record) (kind : ReceiptKind),
    let x := s.receiptOf r kind
    x.stream = r.key.stream ∧ x.issueWord.toNat = r.key.issueNumber r.area.isSome ∧ x.revision = r.revision ∧
      x.language = r.key.language ∧ x.zone = r.zone ∧ x.cell = r.cell ∧ x.kind = kind ∧ x.wall = s.time.wall) ∧
  ∀ s : State, s.powered = true → s.link.m.sending = none → s.link.m.holdIn = false →
    let q := s.link.m.inner
    (∀ r rest, s.ack.receipts = r :: rest → s.link.toM = [] ∨ s.link.lastReceipt = false →
      ∃ t, exec .mPortArbiter s = .next t ∧ OnlyChanges [.port .m, .arbiters, .outputs] s t ∧
        t.link.m.inner = { q with sending := some ⟨.receipt, ⟨0xB1, r.payload⟩⟩ } ∧
        t.link.lastReceipt = true ∧ t.link.lastForwarded = s.link.lastForwarded) ∧
    (∀ f rest, s.link.toM = f :: rest → s.ack.receipts = [] ∨ s.link.lastReceipt = true →
      ∃ t, exec .mPortArbiter s = .next t ∧ OnlyChanges [.port .m, .arbiters, .outputs] s t ∧
        t.link.m.inner = { q with sending := some ⟨.forwarded, f⟩ } ∧
        t.link.lastReceipt = false ∧ t.link.lastForwarded = s.link.lastForwarded) ∧
    (s.ack.receipts = [] → s.link.toM = [] → exec .mPortArbiter s = .next s)

/-- R16 (its choices but 1 and 4, which DeliveryBegins, SequenceRunsWhole and RemindIsTaken state), R162: replies, forwarded frames and
the report frame at the P-port arbiter; R130, R162, R163: the payload of a report, its status byte, and the summaries it carries. -/
def Obligations.PPortArbiterChooses : Prop :=
  (∀ (status : Byte) (xs : List Summary),
    reportPayload status xs =
      [status, BitVec.ofNat 8 xs.length] ++ xs.flatMap fun x =>
        bigEndian 2 x.handle.toNat ++ bigEndian 2 x.stream.toNat ++ bigEndian 2 x.issueWord.toNat ++
          [BitVec.ofNat 8 x.revision.toNat,
           match x.code with
           | .acknowledged => (1 : Byte)
           | .expired => 2
           | .superseded => 3
           | .withdrawn => 4
           | .outOfArea => 5
           | .muted => 6
           | .displaced => 7
           | .flushed => 8] ++ bigEndian 4 x.epoch.toNat) ∧
  (∀ s : State, s.reportStatus.toNat =
    (if s.store.ramOnly then 1 else 0) + (if s.time.timeSet then 0 else 2) +
      (match s.area.position.state with
       | .none => 0
       | .fresh => 4
       | .stale => 8)) ∧
  (∀ (s : State) (r : Record) (code : Code),
    let x := s.summaryOf r code
    (∀ h, r.handle = some h → x.handle = h.generation ++ BitVec.ofNat 8 h.slot) ∧ (r.handle = none → x.handle = 0xFFFF) ∧
      x.stream = r.key.stream ∧ x.issueWord.toNat = r.key.issueNumber r.area.isSome ∧ x.revision = r.revision ∧ x.code = code ∧
      x.epoch = s.time.epoch) ∧
  ∀ s : State, s.powered = true → s.link.p.sending = none → s.link.p.holdIn = false → s.records.delivery = none →
    let q := s.link.p.inner
    (∀ r rest, s.management.replies = r :: rest →
      ∃ t, exec .pPortArbiter s = .next t ∧ OnlyChanges [.port .p, .arbiters, .outputs] s t ∧
        t.link.p.inner = { q with sending := some ⟨.reply, ⟨0xB8, r⟩⟩ } ∧
        t.link.lastForwarded = false ∧ t.link.lastReceipt = s.link.lastReceipt) ∧
    (∀ f rest, s.management.replies = [] → s.link.toP = f :: rest →
        s.link.lastForwarded = false ∨ (s.deliveryWork = false ∧ s.reportPending = false) →
      ∃ t, exec .pPortArbiter s = .next t ∧ OnlyChanges [.port .p, .arbiters, .outputs] s t ∧
        t.link.p.inner = { q with sending := some ⟨.forwarded, f⟩ } ∧
        t.link.lastForwarded = true ∧ t.link.lastReceipt = s.link.lastReceipt) ∧
    (s.management.replies = [] → s.link.toP = [] ∨ s.link.lastForwarded = true → s.deliveryWork = false →
        s.report.queue ≠ [] → s.report.countdown = some 0 →
      ∃ t, exec .pPortArbiter s = .next t ∧ OnlyChanges [.port .p, .arbiters, .report, .outputs] s t ∧
        t.link.p.inner =
          { q with sending := some ⟨.report,
            ⟨0xB5, reportPayload s.reportStatus (s.report.queue.map QueuedSummary.summary)⟩⟩ } ∧
        t.report = { queue := [], countdown := none } ∧
        t.link.lastForwarded = false ∧ t.link.lastReceipt = s.link.lastReceipt) ∧
    (s.management.replies = [] → s.link.toP = [] → s.deliveryWork = false → s.reportPending = false →
      exec .pPortArbiter s = .next s)

/-! ## Deliveries -/

/-- R122, R123, R124, R125, R126: with no sequence in progress, no reply waiting and the forwarded frames yielding, the engine takes the
first frame of the sequence of the first record in list order that wants one. A record of more than one part becomes DELIVERING; a one-
part sequence is over at once, with its delivery counted, and its DELIVERED receipt queued or, by a full queue, dropped and counted (R150,
R154). (That a redelivery goes out before a pending reminder of the same record, where a row of R129 has the REMIND go out first, is the
model's choice, log entry 32.) -/
def Obligations.DeliveryBegins : Prop :=
  ∀ (s : State) (r : Record) (h : Handle), s.powered = true → s.link.p.sending = none → s.link.p.holdIn = false →
    s.records.Ordered → s.records.delivery = none → s.management.replies = [] →
    s.link.toP = [] ∨ s.link.lastForwarded = true →
    s.records.active.find? Record.wantsDelivery = some r → r.handle = some h →
    (∀ i, r.redeliver = some i → 1 ≤ i ∧ i ≤ partCount r.text.length) →
    let n := partCount r.text.length
    let first := if r.undelivered then 1 else r.redeliver.getD 1
    ∃ t, exec .pPortArbiter s = .next t ∧ OnlyChanges [.port .p, .arbiters, .records, .ack, .outputs] s t ∧
      t.link.p.inner =
        { s.link.p.inner with sending := some ⟨.delivery, ⟨0xB4, r.partPayload s.time.epoch n first⟩⟩ } ∧
      t.link.lastForwarded = false ∧ t.link.lastReceipt = s.link.lastReceipt ∧
      (192 < r.text.length →
        t.ack = s.ack ∧
        (∃ left, t.records.delivery = some { slot := h.slot, count := n, left := left } ∧
          first :: left = List.range' first (n + 1 - first) ++ List.range' 1 (first - 1)) ∧
        t.records =
          { s.records with
            active := s.records.active.map fun x => if x.handle = some h then { x with state := .delivering } else x
            delivery := t.records.delivery }) ∧
      (r.text.length ≤ 192 →
        let receipt : Prop := r.undelivered = true ∧ (r.attrs.receiptMode = .delivered ∨ r.attrs.receiptMode = .both)
        let k := s.records.counters
        t.records =
          { s.records with
            active := s.records.active.map fun x =>
              if x.handle = some h then
                { x with
                  state := .delivered, undelivered := false, redeliver := none
                  deliveryStep := if r.undelivered then s.ack.step else r.deliveryStep }
              else x
            counters :=
              { k with
                firstDeliveries := if r.undelivered then bump k.firstDeliveries else k.firstDeliveries
                redeliveries := if r.undelivered then k.redeliveries else bump k.redeliveries
                receiptsDropped :=
                  if receipt ∧ 16 ≤ s.ack.receipts.length then bump k.receiptsDropped else k.receiptsDropped } } ∧
        t.ack =
          { s.ack with
            receipts :=
              if receipt ∧ s.ack.receipts.length < 16 then s.ack.receipts ++ [s.receiptOf r .delivered] else s.ack.receipts })

/-- R17, R126: while a sequence is in progress the arbiter takes its next frame whatever else waits; the last frame leaves the record
DELIVERED, or carries out a latched completion. R150, R151, R153: a first delivery that ends with ACKNOWLEDGED latched by an acknowledgement
queues a DELIVERED receipt and then the completion's ACKNOWLEDGED one, each by the receipt mode; any other latched code queues none. R130, R158,
R159: the completion's summary, with the flush countdown; R137, R154: the counters. -/
def Obligations.SequenceRunsWhole : Prop :=
  ∀ (s : State) (d : Delivery) (r : Record) (i : Nat) (rest : List Nat), s.powered = true → s.link.p.sending = none →
    s.link.p.holdIn = false → s.records.Ordered → s.records.delivery = some d → d.left = i :: rest →
    r ∈ s.records.active ++ s.records.latched.toList → r.state = .delivering →
    ∃ t, exec .pPortArbiter s = .next t ∧ OnlyChanges [.port .p, .arbiters, .records, .ack, .report, .outputs] s t ∧
      t.link.p.inner =
        { s.link.p.inner with sending := some ⟨.delivery, ⟨0xB4, r.partPayload s.time.epoch d.count i⟩⟩ } ∧
      t.link.lastForwarded = false ∧ t.link.lastReceipt = s.link.lastReceipt ∧
      (rest ≠ [] → t.ack = s.ack ∧ t.report = s.report ∧ t.records = { s.records with delivery := some { d with left := rest } }) ∧
      (rest = [] →
        t.records.counters.firstDeliveries =
          (if r.undelivered then bump s.records.counters.firstDeliveries else s.records.counters.firstDeliveries) ∧
        t.records.counters.redeliveries =
          (if r.undelivered then s.records.counters.redeliveries else bump s.records.counters.redeliveries)) ∧
      (rest = [] → r.latched = none →
        t.report = s.report ∧ t.records.delivery = none ∧ t.records.latched = none ∧ t.records.held = s.records.held ∧
        t.records.free = s.records.free ∧ t.records.generations = s.records.generations ∧
        t.records.active = s.records.active.map (fun x =>
          if x.handle = r.handle then
            { x with
              state := .delivered, undelivered := false, redeliver := none
              deliveryStep := if r.undelivered then s.ack.step else r.deliveryStep }
          else x) ∧
        t.ack.receipts =
          (if r.undelivered ∧ (r.attrs.receiptMode = .delivered ∨ r.attrs.receiptMode = .both) ∧ s.ack.receipts.length < 16 then
            s.ack.receipts ++ [s.receiptOf r .delivered]
           else s.ack.receipts) ∧
        t.records.counters.receiptsDropped =
          (if r.undelivered ∧ (r.attrs.receiptMode = .delivered ∨ r.attrs.receiptMode = .both) ∧ 16 ≤ s.ack.receipts.length then
            bump s.records.counters.receiptsDropped
           else s.records.counters.receiptsDropped)) ∧
      (rest = [] → ∀ code, r.latched = some code →
        t.records.delivery = none ∧ t.records.latched = none ∧ t.records.active = s.records.active ∧
        t.records.held = s.records.held ∧ t.records.live.length + 1 = s.records.live.length ∧
        (∀ h, r.handle = some h → t.records.free = s.records.free ++ [h.slot] ∧
          t.records.generations = s.records.generations.modify h.slot (· + 1)) ∧
        SummariesJoin s t [⟨s.summaryOf r code, if code = .flushed then 0 else r.attrs.reportDelay⟩] ∧
        t.ack.step = s.ack.step ∧
        (code = .acknowledged → r.ackDeferred = true →
          let first :=
            if r.undelivered ∧ (r.attrs.receiptMode = .delivered ∨ r.attrs.receiptMode = .both) ∧ s.ack.receipts.length < 16 then
              s.ack.receipts ++ [s.receiptOf r .delivered]
            else s.ack.receipts
          t.ack.receipts =
            (if (r.attrs.receiptMode = .acked ∨ r.attrs.receiptMode = .both) ∧ first.length < 16 then
              first ++ [s.receiptOf r .acknowledged]
             else first) ∧
          t.records.counters.receiptsDropped =
            bumpBy
              ((if r.undelivered ∧ (r.attrs.receiptMode = .delivered ∨ r.attrs.receiptMode = .both) ∧ 16 ≤ s.ack.receipts.length
                then 1 else 0) +
               (if (r.attrs.receiptMode = .acked ∨ r.attrs.receiptMode = .both) ∧ 16 ≤ first.length then 1 else 0))
              s.records.counters.receiptsDropped) ∧
        (code ≠ .acknowledged → r.ackDeferred = false → t.ack.receipts = s.ack.receipts) ∧
        (let before := s.records.counters
         let after := t.records.counters
         match code with
         | .acknowledged => after.acknowledged = bump before.acknowledged
         | .expired => after.expired = bump before.expired
         | .superseded => after.superseded = bump before.superseded
         | .withdrawn => after.withdrawn = bump before.withdrawn
         | .outOfArea => after.outOfArea = bump before.outOfArea
         | .muted => after.muted = bump before.muted
         | .displaced => after.displaced = bump before.displaced
         | .flushed => after.flushed = bump before.flushed))

/-- R122, R127, R148: with no full delivery wanted, the reminder set at the oldest step is taken, list order deciding among those of one
step. -/
def Obligations.RemindIsTaken : Prop :=
  ∀ (s : State) (before after : List Record) (r : Record) (stamp : Half), s.powered = true → s.link.p.sending = none →
    s.link.p.holdIn = false → s.records.Ordered → s.records.delivery = none → s.management.replies = [] →
    s.link.toP = [] ∨ s.link.lastForwarded = true → (∀ x ∈ s.records.active, x.wantsDelivery = false) →
    s.records.active = before ++ r :: after → r.reminder = some stamp →
    (∀ x ∈ before, ∀ y, x.reminder = some y → (s.ack.step - y).toNat < (s.ack.step - stamp).toNat) →
    (∀ x ∈ after, ∀ y, x.reminder = some y → (s.ack.step - y).toNat ≤ (s.ack.step - stamp).toNat) →
    ∃ t, exec .pPortArbiter s = .next t ∧ OnlyChanges [.port .p, .arbiters, .records, .outputs] s t ∧
      t.link.p.inner = { s.link.p.inner with sending := some ⟨.delivery, ⟨0xB4, r.remindPayload s.time.epoch⟩⟩ } ∧
      t.link.lastForwarded = false ∧ t.link.lastReceipt = s.link.lastReceipt ∧
      t.records =
        { s.records with
          active := before ++ { r with reminder := none } :: after
          counters := { s.records.counters with remindersSent := bump s.records.counters.remindersSent } }

/-- R123: the parts of a delivery sequence carry the record's whole text, in order, the first part at most 192 bytes of it and every other
at most 256; R124, R127: the payloads of the parts and of a REMIND frame, field by field. -/
def Obligations.PartsCarryTheText : Prop :=
  (∀ text : List Byte,
    (List.range' 1 (partCount text.length)).flatMap (partText text) = text ∧
    (∀ i, 1 ≤ i → (partText text i).length ≤ (if i = 1 then 192 else 256)) ∧
    (text.length ≤ 1440 → partCount text.length ≤ 6)) ∧
  ∀ (r : Record) (h : Handle) (v : Verdict) (epoch : Word), r.handle = some h → r.verdict = some v →
    let handle : List Byte := [h.generation, BitVec.ofNat 8 h.slot]
    let remaining : Nat :=
      if r.lifetimeEnd.toNat ≤ epoch.toNat then 0 else min ((r.lifetimeEnd.toNat - epoch.toNat + 9) / 10) 65535
    let header : List Byte :=
      bigEndian 2 r.key.stream.toNat ++ bigEndian 2 (r.key.issueNumber r.area.isSome) ++
        [BitVec.ofNat 8 r.revision.toNat,
         match r.attrs.cls with
         | .national => (0 : Byte)
         | .extreme => 1
         | .severe => 2
         | .advisory => 3
         | .local => 4
         | .test => 5] ++ bigEndian 2 r.key.language.toNat ++
        [match v with
         | .noArea => (0 : Byte)
         | .unknown => 1
         | .inside => 2
         | .edge => 3
         | .outside => 4] ++ bigEndian 2 r.zone.toNat ++ bigEndian 4 r.cell.toNat ++ bigEndian 2 remaining ++
        [BitVec.ofNat 8 r.remindersLeft] ++ bigEndian 2 r.text.length
    (∀ n, r.partPayload epoch n 1 = handle ++ [1, 1, BitVec.ofNat 8 n] ++ header ++ r.text.take 192) ∧
    (∀ n i, 2 ≤ i →
      r.partPayload epoch n i =
        handle ++ [1, BitVec.ofNat 8 i, BitVec.ofNat 8 n] ++ (r.text.drop (192 + 256 * (i - 2))).take 256) ∧
    r.remindPayload epoch = handle ++ [2, 1, 1] ++ header

/-! ## Fragments -/

/-- R26, R27, R42, R43, R47: a malformed fragment, an unlisted one and an early duplicate are counted (or raw-forwarded) and leave contexts,
index and records as they were. R23, R24: which window a stream is given; R25: the
answer, the window's identity with its values; R72: which revision is newer; R43: which fragments are malformed; R46 (and section 1.9): the
fields and the key of one that is well formed. -/
def Obligations.TakeFragmentDiscards : Prop :=
  (∀ (ws : Windows) (stream : Half),
    let claims (x : Window) : Prop := x.valid = true ∧ stream &&& x.mask = x.base &&& x.mask
    (ws.classify stream = none ↔ ∀ x ∈ ws.override ++ ws.ordinary, ¬ claims x) ∧
    (∀ x, ws.classify stream = some x ↔
      claims x ∧ ∃ before after, ws.override ++ ws.ordinary = before ++ x :: after ∧ ∀ y ∈ before, ¬ claims y) ∧
    ws.classify stream = (ws.answer stream).map Prod.snd ∧
    (∀ n x, ws.answer stream = some (.override n, x) ↔
      claims x ∧ ws.override[n]? = some x ∧ ∀ k y, k < n → ws.override[k]? = some y → ¬ claims y) ∧
    ∀ n x, ws.answer stream = some (.ordinary n, x) ↔
      claims x ∧ ws.ordinary[n]? = some x ∧ (∀ y ∈ ws.override, ¬ claims y) ∧
        ∀ k y, k < n → ws.ordinary[k]? = some y → ¬ claims y) ∧
  (∀ r r0 : BitVec 4, newerRevision r r0 = true ↔
    1 ≤ (r.toNat + 16 - r0.toNat) % 16 ∧ (r.toNat + 16 - r0.toNat) % 16 ≤ 7) ∧
  (∀ p : List Byte,
    let reach := numberAt p 8 2 / 4 % 4
    let withdraw : Prop := numberAt p 8 2 / 2 % 2 = 1
    let area : Prop := numberAt p 8 2 % 2 = 1
    let index := numberAt p 11 1 / 16
    let total := numberAt p 11 1 % 16
    let text := numberAt p 17 1
    let count := numberAt p (18 + text) 1
    let vertex (i : Nat) : Vertex := ⟨signedAt p (19 + text + 8 * i), signedAt p (19 + text + 8 * i + 4)⟩
    (readFragment p = none ↔
      p.length < 18 ∨ reach = 3 ∨ 16 ≤ numberAt p 10 1 ∨ index = 0 ∨ total = 0 ∨ total < index ∨ 96 < text ∨
        (¬ area ∧ p.length ≠ 18 + text) ∨
        (area ∧ (p.length < 19 + text ∨ count < 3 ∨ 12 < count ∨ p.length ≠ 19 + text + 8 * count ∨ index ≠ total ∨
          ∃ i < count, (vertex i).lat < -90000000 ∨ 90000000 < (vertex i).lat ∨ (vertex i).lon < -180000000 ∨
            180000000 < (vertex i).lon)) ∨
        (withdraw ∧ (total ≠ 1 ∨ area))) ∧
    ∀ f, readFragment p = some f →
      f.zone.toNat = numberAt p 0 2 ∧ f.cell.toNat = numberAt p 2 4 ∧ f.key.stream.toNat = numberAt p 6 2 ∧
      f.key.issue.toNat = numberAt p 8 2 / 16 ∧ f.key.language.toNat = numberAt p 12 2 ∧
      (reach = 0 → f.key.scope = .cell f.zone f.cell) ∧ (reach = 1 → f.key.scope = .zone f.zone) ∧
      (reach = 2 → f.key.scope = .nation) ∧ (f.withdraw = true ↔ withdraw) ∧ f.revision.toNat = numberAt p 10 1 ∧
      f.index = index ∧ f.total = total ∧ f.digest.toNat = numberAt p 14 2 ∧ f.lifetimeCode.toNat = numberAt p 16 1 ∧
      f.text = (p.drop 18).take text ∧ (¬ area → f.trailer = none) ∧
      (area → f.trailer = some ((List.range count).map vertex))) ∧
  ∀ (s : State) (interrupted : Bool) (p : List Byte) (rest : List (List Byte)), s.powered = true → s.scanning = false →
    s.intake.completing = none → s.intake.queue = p :: rest →
    let k := s.intake.counters
    let popped : Intake := { s.intake with queue := rest }
    (readFragment p = none →
      ∃ t, exec (.takeFragment interrupted) s = .next t ∧ OnlyChanges [.intake, .outputs] s t ∧
        t.intake = { popped with counters := { k with taken := bump k.taken, malformed := bump k.malformed } }) ∧
    (∀ f, readFragment p = some f → s.windows.classify f.key.stream = none → s.settings.unlistedAction = .discard →
      ∃ t, exec (.takeFragment interrupted) s = .next t ∧ OnlyChanges [.intake, .outputs] s t ∧
        t.intake = { popped with counters := { k with taken := bump k.taken, unlisted := bump k.unlisted } }) ∧
    (∀ f, readFragment p = some f → s.windows.classify f.key.stream = none → s.settings.unlistedAction = .forward →
      ∃ t, exec (.takeFragment interrupted) s = .next t ∧ OnlyChanges [.intake, .forward, .outputs] s t ∧ t.link.toM = s.link.toM ∧
        (framesSize s.link.toP + (p.length + 6) ≤ 4096 →
          t.link.toP = s.link.toP ++ [⟨0xB0, p⟩] ∧
          t.intake = { popped with counters := { k with taken := bump k.taken, rawForwarded := bump k.rawForwarded } }) ∧
        (4096 < framesSize s.link.toP + (p.length + 6) →
          t.link.toP = s.link.toP ∧
          t.intake = { popped with counters := { k with taken := bump k.taken, unlistedDropped := bump k.unlistedDropped } })) ∧
    (∀ f w e, readFragment p = some f → s.windows.classify f.key.stream = some w → f.withdraw = false →
        s.index.find f.key = some e → newerRevision f.revision e.fields.revision = false →
      ∃ t, exec (.takeFragment interrupted) s = .next t ∧ OnlyChanges [.intake, .outputs] s t ∧
        t.intake = { popped with counters := { k with taken := bump k.taken, earlyDuplicates := bump k.earlyDuplicates } })

/-- R48, R49, R50, R54, R55, R56: a part of a new notice allocates the lowest free context; a further part is accepted into its context; a
part already received renews the context's last progress. R51: with no free context the victim is evicted, or the fragment is shed. R52, R53, R59,
R60: a total mismatch, a conflict and a digest mismatch each count an error, and at the third the context closes FAILED. (A part that
completes its context with a matching digest is the matter of CompletionSeesTheTableAsItThenStands.) -/
def Obligations.TakeFragmentCollects : Prop :=
  ∀ (s : State) (interrupted : Bool) (p : List Byte) (rest : List (List Byte)) (f : Fragment) (w : Window), s.powered = true →
    s.scanning = false → s.intake.completing = none → s.intake.queue = p :: rest → readFragment p = some f →
    s.windows.classify f.key.stream = some w → f.withdraw = false → s.index.resolveNotice f.key f.revision ≠ .duplicate →
    let k := s.intake.counters
    let popped : Intake := { s.intake with queue := rest, counters := { k with taken := bump k.taken } }
    let takes (intake : Intake) : Prop :=
      ∃ t, exec (.takeFragment interrupted) s = .next t ∧ OnlyChanges [.intake, .outputs] s t ∧ t.intake = intake
    let fresh : Context :=
      { key := f.key, revision := f.revision, digest := f.digest, lifetimeCode := f.lifetimeCode, rank := w.attrs.cls.rank, errors := 0,
        sequence := s.intake.allocations, progress := s.time.epoch, zone := f.zone, cell := f.cell,
        parts := (List.replicate f.total none).set (f.index - 1) (some f.text),
        trailer := if f.index = f.total then f.trailer else none }
    let mismatching : Context := { fresh with parts := [none], trailer := none, errors := 1 }
    (∀ n c, s.intake.lookup f.key f.revision = none → s.intake.contexts.findIdx? Option.isNone = none →
        s.intake.IsVictim w.attrs.cls.rank n c →
      (2 ≤ f.total →
        takes { popped with
          allocations := s.intake.allocations + 1
          contexts := s.intake.contexts.set n (some fresh)
          counters := { popped.counters with evicted := bump k.evicted } }) ∧
      (f.total = 1 → checkOf f.text ≠ f.digest →
        takes { popped with
          allocations := s.intake.allocations + 1
          contexts := s.intake.contexts.set n (some mismatching)
          counters :=
            { popped.counters with evicted := bump k.evicted, digestMismatches := bump k.digestMismatches } })) ∧
    (s.intake.lookup f.key f.revision = none → s.intake.contexts.findIdx? Option.isNone = none →
        (∀ c, some c ∈ s.intake.contexts → c.rank < w.attrs.cls.rank) →
      takes { popped with counters := { popped.counters with contextShed := bump k.contextShed } }) ∧
    (∀ n, s.intake.lookup f.key f.revision = none → s.intake.contexts.findIdx? Option.isNone = some n → f.total = 1 →
        checkOf f.text ≠ f.digest →
      takes { popped with
        allocations := s.intake.allocations + 1
        contexts := s.intake.contexts.set n (some mismatching)
        counters := { popped.counters with digestMismatches := bump k.digestMismatches } }) ∧
    (∀ n c, s.intake.lookup f.key f.revision = some (n, c) →
      let failed : Prop := 3 ≤ c.errors + 1
      let closed (counters : IntakeCounters) : Intake :=
        { popped with contexts := s.intake.contexts.set n none, counters := { counters with failed := bump k.failed } }
      let mismatched : IntakeCounters := { popped.counters with totalMismatches := bump k.totalMismatches }
      let conflicted : IntakeCounters := { popped.counters with conflicts := bump k.conflicts }
      let differing : IntakeCounters := { popped.counters with digestMismatches := bump k.digestMismatches }
      (f.total ≠ c.parts.length →
        (failed → takes (closed mismatched)) ∧
        (¬ failed →
          takes { popped with
            contexts := s.intake.contexts.set n (some { c with errors := c.errors + 1 }), counters := mismatched })) ∧
      (f.total = c.parts.length → f.digest ≠ c.digest ∨ f.lifetimeCode ≠ c.lifetimeCode →
        let restarted : Context := { fresh with rank := c.rank, sequence := c.sequence, errors := c.errors + 1 }
        let both : IntakeCounters := { conflicted with digestMismatches := bump k.digestMismatches }
        (failed → takes (closed conflicted)) ∧
        (¬ failed → 2 ≤ f.total →
          takes { popped with contexts := s.intake.contexts.set n (some restarted), counters := conflicted }) ∧
        (f.total = 1 → checkOf f.text ≠ f.digest →
          (c.errors = 0 →
            takes { popped with
              contexts := s.intake.contexts.set n (some { restarted with parts := [none], trailer := none, errors := 2 })
              counters := both }) ∧
          (c.errors = 1 → takes (closed both)))) ∧
      (f.total = c.parts.length → f.digest = c.digest → f.lifetimeCode = c.lifetimeCode →
          c.parts.getD (f.index - 1) none = none →
          let parts := c.parts.set (f.index - 1) (some f.text)
          parts.all Option.isSome = true → checkOf (parts.flatMap fun x => x.getD []) ≠ c.digest →
        (failed → takes (closed differing)) ∧
        (¬ failed →
          takes { popped with
            contexts := s.intake.contexts.set n (some
              { c with
                parts := List.replicate c.parts.length none, trailer := none, errors := c.errors + 1, progress := s.time.epoch,
                zone := f.zone, cell := f.cell })
            counters := differing }))) ∧
    (∀ n, s.intake.lookup f.key f.revision = none → s.intake.contexts.findIdx? Option.isNone = some n → 2 ≤ f.total →
      ∃ t, exec (.takeFragment interrupted) s = .next t ∧ OnlyChanges [.intake, .outputs] s t ∧
        t.intake =
          { popped with
            allocations := s.intake.allocations + 1
            contexts := s.intake.contexts.set n (some
              { key := f.key, revision := f.revision, digest := f.digest, lifetimeCode := f.lifetimeCode, rank := w.attrs.cls.rank,
                errors := 0, sequence := s.intake.allocations, progress := s.time.epoch, zone := f.zone, cell := f.cell,
                parts := (List.replicate f.total none).set (f.index - 1) (some f.text),
                trailer := if f.index = f.total then f.trailer else none }) }) ∧
    (∀ n c, s.intake.lookup f.key f.revision = some (n, c) → f.total = c.parts.length → f.digest = c.digest →
        f.lifetimeCode = c.lifetimeCode → c.parts.getD (f.index - 1) none = none →
        (c.parts.set (f.index - 1) (some f.text)).all Option.isSome = false →
      ∃ t, exec (.takeFragment interrupted) s = .next t ∧ OnlyChanges [.intake, .outputs] s t ∧
        t.intake =
          { popped with
            contexts := s.intake.contexts.set n (some
              { c with
                parts := c.parts.set (f.index - 1) (some f.text), progress := s.time.epoch, zone := f.zone, cell := f.cell
                trailer := if f.index = f.total ∧ f.trailer.isSome then f.trailer else c.trailer }) }) ∧
    (∀ n c x, s.intake.lookup f.key f.revision = some (n, c) → f.total = c.parts.length → f.digest = c.digest →
        f.lifetimeCode = c.lifetimeCode → c.parts.getD (f.index - 1) none = some x →
      ∃ t, exec (.takeFragment interrupted) s = .next t ∧ OnlyChanges [.intake, .outputs] s t ∧
        t.intake =
          { popped with
            contexts := s.intake.contexts.set n (some { c with progress := s.time.epoch })
            counters := { popped.counters with duplicateFragments := bump k.duplicateFragments } })

/-- R57, R58, R73, R76, R117, R118, R121: a one-part notice, new to the index, of an unmuted window and without an area: its entry is
NOTICE-SEEN and its key offered for persistence (R75, R176), and its record stands WAITING on the active list, in the oldest free slot, with the
alert's fields. And for any completion new to the index (R104, R107, R108, R117, R118, R120, R121): where its record stands, is held, or ends
MUTED, OUT-OF-AREA or DISPLACED, and whether its area is counted as ignored (R97), as `NewRecordStands` spells it out. -/
def Obligations.TakeFragmentCreatesARecord : Prop :=
  (∀ (s : State) (interrupted : Bool) (n : Nat) (c : Context) (w : Window), s.powered = true → s.scanning = false →
    s.records.Ordered → s.intake.completing = some n → s.intake.contexts[n]? = some (some c) →
    s.windows.classify c.key.stream = some w → s.index.find c.key = none →
    ∃ t, exec (.takeFragment interrupted) s = .next t ∧
      OnlyChanges [.intake, .index, .area, .records, .report, .store, .outputs] s t ∧
      t.area.position = s.area.position ∧ t.records.counters.created = bump s.records.counters.created ∧
      NewRecordStands s t w (c.recordIn w s.area.position s.time.epoch)) ∧
  ∀ (s : State) (p : List Byte) (rest : List (List Byte)) (f : Fragment) (w : Window) (n : Nat), s.powered = true →
    s.scanning = false → s.records.Ordered → s.intake.completing = none → s.intake.queue = p :: rest → readFragment p = some f →
    s.windows.classify f.key.stream = some w → f.withdraw = false → f.total = 1 → f.trailer = none → checkOf f.text = f.digest →
    w.attrs.muted = false → s.index.find f.key = none → s.index.entries.length < 160 →
    s.intake.lookup f.key f.revision = none → s.intake.contexts.findIdx? Option.isNone = some n →
    s.records.active.length < (if s.records.latched.isSome then 15 else 16) →
    ∃ t, exec (.takeFragment false) s = .next t ∧
      OnlyChanges [.intake, .index, .records, .store, .outputs] s t ∧
      t.intake.queue = rest ∧ t.intake.contexts = s.intake.contexts ∧ t.intake.completing = none ∧
      t.intake.counters.completions = bump s.intake.counters.completions ∧
      t.index.entries = s.index.entries ++
        [{ fields :=
            { key := f.key, revision := f.revision, state := .noticeSeen, time := s.time.wall, horizon := w.horizon,
              timeUnset := !s.time.timeSet, expiry := expiryOf s.time.wall w.horizon },
           persisted := false, location := none }] ∧
      EntriesPut s t (fun _ => false) s.store.writes [f.key] ∧
      t.index.counters.noticesNew = bump s.index.counters.noticesNew ∧
      t.records.counters.created = bump s.records.counters.created ∧
      t.records.held = s.records.held ∧ t.records.latched = s.records.latched ∧
      t.records.free = s.records.free.drop 1 ∧ t.records.generations = s.records.generations ∧
      t.records.delivery = s.records.delivery ∧
      (∃ before after r, s.records.active = before ++ after ∧ t.records.active = before ++ r :: after ∧
        (∀ x ∈ before, x.attrs.cls.rank ≤ r.attrs.cls.rank) ∧ (∀ x ∈ after, r.attrs.cls.rank < x.attrs.cls.rank) ∧
        (∃ h, r.handle = some h ∧ s.records.free.head? = some h.slot ∧
          s.records.generations.getD h.slot 0 = h.generation) ∧
        r.key = f.key ∧ r.zone = f.zone ∧ r.cell = f.cell ∧ r.revision = f.revision ∧ r.attrs = w.attrs ∧ r.text = f.text ∧
        r.area = none ∧ r.verdict = some .noArea ∧ r.state = .waiting ∧ r.undelivered = true ∧ r.redeliver = none ∧
        r.reminder = none ∧ r.remindersLeft = w.attrs.reminderCount ∧ r.latched = none ∧ r.entered = s.records.entries ∧
        r.lifetimeEnd =
          lifetimeEndOf s.time.epoch ((if f.lifetimeCode = 0 then w.attrs.defaultLifetime else f.lifetimeCode.toNat) * 300))

/-- R45, R79, R80 (Table 4-4): the five outcomes of a withdrawal on the index, with their counters. R82, R131: in an ordered record unit an
APPLY ends exactly the listed records of the key, each WITHDRAWN with its summary, a DELIVERING one by a latched code. R86: an ORPHAN in a full
index evicts the first entry of the rule's order whose key no live record names. R75, R176: the key of an entry created or changed is offered to the
pending write list. (That an eviction whose key's retry was due ends that write, so that the sweep follows at once, is the model's reading, log
entry 12.) -/
def Obligations.TakeFragmentWithdraws : Prop :=
  ∀ (s : State) (interrupted : Bool) (p : List Byte) (rest : List (List Byte)) (f : Fragment) (w : Window), s.powered = true →
    s.scanning = false → s.intake.completing = none → s.intake.queue = p :: rest → readFragment p = some f →
    s.windows.classify f.key.stream = some w → f.withdraw = true →
    let withdrawn : EntryFields :=
      { key := f.key, revision := f.revision, state := .withdrawn, time := s.time.wall, horizon := w.horizon,
        timeUnset := !s.time.timeSet, expiry := expiryOf s.time.wall w.horizon }
    ∃ t, exec (.takeFragment interrupted) s = .next t ∧
      OnlyChanges [.intake, .index, .records, .ack, .report, .store, .outputs] s t ∧
      t.intake.queue = rest ∧ t.intake.contexts = s.intake.contexts ∧
      t.intake.counters.withdrawals = bump s.intake.counters.withdrawals ∧
      (s.index.find f.key = none → s.index.entries.length < 160 →
        t.index.entries = s.index.entries ++ [{ fields := withdrawn, persisted := false, location := none }] ∧
        EntriesPut s t (fun _ => false) s.store.writes [f.key] ∧
        t.index.counters.withdrawalsOrphan = bump s.index.counters.withdrawalsOrphan ∧
        t.records = s.records ∧ t.report = s.report ∧ t.ack = s.ack) ∧
      (∀ e, s.index.find f.key = some e → e.fields.state = .noticeSeen →
          newerRevision f.revision e.fields.revision = true ∨ f.revision = e.fields.revision →
        t.index.entries = s.index.entries.map (fun x =>
          if x.fields.key = f.key then { x with fields := withdrawn, persisted := false } else x) ∧
        EntriesPut s t (fun _ => false) s.store.writes [f.key] ∧
        t.index.counters.withdrawalsApplied = bump s.index.counters.withdrawalsApplied ∧
        (∀ x ∈ t.records.active ++ t.records.held, x.key ≠ f.key) ∧
        (s.records.Ordered →
          let ended := (s.records.active ++ s.records.held).filter fun x => x.key = f.key && x.state ≠ .delivering
          t.records.active = s.records.active.filter (fun x => x.key ≠ f.key) ∧
          t.records.held = s.records.held.filter (fun x => x.key ≠ f.key) ∧
          t.records.latched =
            (match s.records.active.find? fun x => x.key = f.key && x.state = .delivering with
             | some x => some { x with latched := some .withdrawn, ackDeferred := false, reminder := none }
             | none => s.records.latched) ∧
          t.records.delivery = s.records.delivery ∧
          t.records.free = s.records.free ++ (ended.filterMap fun x => x.handle.map Handle.slot) ∧
          t.records.counters.withdrawn = bumpBy ended.length s.records.counters.withdrawn ∧ t.ack = s.ack ∧
          SummariesJoin s t (ended.map fun x => ⟨s.summaryOf x .withdrawn, x.attrs.reportDelay⟩))) ∧
      (s.index.find f.key = none → (s.index.entries.map fun e => e.fields.key).Nodup →
        ∀ before e after, s.index.entries = before ++ e :: after → 160 ≤ s.index.entries.length → s.named e.fields.key = false →
          (∀ x ∈ before, s.named x.fields.key = false →
            e.fields.expiry.toNat < x.fields.expiry.toNat ∨
              (e.fields.expiry = x.fields.expiry ∧ e.fields.time.toNat < x.fields.time.toNat)) →
          (∀ x ∈ after, s.named x.fields.key = false →
            e.fields.expiry.toNat < x.fields.expiry.toNat ∨
              (e.fields.expiry = x.fields.expiry ∧ e.fields.time.toNat ≤ x.fields.time.toNat)) →
        t.index.entries = before ++ after ++ [{ fields := withdrawn, persisted := false, location := none }] ∧
        t.index.counters.indexEvictions = bump s.index.counters.indexEvictions ∧ e.fields.key ∉ t.store.writes ∧
        EntriesPut s t (fun x => x == e.fields.key) (s.writesWithout e.fields.key (before ++ after)) [f.key]) ∧
      (∀ e, s.index.find f.key = some e → e.fields.state = .noticeSeen →
          newerRevision f.revision e.fields.revision = false → f.revision ≠ e.fields.revision →
        t.index.entries = s.index.entries ∧
        t.index.counters.withdrawalsStale = bump s.index.counters.withdrawalsStale ∧
        t.records = s.records ∧ t.report = s.report ∧ t.ack = s.ack ∧ t.store.writes = s.store.writes) ∧
      (∀ e, s.index.find f.key = some e → e.fields.state = .withdrawn →
          newerRevision f.revision e.fields.revision = true →
        t.index.entries = s.index.entries.map (fun x =>
          if x.fields.key = f.key then { x with fields := withdrawn, persisted := false } else x) ∧
        EntriesPut s t (fun _ => false) s.store.writes [f.key] ∧
        t.index.counters.withdrawalsRaised = bump s.index.counters.withdrawalsRaised ∧
        t.records = s.records ∧ t.report = s.report ∧ t.ack = s.ack) ∧
      (∀ e, s.index.find f.key = some e → e.fields.state = .withdrawn →
          newerRevision f.revision e.fields.revision = false →
        t.index.entries = s.index.entries ∧
        t.index.counters.withdrawalsDuplicate = bump s.index.counters.withdrawalsDuplicate ∧
        t.records = s.records ∧ t.report = s.report ∧ t.ack = s.ack ∧ t.store.writes = s.store.writes)

/-- R42, R50, R51, R53, R56, R57: the part that makes a context whole, with a matching digest: a one-part notice in a context free, freed by an
eviction or started again at a conflict, or the last missing part of any. An interrupted fragment stops there, and R36, R58: the next work of the
reassembly unit, at once where the fragment is not interrupted, settles that completion by the window table and the index as they then stand:
UNLISTED-AT-COMPLETION, STALE, or the entry of the completion window: NEW, with room in the index or after the eviction of R86, NEWER or REISSUE,
its key offered for persistence (R75, R176). R77, R82, R131: for these two the listed records of the key end SUPERSEDED first, each with its
summary, a DELIVERING one by a latched code, and the new record stands as `NewRecordStands` spells it out. Until the settling no sweep of the
contexts falls (that TAKE_FRAGMENT names the settling too is the model's choice, log entry 24; that an eviction whose key's retry was due ends that write, so
that the sweep follows at once, is its reading, log entry 12). -/
def Obligations.CompletionSeesTheTableAsItThenStands : Prop :=
  (∀ (s : State) (p : List Byte) (rest : List (List Byte)) (f : Fragment) (w : Window), s.powered = true →
    s.scanning = false → s.intake.completing = none → s.intake.queue = p :: rest → readFragment p = some f →
    s.windows.classify f.key.stream = some w → f.withdraw = false → s.index.resolveNotice f.key f.revision ≠ .duplicate →
    let k := s.intake.counters
    let matched : IntakeCounters := { k with taken := bump k.taken, completions := bump k.completions }
    let popped : Intake := { s.intake with queue := rest }
    let meets (intake : Intake) : Prop :=
      (∃ t, exec (.takeFragment true) s = .next t ∧ OnlyChanges [.intake, .outputs] s t ∧ t.intake = intake) ∧
        exec (.takeFragment false) s = exec (.takeFragment true) { s with intake := intake }
    let alone : Context :=
      { key := f.key, revision := f.revision, digest := f.digest, lifetimeCode := f.lifetimeCode, rank := w.attrs.cls.rank,
        errors := 0, sequence := s.intake.allocations, progress := s.time.epoch, zone := f.zone, cell := f.cell,
        parts := [some f.text], trailer := f.trailer }
    (f.total = 1 → checkOf f.text = f.digest → s.intake.lookup f.key f.revision = none →
      (∀ n, s.intake.contexts.findIdx? Option.isNone = some n →
        meets { popped with
          completing := some n, allocations := s.intake.allocations + 1
          contexts := s.intake.contexts.set n (some alone), counters := matched }) ∧
      (∀ n c, s.intake.contexts.findIdx? Option.isNone = none → s.intake.IsVictim w.attrs.cls.rank n c →
        meets { popped with
          completing := some n, allocations := s.intake.allocations + 1
          contexts := s.intake.contexts.set n (some alone), counters := { matched with evicted := bump k.evicted } })) ∧
    ∀ n c, s.intake.lookup f.key f.revision = some (n, c) → f.total = c.parts.length →
      (f.digest = c.digest → f.lifetimeCode = c.lifetimeCode → c.parts.getD (f.index - 1) none = none →
        let parts := c.parts.set (f.index - 1) (some f.text)
        parts.all Option.isSome = true → checkOf (parts.flatMap fun x => x.getD []) = c.digest →
        meets { popped with
          completing := some n, counters := matched
          contexts := s.intake.contexts.set n (some
            { c with
              parts := parts, progress := s.time.epoch, zone := f.zone, cell := f.cell
              trailer := if f.index = f.total ∧ f.trailer.isSome then f.trailer else c.trailer }) }) ∧
      (f.digest ≠ c.digest ∨ f.lifetimeCode ≠ c.lifetimeCode → c.errors + 1 < 3 → f.total = 1 → checkOf f.text = f.digest →
        meets { popped with
          completing := some n, counters := { matched with conflicts := bump k.conflicts }
          contexts := s.intake.contexts.set n (some
            { alone with rank := c.rank, sequence := c.sequence, errors := c.errors + 1 }) })) ∧
  ∀ (s : State) (interrupted : Bool) (n : Nat) (c : Context), s.powered = true → s.scanning = false →
    s.intake.completing = some n → s.intake.contexts[n]? = some (some c) →
    let settled : Intake := { s.intake with completing := none, contexts := s.intake.contexts.set n none }
    let k := s.intake.counters
    exec .contextTimeout s = .next s ∧
    (s.windows.classify c.key.stream = none →
      ∃ t, exec (.takeFragment interrupted) s = .next t ∧ OnlyChanges [.intake, .outputs] s t ∧
        t.intake = { settled with counters := { k with unlistedAtCompletion := bump k.unlistedAtCompletion } }) ∧
    (∀ w, s.windows.classify c.key.stream = some w →
      (s.index.resolveNotice c.key c.revision = .duplicate →
        ∃ t, exec (.takeFragment interrupted) s = .next t ∧ OnlyChanges [.intake, .outputs] s t ∧
          t.intake = { settled with counters := { k with stale := bump k.stale } }) ∧
      (s.index.find c.key = none → s.index.entries.length < 160 →
        ∃ t, exec (.takeFragment interrupted) s = .next t ∧
          OnlyChanges [.intake, .index, .area, .records, .report, .store, .outputs] s t ∧ t.intake = settled ∧
          t.index.entries = s.index.entries ++
            [{ fields :=
                { key := c.key, revision := c.revision, state := .noticeSeen, time := s.time.wall, horizon := w.horizon,
                  timeUnset := !s.time.timeSet, expiry := expiryOf s.time.wall w.horizon },
               persisted := false, location := none }] ∧
          EntriesPut s t (fun _ => false) s.store.writes [c.key] ∧
          t.area.position = s.area.position ∧ t.records.counters.created = bump s.records.counters.created ∧
          (w.attrs.muted = true → t.records.active = s.records.active ∧ t.records.held = s.records.held ∧
            t.records.counters.muted = bump s.records.counters.muted)) ∧
      (let noticed : EntryFields :=
        { key := c.key, revision := c.revision, state := .noticeSeen, time := s.time.wall, horizon := w.horizon,
          timeUnset := !s.time.timeSet, expiry := expiryOf s.time.wall w.horizon }
       (s.index.find c.key = none → (s.index.entries.map fun e => e.fields.key).Nodup →
        ∀ before e after, s.index.entries = before ++ e :: after → 160 ≤ s.index.entries.length → s.named e.fields.key = false →
          (∀ x ∈ before, s.named x.fields.key = false →
            e.fields.expiry.toNat < x.fields.expiry.toNat ∨
              (e.fields.expiry = x.fields.expiry ∧ e.fields.time.toNat < x.fields.time.toNat)) →
          (∀ x ∈ after, s.named x.fields.key = false →
            e.fields.expiry.toNat < x.fields.expiry.toNat ∨
              (e.fields.expiry = x.fields.expiry ∧ e.fields.time.toNat ≤ x.fields.time.toNat)) →
        ∃ t, exec (.takeFragment interrupted) s = .next t ∧
          OnlyChanges [.intake, .index, .area, .records, .report, .store, .outputs] s t ∧ t.intake = settled ∧
          t.index.entries = before ++ after ++ [{ fields := noticed, persisted := false, location := none }] ∧
          t.index.counters.indexEvictions = bump s.index.counters.indexEvictions ∧
          t.index.counters.noticesNew = bump s.index.counters.noticesNew ∧ e.fields.key ∉ t.store.writes ∧
          EntriesPut s t (fun x => x == e.fields.key) (s.writesWithout e.fields.key (before ++ after)) [c.key]) ∧
       ∀ e, s.index.find c.key = some e → newerRevision c.revision e.fields.revision = true → s.records.Ordered →
        let ended := (s.records.active ++ s.records.held).filter fun x => x.key = c.key && x.state ≠ .delivering
        let freed := ended.filterMap fun x => x.handle.map Handle.slot
        ∃ t, exec (.takeFragment interrupted) s = .next t ∧
          OnlyChanges [.intake, .index, .area, .records, .report, .store, .outputs] s t ∧ t.intake = settled ∧
          t.index.entries = s.index.entries.map (fun x =>
            if x.fields.key = c.key then { x with fields := noticed, persisted := false } else x) ∧
          EntriesPut s t (fun _ => false) s.store.writes [c.key] ∧
          t.index.counters.noticesNewer =
            (if e.fields.state = .noticeSeen then bump s.index.counters.noticesNewer else s.index.counters.noticesNewer) ∧
          t.index.counters.noticesReissued =
            (if e.fields.state = .withdrawn then bump s.index.counters.noticesReissued else s.index.counters.noticesReissued) ∧
          t.records.counters.superseded = bumpBy ended.length s.records.counters.superseded ∧
          t.records.counters.created = bump s.records.counters.created ∧
          (∀ x ∈ s.records.active ++ s.records.held, x.key = c.key → x ∉ t.records.active ++ t.records.held) ∧
          t.records.latched =
            (match s.records.active.find? fun x => x.key = c.key && x.state = .delivering with
             | some x => some { x with latched := some .superseded, ackDeferred := false, reminder := none }
             | none => s.records.latched) ∧
          (s.report.queue.length + ended.length ≤ 32 →
            ∃ more, t.report.queue.map QueuedSummary.summary = s.report.queue.map QueuedSummary.summary ++
              ended.map (fun x => s.summaryOf x .superseded) ++ more) ∧
          (w.attrs.muted = true →
            t.records.active = s.records.active.filter (fun x => x.key ≠ c.key) ∧
            t.records.held = s.records.held.filter (fun x => x.key ≠ c.key)) ∧
          ∃ m : State, m.area = s.area ∧ m.time = s.time ∧
            m.records =
              { s.records with
                active := s.records.active.filter fun x => x.key ≠ c.key
                held := s.records.held.filter fun x => x.key ≠ c.key
                latched := t.records.latched
                free := s.records.free ++ freed
                generations := freed.foldl (fun g k => g.modify k (· + 1)) s.records.generations
                counters :=
                  { s.records.counters with
                    created := bump s.records.counters.created
                    superseded := bumpBy ended.length s.records.counters.superseded
                    reportOverflow := m.records.counters.reportOverflow } } ∧
            SummariesJoin s m (ended.map fun x => ⟨s.summaryOf x .superseded, x.attrs.reportDelay⟩) ∧
            NewRecordStands m t w (c.recordIn w s.area.position s.time.epoch)))

/-! ## The timebase and the events of an epoch -/

/-- R1, R145, R160: an epoch advances both counts and owes each event of the increase once, the decrement of the flush countdown among them and,
where the epoch count becomes a multiple of 16, the increase of the reminder step. These two are made before the next increase at the latest, the
step with the schedule of R146 (that they are owed is the model's choice, log entry 2). -/
def Obligations.EpochAdvancesBothCounts : Prop :=
  ∀ s : State, s.powered = true →
    ∃ t, exec .epoch s = .next t ∧ OnlyChanges [.time, .due, .report, .ack, .records, .outputs] s t ∧
      t.time = { s.time with epoch := s.time.epoch + 1, wall := s.time.wall + 1 } ∧
      t.report.queue = s.report.queue ∧
      t.report.countdown = (if s.due.flushCountdown then s.report.countdown.map fun d => d - 1 else s.report.countdown) ∧
      (s.due.reminderStep = true → ReminderStepTaken s t) ∧
      (s.due.reminderStep = false → t.ack = s.ack ∧ t.records = s.records) ∧
      t.due =
        { contextTimeout := s.due.contextTimeout + 1, expirySweep := s.due.expirySweep + 1,
          positionStale := s.due.positionStale + 1, heldLifetimeEnd := s.due.heldLifetimeEnd + 1,
          recordExpiry := s.due.recordExpiry + 1,
          flushCountdown := true,
          reminderStep := decide ((s.time.epoch.toNat + 1) % 16 = 0) }

/-- R63: the timeout sweep closes exactly the contexts without progress for the context timeout, and counts each. -/
def Obligations.ContextTimeoutClosesIdleContexts : Prop :=
  ∀ s : State, s.powered = true → 0 < s.due.contextTimeout → s.intake.completing = none →
    let idle (c : Context) : Bool := ageOf s.time.epoch c.progress ≥ s.settings.contextTimeout
    ∃ t, exec .contextTimeout s = .next t ∧ OnlyChanges [.intake, .due, .outputs] s t ∧
      t.due = { s.due with contextTimeout := s.due.contextTimeout - 1 } ∧
      t.intake =
        { s.intake with
          contexts := s.intake.contexts.map fun x => if x.any idle then none else x
          counters :=
            { s.intake.counters with
              timedOut := bumpBy (s.intake.contexts.countP fun x => x.any idle) s.intake.counters.timedOut } }

/-- R84, R88: the expiry sweep removes exactly the expired entries that no live record names, takes their keys off the pending write list,
and does nothing while time is unset or the scan runs. R177, R178: a retry due for a removed entry is not made, which ends its write, so the
sweep of unpersisted entries follows (that it follows at once is the model's reading, log entry 12). -/
def Obligations.ExpirySweepRemovesExpiredEntries : Prop :=
  ∀ s : State, s.powered = true → 0 < s.due.expirySweep → (s.index.entries.map fun e => e.fields.key).Nodup →
    let gone (e : Entry) : Bool := e.fields.expiry.toNat ≤ s.time.wall.toNat && !s.named e.fields.key
    (s.time.timeSet = true → s.scanning = false →
      ∃ t, exec .expirySweep s = .next t ∧ OnlyChanges [.index, .store, .due, .outputs] s t ∧
        t.due = { s.due with expirySweep := s.due.expirySweep - 1 } ∧
        t.index.entries = s.index.entries.filter (fun e => !gone e) ∧
        t.index.counters =
          { s.index.counters with entriesExpired := bumpBy (s.index.entries.countP gone) s.index.counters.entriesExpired } ∧
        (let left := s.store.writes.filter fun k => !s.index.entries.any fun e => gone e && e.fields.key == k
         ((∀ k, s.store.retry = some k → ∀ e ∈ s.index.entries, e.fields.key = k → gone e = false) →
          t.store.writes = left ∧ t.store.retry = s.store.retry) ∧
         (∀ e ∈ s.index.entries, gone e = true → s.store.retry = some e.fields.key →
          t.store.writes = sweptList s.store.ramOnly t.index.entries left ∧ t.store.retry = none))) ∧
    (s.time.timeSet = false ∨ s.scanning = true →
      ∃ t, exec .expirySweep s = .next t ∧ OnlyChanges [.due, .outputs] s t ∧
        t.due = { s.due with expirySweep := s.due.expirySweep - 1 })

/-- R94: the check at an epoch makes a FRESH position STALE when its age first exceeds the position maximum age, and leaves every other
position, and the held records, as they are. -/
def Obligations.PositionBecomesStale : Prop :=
  ∀ s : State, s.powered = true → 0 < s.due.positionStale →
    ∃ t, exec .positionStale s = .next t ∧ OnlyChanges [.area, .due, .outputs] s t ∧
      t.due = { s.due with positionStale := s.due.positionStale - 1 } ∧
      (s.area.position.state = .fresh → s.settings.positionMaxAge < ageOf s.time.epoch s.area.position.arrival →
        t.area =
          { position := { s.area.position with state := .stale }
            counters := { s.area.counters with positionsStale := bump s.area.counters.positionsStale } }) ∧
      (s.area.position.state ≠ .fresh ∨ ageOf s.time.epoch s.area.position.arrival ≤ s.settings.positionMaxAge →
        t.area = s.area)

/-- R110, R130: every held record whose lifetime has ended leaves the held list and completes OUT-OF-AREA; the others keep their order. R158, R159:
their summaries join the report queue, moving the flush countdown, and those that find it full are dropped and counted. -/
def Obligations.HeldRecordsEndWithTheirLifetime : Prop :=
  ∀ s : State, s.powered = true → 0 < s.due.heldLifetimeEnd → s.records.Ordered →
    let past (r : Record) : Bool := r.lifetimeEnd.toNat ≤ s.time.epoch.toNat
    ∃ t, exec .heldLifetimeEnd s = .next t ∧ OnlyChanges [.records, .report, .area, .due, .outputs] s t ∧
      t.due = { s.due with heldLifetimeEnd := s.due.heldLifetimeEnd - 1 } ∧
      t.records.held = s.records.held.filter (fun r => !past r) ∧
      t.records.active = s.records.active ∧ t.records.latched = s.records.latched ∧
      t.records.counters.outOfArea = bumpBy (s.records.held.countP past) s.records.counters.outOfArea ∧
      t.area.position = s.area.position ∧
      t.area.counters.heldLifetimeEnded = bumpBy (s.records.held.countP past) s.area.counters.heldLifetimeEnded ∧
      SummariesJoin s t ((s.records.held.filter past).map fun r => ⟨s.summaryOf r .outOfArea, r.attrs.reportDelay⟩)

/-- R131, R133: every active record whose lifetime has ended completes EXPIRED, in list order; a DELIVERING one has EXPIRED latched and
keeps its slot. R158, R159: their summaries join the report queue, moving the flush countdown, and those that find it full are dropped and
counted. -/
def Obligations.ActiveRecordsExpire : Prop :=
  ∀ s : State, s.powered = true → 0 < s.due.recordExpiry → s.records.Ordered →
    let past (r : Record) : Bool := r.lifetimeEnd.toNat ≤ s.time.epoch.toNat
    let ended := s.records.active.filter fun r => past r && r.state != .delivering
    ∃ t, exec .recordExpiry s = .next t ∧ OnlyChanges [.records, .report, .due, .outputs] s t ∧
      t.due = { s.due with recordExpiry := s.due.recordExpiry - 1 } ∧
      t.records.active = s.records.active.filter (fun r => !past r) ∧
      t.records.held = s.records.held ∧
      t.records.free = s.records.free ++ (ended.filterMap fun r => r.handle.map Handle.slot) ∧
      t.records.counters.expired = bumpBy ended.length s.records.counters.expired ∧
      t.records.latched =
        (match s.records.active.find? fun r => past r && r.state == .delivering with
         | some r => some { r with latched := some .expired, ackDeferred := false, reminder := none }
         | none => s.records.latched) ∧
      SummariesJoin s t (ended.map fun r => ⟨s.summaryOf r .expired, r.attrs.reportDelay⟩)

/-- R160, R161: the decrement of an increase takes 1 from a flush countdown above 0, whether summaries joined before it or not; where it brings
the countdown to 0 with summaries queued, the report frame is pending. -/
def Obligations.FlushCountdownMakesTheReportPending : Prop :=
  ∀ s : State, s.powered = true → s.due.flushCountdown = true →
    ∃ t, exec .flushCountdown s = .next t ∧ OnlyChanges [.report, .due, .outputs] s t ∧
      t.due = { s.due with flushCountdown := false } ∧
      t.report.queue = s.report.queue ∧
      t.report.countdown = s.report.countdown.map (fun d => d - 1) ∧
      (s.report.countdown = some 1 → s.report.queue ≠ [] →
        t.reportPending = true ∧ (s.settings.wakeEnables.report = true → t.wake = true))

/-- R145, R146, R147: the reminder step increases, and each DELIVERED active record that is due has its reminder set and stamped and its
reminders left decremented; every other record is as it was. -/
def Obligations.ReminderStepSetsDueReminders : Prop :=
  ∀ s : State, s.powered = true → s.due.reminderStep = true →
    ∃ t, exec .reminderStep s = .next t ∧ OnlyChanges [.ack, .records, .due, .outputs] s t ∧
      t.due = { s.due with reminderStep := false } ∧ ReminderStepTaken s t

/-! ## Management requests -/

/-- R192, R195: the common checks in their order, with the code and tag echoed. A request that fails one changes nothing but the two queues.
A missing code or tag is echoed as 0. (Which row of the table executes a payload of one byte with a known code, and an empty one, is the model's
reading, log entry 4.) -/
def Obligations.CommonChecksComeFirst : Prop :=
  ∀ (s : State) (p : List Byte) (rest : List (List Byte)), s.asked p rest →
    (p.length < 2 → requestOf p = none →
      ∃ t, exec .unknownRequest s = .next t ∧ OnlyChanges [.management, .outputs] s t ∧
        AnswersAtOnce s t rest [p.getD 0 0, p.getD 1 0, 2]) ∧
    (2 ≤ p.length → requestOf p = none →
      ∃ t, exec .unknownRequest s = .next t ∧ OnlyChanges [.management, .outputs] s t ∧
        AnswersAtOnce s t rest [p.getD 0 0, p.getD 1 0, 7]) ∧
    (∀ (rate : BitVec 2) (verify : SlotVerify) (worn : Nat) (r : Request) (c : Instr),
        (r, c) ∈ [(Request.getStatus, Instr.getStatus), (.getCounters, .getCounters), (.setTime, .setTime),
          (.setPosition, .setPosition), (.loadWindow, .loadWindow), (.muteWindow, .muteWindow), (.readWindow, .readWindow),
          (.provision, .provision), (.lockProvision, .lockProvision), (.acknowledge, .acknowledge),
          (.fetchRecord, .fetchRecord), (.flushAlerts, .flushAlerts), (.configure, .configure),
          (.clearHistory, .clearHistory), (.reset, .reset rate verify worn)] →
        requestOf p = some r →
      (p.length < 2 →
        ∃ t, exec c s = .next t ∧ OnlyChanges [.management, .outputs] s t ∧ AnswersAtOnce s t rest [r.code, 0, 2]) ∧
      (2 ≤ p.length → s.scanning = true → r ≠ .getStatus →
        ∃ t, exec c s = .next t ∧ OnlyChanges [.management, .outputs] s t ∧
          AnswersAtOnce s t rest [r.code, p.getD 1 0, 8]) ∧
      (2 ≤ p.length → s.scanning = false ∨ r = .getStatus → p.length ≠ r.arguments + 2 →
        ∃ t, exec c s = .next t ∧ OnlyChanges [.management, .outputs] s t ∧
          AnswersAtOnce s t rest [r.code, p.getD 1 0, 2]))

/-- R167, R183, R196: GET STATUS, executed during the scan as at any other time. -/
def Obligations.GetStatusReturnsTheStatusBlock : Prop :=
  ∀ (s : State) (tag : Byte) (rest : List (List Byte)), s.asked [0x01, tag] rest →
    ∃ t, exec .getStatus s = .next t ∧ OnlyChanges [.management, .outputs] s t ∧
      AnswersAtOnce s t rest
        [0x01, tag, 0, if s.scanning then 1 else 0,
         if s.store.ramOnly then 1
         else if s.store.erases ≠ [] ∨ s.store.erase ≠ none ∨ s.store.clear ≠ none then 2 else 0,
         byteOf (s.intake.contexts.countP Option.isSome), byteOf s.records.active.length, byteOf s.records.held.length,
         byteOf s.report.queue.length,
         if s.alertFlag then 1 else if s.reportPending then 2 else if s.management.replies ≠ [] then 3 else if s.backlog then 4 else 0,
         match s.area.position.state with
         | .none => 0
         | .fresh => 1
         | .stale => 2,
         if s.time.timeSet then 1 else 0]

/-- R197: GET COUNTERS returns a group's number, its count and its counters as they stood, each as 2 bytes in the order of its table: R20 for
LINK-M and LINK-P, R66 for INTAKE, R137 and then R113 for RECORDS, R90 and then R191 for HISTORY; with the clear flag every counter of that group
alone is set to 0 after it has been read. A group above 4 or another clear flag is BAD-ARGUMENT. -/
def Obligations.GetCountersReadsThenClears : Prop :=
  ∀ (s : State) (tag group flag : Byte) (rest : List (List Byte)), s.asked [0x02, tag, group, flag] rest → s.scanning = false →
    let link (c : LinkCounters) : List Half :=
      [c.accepted, c.headerErrors, c.checkErrors, c.gapErrors, c.overruns, c.misdirected, c.forwarded, c.sent]
    let intake (c : IntakeCounters) : List Half :=
      [c.taken, c.malformed, c.unlisted, c.rawForwarded, c.unlistedDropped, c.withdrawals, c.earlyDuplicates, c.duplicateFragments,
       c.totalMismatches, c.conflicts, c.digestMismatches, c.completions, c.failed, c.timedOut, c.evicted, c.contextShed, c.stale,
       c.unlistedAtCompletion]
    let records (c : RecordCounters) (d : AreaCounters) : List Half :=
      [c.created, c.firstDeliveries, c.redeliveries, c.remindersSent, c.acknowledged, c.expired, c.superseded, c.withdrawn, c.outOfArea,
       c.muted, c.displaced, c.flushed, c.receiptsDropped, c.reportOverflow,
       d.positionUpdates, d.positionsStale, d.areaIgnored, d.recordsHeld, d.recordsReleased, d.heldOverflow, d.heldLifetimeEnded]
    let history (c : HistoryCounters) : List Half :=
      [c.noticesNew, c.noticesNewer, c.noticesReissued, c.withdrawalsOrphan, c.withdrawalsApplied, c.withdrawalsRaised, c.withdrawalsStale,
       c.withdrawalsDuplicate, c.entriesExpired, c.indexEvictions, c.writesCommitted, c.programFailures, c.writeDeferrals,
       c.erasesCompleted, c.eraseFailures, c.eraseSuspensions, c.provisioningPrograms, c.provisioningFailures, c.scanVoidSlots]
    let counters : List Half :=
      match group.toNat with
      | 0 => link s.link.m.counters
      | 1 => link s.link.p.counters
      | 2 => intake s.intake.counters
      | 3 => records s.records.counters s.area.counters
      | _ => history s.index.counters
    (4 < group.toNat ∨ 1 < flag.toNat →
      ∃ t, exec .getCounters s = .next t ∧ OnlyChanges [.management, .outputs] s t ∧ AnswersAtOnce s t rest [0x02, tag, 2]) ∧
    (group.toNat ≤ 4 → flag.toNat ≤ 1 →
      ∃ t, exec .getCounters s = .next t ∧
        OnlyChanges [.port .m, .port .p, .intake, .records, .area, .index, .management, .outputs] s t ∧
        AnswersAtOnce s t rest ([0x02, tag, 0, group, BitVec.ofNat 8 counters.length] ++ counters.flatMap fun c => bigEndian 2 c.toNat) ∧
        t.link.m.inner =
          { s.link.m.inner with counters := if flag = 1 ∧ group = 0 then ⟨0, 0, 0, 0, 0, 0, 0, 0⟩ else s.link.m.counters } ∧
        t.link.p.inner =
          { s.link.p.inner with counters := if flag = 1 ∧ group = 1 then ⟨0, 0, 0, 0, 0, 0, 0, 0⟩ else s.link.p.counters } ∧
        t.intake =
          { s.intake with
            counters :=
              if flag = 1 ∧ group = 2 then ⟨0, 0, 0, 0, 0, 0, 0, 0, 0, 0, 0, 0, 0, 0, 0, 0, 0, 0⟩ else s.intake.counters } ∧
        t.records =
          { s.records with
            counters := if flag = 1 ∧ group = 3 then ⟨0, 0, 0, 0, 0, 0, 0, 0, 0, 0, 0, 0, 0, 0⟩ else s.records.counters } ∧
        t.area = { s.area with counters := if flag = 1 ∧ group = 3 then ⟨0, 0, 0, 0, 0, 0, 0⟩ else s.area.counters } ∧
        t.index =
          { s.index with
            counters :=
              if flag = 1 ∧ group = 4 then ⟨0, 0, 0, 0, 0, 0, 0, 0, 0, 0, 0, 0, 0, 0, 0, 0, 0, 0, 0⟩ else s.index.counters })

/-- R83, R198: SET TIME sets wall time and the time-set flag and restamps every entry whose time-unset flag is set, whose keys are offered to the
pending write list in index order (R176). -/
def Obligations.SetTimeRestampsEntries : Prop :=
  ∀ (s : State) (tag b3 b2 b1 b0 : Byte) (rest : List (List Byte)), s.asked [0x03, tag, b3, b2, b1, b0] rest →
    s.scanning = false → (s.index.entries.map fun e => e.fields.key).Nodup →
    let wall : Word := b3 ++ b2 ++ b1 ++ b0
    ∃ t, exec .setTime s = .next t ∧ OnlyChanges [.time, .index, .store, .management, .outputs] s t ∧
      AnswersAtOnce s t rest [0x03, tag, 0] ∧
      t.time = { s.time with wall := wall, timeSet := true } ∧
      t.index.entries = s.index.entries.map (fun e =>
        if e.fields.timeUnset then
          { e with
            persisted := false
            fields := { e.fields with time := wall, timeUnset := false, expiry := expiryOf wall e.fields.horizon } }
        else e) ∧
      EntriesPut s t (fun _ => false) s.store.writes
        ((s.index.entries.filter fun e => e.fields.timeUnset).map fun e => e.fields.key)

/-- R93, R106, R109: SET POSITION out of range is BAD-ARGUMENT and changes nothing; otherwise the position record takes the position, and
every held record is judged again: those that R104 still holds keep their places with their new verdicts, the others leave the list and are
counted as released. R96 to R103: the verdict of an area from a position; R104: which verdicts present. -/
def Obligations.SetPositionJudgesHeldRecords : Prop :=
  (∀ (p : Position) (area : List Vertex) (south north west east : Int),
    (∀ v ∈ area, south ≤ v.lat ∧ v.lat ≤ north ∧ west ≤ v.lon ∧ v.lon ≤ east) →
    (∃ v ∈ area, v.lat = south) → (∃ v ∈ area, v.lat = north) → (∃ v ∈ area, v.lon = west) → (∃ v ∈ area, v.lon = east) →
    let crossings (y x : Int) : Nat := (List.range area.length).countP fun i =>
      let a := area.getD i ⟨0, 0⟩
      let b := area.getD (if i + 1 = area.length then 0 else i + 1) ⟨0, 0⟩
      let d := b.lat - a.lat
      let num := (x - a.lon) * d - (y - a.lat) * (b.lon - a.lon)
      decide (¬ (a.lat > y ↔ b.lat > y) ∧ ((d > 0 ∧ num < 0) ∨ (d < 0 ∧ num > 0)))
    let inside (y x : Int) : Prop := crossings y x % 2 = 1
    let band : Nat := min (p.lat.natAbs / 10000000) 8
    let factor : Nat := ([17, 18, 19, 21, 25, 32, 47, 93, 255] : List Nat).getD band 0
    let mlat : Nat := p.uncertainty * 9
    let mlon : Nat := (mlat * factor + 15) / 16
    let lower : Int := max (p.lat - mlat) (-90000000)
    let upper : Int := min (p.lat + mlat) 90000000
    let left : Int := p.lon - mlon
    let right : Int := p.lon + mlon
    let meets : Prop := lower ≤ north ∧ south ≤ upper ∧ left ≤ east ∧ west ≤ right
    let v := p.verdict (some area)
    p.verdict none = .noArea ∧
    (180000000 < east - west → v = .noArea) ∧
    (east - west ≤ 180000000 →
      (p.state ≠ .fresh → v = .unknown) ∧
      (p.state = .fresh →
        (¬ meets → v = .outside) ∧
        (meets → inside p.lat p.lon → v = .inside) ∧
        (meets → ¬ inside p.lat p.lon → mlat = 0 → v = .outside) ∧
        (meets → ¬ inside p.lat p.lon → mlat ≠ 0 →
          (inside upper right ∨ inside upper left ∨ inside lower left ∨ inside lower right ∨
            (lower ≤ south ∧ north ≤ upper ∧ left ≤ west ∧ east ≤ right) → v = .edge) ∧
          (¬ inside upper right → ¬ inside upper left → ¬ inside lower left → ¬ inside lower right →
            ¬ (lower ≤ south ∧ north ≤ upper ∧ left ≤ west ∧ east ≤ right) → v = .outside))))) ∧
  (∀ (v : Verdict) (a : Attributes), v.presents a = true ↔
    v = .noArea ∨ v = .inside ∨ (v = .edge ∧ a.edgePolicy = .present) ∨ (v = .unknown ∧ a.unknownPolicy = .present)) ∧
  ∀ (s : State) (tag : Byte) (args : List Byte) (rest : List (List Byte)), s.asked (0x04 :: tag :: args) rest →
    args.length = 10 → s.scanning = false → s.records.Ordered →
    let lat := (wordAt args 0).toInt
    let lon := (wordAt args 4).toInt
    let u := (halfAt args 8).toNat
    let inRange := -90000000 ≤ lat ∧ lat ≤ 90000000 ∧ -180000000 ≤ lon ∧ lon ≤ 180000000
    let position : Position :=
      { state := if u = 65535 then .none else .fresh, lat := lat, lon := lon, uncertainty := u, arrival := s.time.epoch }
    let released (r : Record) : Bool := (position.verdict r.area).presents r.attrs
    (¬ inRange →
      ∃ t, exec .setPosition s = .next t ∧ OnlyChanges [.management, .outputs] s t ∧ AnswersAtOnce s t rest [0x04, tag, 2]) ∧
    (inRange →
      ∃ t, exec .setPosition s = .next t ∧ OnlyChanges [.area, .records, .report, .management, .outputs] s t ∧
        AnswersAtOnce s t rest [0x04, tag, 0] ∧
        t.area.position = position ∧
        t.area.counters.positionUpdates = bump s.area.counters.positionUpdates ∧
        t.area.counters.recordsReleased = bumpBy (s.records.held.countP released) s.area.counters.recordsReleased ∧
        t.records.held =
          (s.records.held.filter fun r => !released r).map (fun r => { r with verdict := some (position.verdict r.area) }) ∧
        t.records.latched = s.records.latched ∧
        (s.records.active.length + s.records.held.countP released ≤ (if s.records.latched.isSome then 15 else 16) →
          t.report = s.report ∧
          (∀ x ∈ s.records.active, x ∈ t.records.active) ∧
          ∀ x ∈ s.records.held, released x = true →
            ∃ y ∈ t.records.active, y.handle = x.handle ∧ y.key = x.key ∧ y.state = .waiting ∧
              y.verdict = some (position.verdict x.area)))

/-- R29, R32: LOAD WINDOW in its order of checks: the index, the block, NATIONAL with muted, and the window taken whole. -/
def Obligations.LoadWindowTakesTheBlock : Prop :=
  ∀ (s : State) (tag index : Byte) (block : List Byte) (rest : List (List Byte)),
    s.asked (0x10 :: tag :: index :: block) rest → block.length = 15 → s.scanning = false →
    (15 < index.toNat ∨ readBlock block = none →
      ∃ t, exec .loadWindow s = .next t ∧ OnlyChanges [.management, .outputs] s t ∧ AnswersAtOnce s t rest [0x10, tag, 2]) ∧
    (∀ w, index.toNat ≤ 15 → readBlock block = some w → w.attrs.cls = .national → w.attrs.muted = true →
      ∃ t, exec .loadWindow s = .next t ∧ OnlyChanges [.management, .outputs] s t ∧ AnswersAtOnce s t rest [0x10, tag, 3]) ∧
    (∀ w, index.toNat ≤ 15 → readBlock block = some w → w.attrs.cls ≠ .national ∨ w.attrs.muted = false →
      ∃ t, exec .loadWindow s = .next t ∧ OnlyChanges [.windows, .management, .outputs] s t ∧
        AnswersAtOnce s t rest [0x10, tag, 0] ∧
        t.windows = { s.windows with ordinary := s.windows.ordinary.set index.toNat w })

/-- R29: which window blocks are refused, and how the fields of an accepted one are stored. -/
def Obligations.WindowBlocksAreCheckedAndClamped : Prop :=
  ∀ b : List Byte, b.length = 15 →
    let n (i : Nat) : Nat := (b.getD i 0).toNat
    (readBlock b = none ↔ 1 < n 0 ∨ 5 < n 5 ∨ 1 < n 6 ∨ 1 < n 10 ∨ 1 < n 11 ∨ 3 < n 12) ∧
    ∀ w, readBlock b = some w →
      (w.valid = true ↔ n 0 = 1) ∧ w.base.toNat = n 1 * 256 + n 2 ∧ w.mask.toNat = n 3 * 256 + n 4 ∧
      w.attrs.cls.rank = n 5 ∧ (w.attrs.muted = true ↔ n 6 = 1) ∧ w.attrs.reportDelay = min (n 7) 7 ∧
      w.attrs.periodCode = min (n 8) 6 ∧ w.attrs.reminderCount = min (n 9) 7 ∧ (w.attrs.edgePolicy = .hold ↔ n 10 = 1) ∧
      (w.attrs.unknownPolicy = .hold ↔ n 11 = 1) ∧ w.attrs.receiptMode.code.toNat = n 12 ∧
      w.attrs.defaultLifetime = max (n 13) 1 ∧ w.horizon = min (max (n 14) 1) 72 ∧
      readBlock w.block = some w

/-- R33: MUTE WINDOW in its order of checks. -/
def Obligations.MuteWindowChangesOneAttribute : Prop :=
  ∀ (s : State) (tag index onOff : Byte) (rest : List (List Byte)), s.asked [0x11, tag, index, onOff] rest →
    s.scanning = false →
    (19 < index.toNat ∨ 1 < onOff.toNat →
      ∃ t, exec .muteWindow s = .next t ∧ OnlyChanges [.management, .outputs] s t ∧ AnswersAtOnce s t rest [0x11, tag, 2]) ∧
    (16 ≤ index.toNat → index.toNat ≤ 19 → onOff.toNat ≤ 1 →
      ∃ t, exec .muteWindow s = .next t ∧ OnlyChanges [.management, .outputs] s t ∧ AnswersAtOnce s t rest [0x11, tag, 3]) ∧
    (∀ w, index.toNat ≤ 15 → onOff.toNat ≤ 1 → s.windows.ordinary[index.toNat]? = some w →
      (w.attrs.cls = .national →
        ∃ t, exec .muteWindow s = .next t ∧ OnlyChanges [.management, .outputs] s t ∧ AnswersAtOnce s t rest [0x11, tag, 3]) ∧
      (w.attrs.cls ≠ .national →
        ∃ t, exec .muteWindow s = .next t ∧ OnlyChanges [.windows, .management, .outputs] s t ∧
          AnswersAtOnce s t rest [0x11, tag, 0] ∧
          t.windows =
            { s.windows with
              ordinary := s.windows.ordinary.set index.toNat { w with attrs := { w.attrs with muted := onOff == 1 } } }))

/-- R34: READ WINDOW returns the window as it is stored; indexes 16 to 19 name V0 to V3. -/
def Obligations.ReadWindowReturnsTheBlock : Prop :=
  ∀ (s : State) (tag index : Byte) (rest : List (List Byte)), s.asked [0x12, tag, index] rest → s.scanning = false →
    (19 < index.toNat →
      ∃ t, exec .readWindow s = .next t ∧ OnlyChanges [.management, .outputs] s t ∧ AnswersAtOnce s t rest [0x12, tag, 2]) ∧
    (∀ w, index.toNat ≤ 15 → s.windows.ordinary[index.toNat]? = some w →
      ∃ t, exec .readWindow s = .next t ∧ OnlyChanges [.management, .outputs] s t ∧
        AnswersAtOnce s t rest ([0x12, tag, 0] ++ w.block)) ∧
    (∀ w, 16 ≤ index.toNat → s.windows.ordinary.length = 16 → s.windows.override[index.toNat - 16]? = some w →
      index.toNat ≤ 19 →
      ∃ t, exec .readWindow s = .next t ∧ OnlyChanges [.management, .outputs] s t ∧
        AnswersAtOnce s t rest ([0x12, tag, 0] ++ w.block))

/-- R39, R184, R185, R186, R200: PROVISION and LOCK PROVISION in their orders of checks; a request that passes them has its program
requested and its reply deferred. -/
def Obligations.ProvisioningIsRequestedOrRefused : Prop :=
  (∀ (s : State) (tag slot : Byte) (block : List Byte) (rest : List (List Byte)),
    s.asked (0x18 :: tag :: slot :: block) rest → block.length = 15 → s.scanning = false →
    let refused (result : Byte) : Prop :=
      ∃ t, exec .provision s = .next t ∧ OnlyChanges [.management, .outputs] s t ∧ AnswersAtOnce s t rest [0x18, tag, result]
    let target := s.array.provisioning.getD slot.toNat ⟨[], .clear⟩
    (readBlock block = none ∨ 3 < slot.toNat → refused 2) ∧
    (∀ w, readBlock block = some w → slot.toNat ≤ 3 →
      (s.store.job ≠ none ∨ s.store.clear ≠ none → refused 1) ∧
      (s.store.job = none → s.store.clear = none → target.lock = .set → refused 3) ∧
      (s.store.job = none → s.store.clear = none → target.lock ≠ .set → target.nextCopy = none → refused 4) ∧
      (∀ n, s.store.job = none → s.store.clear = none → target.lock ≠ .set → target.nextCopy = some n →
        ∃ t, exec .provision s = .next t ∧ OnlyChanges [.store, .management, .outputs] s t ∧
          t.management = { s.management with requests := rest, reserved := true } ∧
          t.store.inner =
            { s.store.inner with job := some { tag := tag, slot := slot.toNat, target := .copy n w } }))) ∧
  (∀ (s : State) (tag slot : Byte) (rest : List (List Byte)), s.asked [0x19, tag, slot] rest → s.scanning = false →
    let answered (result : Byte) : Prop :=
      ∃ t, exec .lockProvision s = .next t ∧ OnlyChanges [.management, .outputs] s t ∧ AnswersAtOnce s t rest [0x19, tag, result]
    let target := s.array.provisioning.getD slot.toNat ⟨[], .clear⟩
    (3 < slot.toNat → answered 2) ∧
    (slot.toNat ≤ 3 → s.store.job ≠ none ∨ s.store.clear ≠ none → answered 1) ∧
    (slot.toNat ≤ 3 → s.store.job = none → s.store.clear = none → target.lock = .set → answered 0) ∧
    (slot.toNat ≤ 3 → s.store.job = none → s.store.clear = none → target.lock ≠ .set →
      ∃ t, exec .lockProvision s = .next t ∧ OnlyChanges [.store, .management, .outputs] s t ∧
        t.management = { s.management with requests := rest, reserved := true } ∧
        t.store.inner = { s.store.inner with job := some { tag := tag, slot := slot.toNat, target := .lock false } }))

/-- R139, R140, R141, R142, R151: ACKNOWLEDGE by the state of the record its handle names. R158, R159: its summary joins the report queue and moves
the flush countdown, or is dropped by a full queue and counted; R154: so is its receipt. -/
def Obligations.AcknowledgeEndsOrLatches : Prop :=
  ∀ (s : State) (tag h1 h0 : Byte) (rest : List (List Byte)), s.asked [0x20, tag, h1, h0] rest → s.scanning = false →
    s.records.Ordered →
    let named (r : Record) : Prop := r.handle = some ⟨h1, h0.toNat⟩
    ((∀ r ∈ s.records.live, ¬ named r) →
      ∃ t, exec .acknowledge s = .next t ∧ OnlyChanges [.management, .outputs] s t ∧ AnswersAtOnce s t rest [0x20, tag, 5]) ∧
    (∀ r ∈ s.records.live, named r →
      (r.state = .held ∨ r.state = .waiting →
        ∃ t, exec .acknowledge s = .next t ∧ OnlyChanges [.management, .outputs] s t ∧ AnswersAtOnce s t rest [0x20, tag, 6]) ∧
      (r.state = .delivered →
        ∃ t, exec .acknowledge s = .next t ∧ OnlyChanges [.records, .report, .ack, .management, .outputs] s t ∧
          AnswersAtOnce s t rest [0x20, tag, 0] ∧
          t.records.active = s.records.active.filter (fun x => x.handle != r.handle) ∧
          t.records.held = s.records.held ∧ t.records.latched = s.records.latched ∧
          t.records.delivery = s.records.delivery ∧
          t.records.free = s.records.free ++ [h0.toNat] ∧
          t.records.generations = s.records.generations.modify h0.toNat (· + 1) ∧
          t.records.counters.acknowledged = bump s.records.counters.acknowledged ∧
          SummariesJoin s t [⟨s.summaryOf r .acknowledged, r.attrs.reportDelay⟩] ∧
          t.ack.step = s.ack.step ∧
          t.ack.receipts =
            (if (r.attrs.receiptMode = .acked ∨ r.attrs.receiptMode = .both) ∧ s.ack.receipts.length < 16 then
              s.ack.receipts ++ [s.receiptOf r .acknowledged]
             else s.ack.receipts) ∧
          t.records.counters.receiptsDropped =
            (if (r.attrs.receiptMode = .acked ∨ r.attrs.receiptMode = .both) ∧ 16 ≤ s.ack.receipts.length then
              bump s.records.counters.receiptsDropped
             else s.records.counters.receiptsDropped)) ∧
      (r.state = .delivering → r.latched = none →
        ∃ t, exec .acknowledge s = .next t ∧ OnlyChanges [.records, .management, .outputs] s t ∧
          AnswersAtOnce s t rest [0x20, tag, 0] ∧
          t.records =
            { s.records with
              active := s.records.active.filter fun x => x.handle != r.handle
              latched := some { r with latched := some .acknowledged, ackDeferred := true, reminder := none } }) ∧
      (r.state = .delivering → r.latched ≠ none →
        ∃ t, exec .acknowledge s = .next t ∧ OnlyChanges [.management, .outputs] s t ∧ AnswersAtOnce s t rest [0x20, tag, 0]))

/-- R128: FETCH RECORD by the state of the record its handle names; a first part of 0 or above the part count is stored as 1. -/
def Obligations.FetchRecordAsksForRedelivery : Prop :=
  ∀ (s : State) (tag h1 h0 part : Byte) (rest : List (List Byte)), s.asked [0x21, tag, h1, h0, part] rest → s.scanning = false →
    s.records.Ordered →
    let named (r : Record) : Prop := r.handle = some ⟨h1, h0.toNat⟩
    let answered (result : Byte) : Prop :=
      ∃ t, exec .fetchRecord s = .next t ∧ OnlyChanges [.management, .outputs] s t ∧ AnswersAtOnce s t rest [0x21, tag, result]
    ((∀ r ∈ s.records.live, ¬ named r) → answered 5) ∧
    (∀ r ∈ s.records.live, named r →
      (r.state = .held ∨ r.state = .waiting → answered 6) ∧
      (r.state = .delivering → answered 0) ∧
      (r.state = .delivered →
        ∃ t, exec .fetchRecord s = .next t ∧ OnlyChanges [.records, .management, .outputs] s t ∧
          AnswersAtOnce s t rest [0x21, tag, 0] ∧
          t.records =
            { s.records with
              active := s.records.active.map fun x =>
                if x.handle = r.handle then
                  { x with
                    redeliver := some (if part = 0 ∨ partCount r.text.length < part.toNat then 1 else part.toNat) }
                else x }))

/-- R131, R135: FLUSH ALERTS completes every active record and then every held one FLUSHED, in list order, each summary with delay 0; a
DELIVERING record has FLUSHED latched. -/
def Obligations.FlushAlertsEmptiesBothLists : Prop :=
  ∀ (s : State) (tag : Byte) (rest : List (List Byte)), s.asked [0x22, tag] rest → s.scanning = false → s.records.Ordered →
    let ended := (s.records.active ++ s.records.held).filter fun r => r.state != .delivering
    ∃ t, exec .flushAlerts s = .next t ∧ OnlyChanges [.records, .report, .management, .outputs] s t ∧
      AnswersAtOnce s t rest [0x22, tag, 0] ∧
      t.records.active = [] ∧ t.records.held = [] ∧
      t.records.latched =
        (match s.records.active.find? fun r => r.state == .delivering with
         | some r => some { r with latched := some .flushed, ackDeferred := false, reminder := none }
         | none => s.records.latched) ∧
      t.records.counters.flushed = bumpBy ended.length s.records.counters.flushed ∧
      SummariesJoin s t (ended.map fun r => ⟨s.summaryOf r .flushed, 0⟩) ∧
      (ended ≠ [] → s.report.queue.length < 32 → t.report.countdown = some 0 ∧ t.reportPending = true)

/-- R10, R14, R28, R62, R95, R165, R201: CONFIGURE refuses a block with a refused byte and changes nothing; otherwise it clamps and sets
every item in one event. -/
def Obligations.ConfigureSetsEveryItem : Prop :=
  ∀ (s : State) (tag mh ml ph pl bk ct a1 a0 un we : Byte) (rest : List (List Byte)),
    s.asked [0x30, tag, mh, ml, ph, pl, bk, ct, a1, a0, un, we] rest → s.scanning = false →
    (1 < un.toNat ∨ 15 < we.toNat →
      ∃ t, exec .configure s = .next t ∧ OnlyChanges [.management, .outputs] s t ∧ AnswersAtOnce s t rest [0x30, tag, 2]) ∧
    (un.toNat ≤ 1 → we.toNat ≤ 15 →
      let high (v : Byte) : Nat := min (max (v.toNat * 256) 256) 2048
      let low (h v : Byte) : Nat := if v.toNat * 256 < high h then v.toNat * 256 else high h - 256
      ∃ t, exec .configure s = .next t ∧ OnlyChanges [.settings, .management, .outputs] s t ∧
        AnswersAtOnce s t rest [0x30, tag, 0] ∧
        t.settings =
          { marksM := ⟨high mh, low mh ml⟩, marksP := ⟨high ph, low ph pl⟩
            backlogMark := min (max (bk.toNat * 256) 256) 4096
            contextTimeout := max ct.toNat 5
            positionMaxAge := min (max (a1.toNat * 256 + a0.toNat) 1) 3600
            unlistedAction := if un = 1 then .forward else .discard
            wakeEnables :=
              { alert := we.toNat.testBit 0, report := we.toNat.testBit 1, reply := we.toNat.testBit 2,
                backlog := we.toNat.testBit 3 } })

/-- R89, R187, R200: CLEAR HISTORY is BUSY while a provisioning program or another clear is in progress; otherwise the index is refilled
with the standing records, each entry with the horizon of the one that stood for its key and the time fields of R75, their keys are offered to
the emptied pending write list (R176), every usable history
sector not yet queued is queued for erase, and the reply is deferred; with no usable sector, and none being erased, it is DONE at once. -/
def Obligations.ClearHistoryBegins : Prop :=
  ∀ (s : State) (tag : Byte) (rest : List (List Byte)), s.asked [0x31, tag] rest → s.scanning = false →
    (s.store.job ≠ none ∨ s.store.clear ≠ none →
      ∃ t, exec .clearHistory s = .next t ∧ OnlyChanges [.management, .outputs] s t ∧ AnswersAtOnce s t rest [0x31, tag, 1]) ∧
    (s.store.job = none → s.store.clear = none → s.usableSectors = [] → s.store.erases = [] → s.store.erase = none →
        (∀ x ∈ s.store.outstanding, x.amend ≠ .retiring) →
      ∃ t, exec .clearHistory s = .next t ∧ OnlyChanges [.index, .store, .management, .outputs] s t ∧
        t.management = { requests := rest, replies := s.management.replies ++ [[0x31, tag, 0]], reserved := false } ∧
        t.store.clear = none ∧ t.store.ramOnly = true ∧ t.store.writes = []) ∧
    (s.store.job = none → s.store.clear = none → s.usableSectors ≠ [] →
        ((s.records.active ++ s.records.held).map Record.key).Nodup →
      ∃ t, exec .clearHistory s = .next t ∧ OnlyChanges [.index, .store, .management, .outputs] s t ∧
        t.management = { s.management with requests := rest, reserved := true } ∧
        t.index.entries.map (fun e => (e.fields.key, e.fields.revision, e.fields.state, e.fields.time, e.persisted)) =
          (s.records.active ++ s.records.held).map (fun r => (r.key, r.revision, .noticeSeen, s.time.wall, false)) ∧
        EntriesPut s t (fun _ => true) [] ((s.records.active ++ s.records.held).map Record.key) ∧
        (∀ e ∈ t.index.entries, ∀ old, s.index.find e.fields.key = some old →
          e.location = none ∧ e.fields.horizon = old.fields.horizon ∧ e.fields.timeUnset = !s.time.timeSet ∧
          e.fields.expiry.toNat = min (s.time.wall.toNat + old.fields.horizon * 3600) 4294967295) ∧
        (∃ opening, t.store.clear = some { tag := tag, opening := opening }) ∧
        (∀ k ∈ s.usableSectors, k ∈ t.store.erases ∨ ∃ e, t.store.erase = some e ∧ e.sector = k) ∧
        (∀ k ∈ s.usableSectors, (s.sector k).state = .opened ∨ (s.sector k).state = .full →
          t.store.hasAmend k .retiring = true) ∧
        t.writeWaiting = false)

/-! ## The array controller -/

/-- R173, R177, R178, R187: what the free controller starts. With no provisioning program waiting, the oldest header amend, after which, from
the first RETIRING amend of a clear, no sector is current; with no amend waiting either, a history write: a due retry, else the oldest key of
the pending write list; its key leaves the list either way, the entry's fields are read as they stand and the slot program begins on the next
slot of the current sector. -/
def Obligations.AmendsAndWritesStart : Prop :=
  (∀ (s : State) (r : AmendRequest) (rest : List AmendRequest), s.powered = true → s.store.running = none →
    (∀ x, s.store.erase = some x → x.condition = .suspended) → s.store.job = none → s.store.amends = r :: rest →
    ∃ t, exec .headerAmend s = .next t ∧ OnlyChanges [.store, .outputs] s t ∧
      t.store =
        { s.store with
          amends := rest
          running := some (.headerAmend r)
          current := if r.amend = .retiring ∧ s.store.clear ≠ none then none else s.store.current }) ∧
  ∀ (s : State) (n slot : Nat) (k : Key) (e : Entry), s.powered = true → s.store.running = none →
    (∀ x, s.store.erase = some x → x.condition = .suspended) → s.store.job = none → s.store.amends = [] →
    s.store.ramOnly = false → s.store.clear = none → s.store.current = some n → (s.sector n).state = .opened →
    (s.sector n).nextSlot = some slot → s.index.find k = some e →
    (∀ rest, s.store.retry = none → s.store.writes = k :: rest →
      ∃ t, exec .historyWrite s = .next t ∧ OnlyChanges [.store, .outputs] s t ∧
        t.store =
          { s.store with
            writes := rest
            running :=
              some (.slotProgram
                { sector := n, slot := slot, fields := e.fields, retry := false, touched := false, removed := false }) }) ∧
    (s.store.retry = some k →
      ∃ t, exec .historyWrite s = .next t ∧ OnlyChanges [.store, .outputs] s t ∧
        t.store =
          { s.store with
            writes := s.store.writes.erase k
            retry := none
            running :=
              some (.slotProgram
                { sector := n, slot := slot, fields := e.fields, retry := true, touched := false, removed := false }) })

/-- R177, R178: the end of a slot program. Verified, the slot is committed, and the entry becomes persisted with its location if it was not changed
meanwhile; failed, the slot is void, the failures are counted, a first attempt whose entry has not been removed has its retry due, and at the second
failure of the sector its FULL amend is requested, as it is when the last slot has been used (R179). That no FULL amend is requested while a CLEAR
HISTORY is in progress is the model's reading (log entry 13). Once the write has ended, the sweep follows (R177; that none follows a first attempt
whose retry is due is the model's reading, log entry 12). Where the sector then holds 56 used slots or is FULL and no spare stands ready a reclaim
starts (R180; that it comes after the sweep is the model's choice, log entry 33), and where none starts the entries and the list stay as the write
and the sweep left them. -/
def Obligations.SlotProgramEnds : Prop :=
  ∀ (s : State) (w : SlotProgram), s.powered = true → s.store.running = some (.slotProgram w) →
    s.store.current = some w.sector → w.sector < s.array.sectors.length → w.slot < (s.sector w.sector).slots.length →
    w.sector < s.store.failures.length →
    let follows (t : State) (entries : List Entry) (writes : List Key) (closes : Bool) : Prop :=
      let full : Bool :=
        closes && (t.sector w.sector).state == .opened && s.store.clear.isNone && !s.store.hasAmend w.sector .full
      t.store.current = s.store.current ∧ t.store.clear = s.store.clear ∧ t.store.ramOnly = s.store.ramOnly ∧
      ReclaimFollows s t entries writes (s.store.amends ++ (if full then [⟨w.sector, .full, false⟩] else [])) s.store.erases
        s.store.reclaims
    (∃ t, exec (.slotProgramEnd .passed) s = .next t ∧ OnlyChanges [.index, .array, .store, .outputs] s t ∧
      t.store.running = none ∧
      t.sector w.sector =
        { s.sector w.sector with slots := (s.sector w.sector).slots.set w.slot (.committed w.fields) } ∧
      (∀ k, k ≠ w.sector → t.sector k = s.sector k) ∧ t.array.provisioning = s.array.provisioning ∧
      t.index.counters.writesCommitted = bump s.index.counters.writesCommitted ∧
      t.index.entries.map Entry.fields = s.index.entries.map Entry.fields ∧
      (w.touched = false → ∀ e ∈ t.index.entries, e.fields.key = w.fields.key →
        e.persisted = true ∧ e.location = some (w.sector, w.slot)) ∧
      (w.slot + 1 = (s.sector w.sector).slots.length → s.store.clear = none → (s.sector w.sector).state = .opened →
        t.store.hasAmend w.sector .full = true) ∧
      (let entries := s.index.entries.map fun e =>
         if w.touched = false ∧ e.fields.key = w.fields.key then
           { e with persisted := true, location := some (w.sector, w.slot) }
         else e
       follows t entries (sweptList s.store.ramOnly entries s.store.writes) (t.sector w.sector).nextSlot.isNone)) ∧
    ∀ verify, verify ≠ .passed →
      ∃ t, exec (.slotProgramEnd verify) s = .next t ∧ OnlyChanges [.index, .array, .store, .outputs] s t ∧
        t.store.running = none ∧
        t.sector w.sector =
          { s.sector w.sector with
            slots := (s.sector w.sector).slots.set w.slot (if verify = .markFailed then .markFailed w.fields else .void) } ∧
        (∀ k, k ≠ w.sector → t.sector k = s.sector k) ∧ t.array.provisioning = s.array.provisioning ∧
        t.index.counters.programFailures = bump s.index.counters.programFailures ∧
        t.index.entries.map Entry.fields = s.index.entries.map Entry.fields ∧
        t.store.failures = s.store.failures.modify w.sector (· + 1) ∧
        (let closes : Bool := (t.sector w.sector).nextSlot.isNone || 1 ≤ s.store.failures.getD w.sector 0
         (w.retry = false → s.store.ramOnly = false → w.removed = false → t.store.retry = some w.fields.key ∧
           follows t s.index.entries s.store.writes closes) ∧
         (w.retry = true ∨ s.store.ramOnly = true ∨ w.removed = true → t.store.retry = s.store.retry ∧
           follows t s.index.entries (sweptList s.store.ramOnly s.index.entries s.store.writes) closes)) ∧
        (w.slot + 1 = (s.sector w.sector).slots.length → s.store.clear = none → (s.sector w.sector).state = .opened →
          t.store.hasAmend w.sector .full = true) ∧
        (1 ≤ s.store.failures.getD w.sector 0 → s.store.clear = none → (s.sector w.sector).state = .opened →
          t.store.hasAmend w.sector .full = true)

/-- R171, R179, R181, R187: the end of a header amend. A verified opening makes its sector current with failure count 0, ending a clear
that is at its opening (that it does so in RAM-ONLY too is the model's choice, log entry 30; that a clear begun beside it retires the
sector is its reading, log entry 13). A verified FULL mark shows in the header; where the current sector is FULL, or no sector is current,
the opening of the lowest-numbered spare with the next sequence (log entry 18 where none has been current) is requested, but not in a
clear (the model's reading, log entry 13), and the conditions of R180 are examined. A verified RETIRING mark shows, and a clear goes on by
it; a verified WORN mark shows and changes nothing else. A first failure has the amend made once more (ahead of the others: the model's
choice, log entry 31); a second takes the sector as WORN: it is no longer usable or current, nothing waits for it (log entry 15), and a
successor is looked for (log entry 16), or a clear goes on without it (log entry 14). -/
def Obligations.HeaderAmendEnds : Prop :=
  ∀ (s : State) (r : AmendRequest), s.powered = true → s.store.running = some (.headerAmend r) →
    r.sector < s.array.sectors.length →
    let marked (t : State) (f : Sector → Sector) : Prop :=
      t.array = { s.array with sectors := s.array.sectors.modify r.sector f }
    let idle : Store := { s.store.inner with running := none }
    (∀ q, r.amend = .opening q →
      let opened (x : Sector) : Sector := { x with sequence := some q, opened := true, doubt := none }
      (s.store.clear = none →
        ∃ t, exec (.headerAmendEnd true) s = .next t ∧ OnlyChanges [.array, .store, .outputs] s t ∧ marked t opened ∧
          t.store.inner =
            { idle with current := some r.sector, lastSequence := some q, failures := s.store.failures.set r.sector 0 }) ∧
      (∀ c, s.store.clear = some c → c.opening = true →
        ∃ t, exec (.headerAmendEnd true) s = .next t ∧ OnlyChanges [.array, .store, .management, .outputs] s t ∧ marked t opened ∧
          t.store.inner =
            { idle with
              current := some r.sector, lastSequence := some q, failures := s.store.failures.set r.sector 0, clear := none } ∧
          t.management =
            { s.management with replies := s.management.replies ++ [[0x31, c.tag, 0]], reserved := false }) ∧
      (∀ c, s.store.clear = some c → c.opening = false →
        ∃ t, exec (.headerAmendEnd true) s = .next t ∧ OnlyChanges [.array, .store, .outputs] s t ∧ marked t opened ∧
          t.store.inner = { idle with amends := s.store.amends ++ [⟨r.sector, .retiring, false⟩] })) ∧
    (r.amend = .full →
      ∃ t after, exec (.headerAmendEnd true) s = .next t ∧ OnlyChanges [.index, .array, .store, .outputs] s t ∧
        marked t (fun x => { x with full := true, doubt := none }) ∧
        t.store.inner =
          { idle with
            writes := t.store.writes, amends := t.store.amends, erases := t.store.erases, reclaims := t.store.reclaims } ∧
        SuccessorFollows t (s.store.amends.any fun x => x.amend.isOpening) s.store.amends after ∧
        ReclaimFollows s t s.index.entries s.store.writes after s.store.erases s.store.reclaims) ∧
    (r.amend = .retiring →
      let retired (x : Sector) : Sector := { x with retiring := true, doubt := none }
      (s.store.clear = none →
        ∃ t, exec (.headerAmendEnd true) s = .next t ∧ OnlyChanges [.array, .store, .outputs] s t ∧ marked t retired ∧
          t.store.inner = idle) ∧
      (∀ c, s.store.clear = some c →
        ∃ t, exec (.headerAmendEnd true) s = .next t ∧ OnlyChanges [.array, .store, .management, .outputs] s t ∧ marked t retired ∧
          t.store.running = none ∧ t.store.erases = s.store.erases ∧ ClearFollows s t c s.store.amends)) ∧
    (r.amend = .worn →
      ∃ t, exec (.headerAmendEnd true) s = .next t ∧ OnlyChanges [.array, .store, .outputs] s t ∧
        marked t (fun x => { x with worn := true, doubt := none }) ∧ t.store.inner = idle) ∧
    (r.again = false →
      ∃ t, exec (.headerAmendEnd false) s = .next t ∧ OnlyChanges [.array, .store, .outputs] s t ∧
        marked t (fun x => { x with doubt := some r.amend }) ∧
        t.store.inner = { idle with amends := { r with again := true } :: s.store.amends }) ∧
    (r.again = true → r.amend = .worn →
      ∃ t, exec (.headerAmendEnd false) s = .next t ∧ OnlyChanges [.array, .store, .outputs] s t ∧
        marked t (fun x => { x with doubt := some r.amend }) ∧ t.store.inner = idle) ∧
    (r.again = true → r.amend ≠ .worn →
      ∃ t, exec (.headerAmendEnd false) s = .next t ∧ OnlyChanges [.array, .store, .management, .outputs] s t ∧
        marked t (fun x => { x with doubt := some r.amend }) ∧
        r.sector ∉ t.usableSectors ∧ (∀ k, k ≠ r.sector → (k ∈ t.usableSectors ↔ k ∈ s.usableSectors)) ∧
        t.store.current = (if s.store.current = some r.sector then none else s.store.current) ∧
        t.store.erases = s.store.erases.filter (fun k => k ≠ r.sector) ∧
        t.store.reclaims = s.store.reclaims.filter (fun k => k ≠ r.sector) ∧
        (t.usableSectors.length < 2 → t.store.ramOnly = true ∧ t.store.writes = [] ∧ t.store.retry = none) ∧
        (let waiting := s.store.amends.filter fun x => x.sector ≠ r.sector
         (s.store.clear = none → t.management = s.management ∧
           SuccessorFollows t (waiting.any fun x => x.amend.isOpening) waiting t.store.amends) ∧
         ∀ c, s.store.clear = some c → ClearFollows s t c waiting))

/-- R173, R174, R175: the course of an erase. It starts, out of a minimum run, when no program or amend waits; SUSPENDING, it stops and is
counted; SUSPENDED with nothing waiting, it resumes in a minimum run; a program that waits at the end of the minimum run makes it
SUSPENDING. -/
def Obligations.ErasesRunBetweenPrograms : Prop :=
  (∀ (s : State) (k : Nat) (rest : List Nat), s.powered = true → s.scanning = false → s.store.running = none →
    s.store.erase = none → s.store.erases = k :: rest → s.programWaiting = false →
    ∃ t, exec .eraseStart s = .next t ∧ OnlyChanges [.store, .outputs] s t ∧
      t.store = { s.store with erases := rest, erase := some ⟨k, .running, false, 0⟩ }) ∧
  (∀ (s : State) (k ran now : Nat), s.powered = true → s.store.erase = some ⟨k, .suspending, false, ran⟩ → ran ≤ now →
    now < 24000 →
    ∃ t, exec (.eraseSuspend now) s = .next t ∧ OnlyChanges [.store, .index, .outputs] s t ∧
      t.store = { s.store with erase := some ⟨k, .suspended, false, now⟩ } ∧
      t.index =
        { s.index with
          counters := { s.index.counters with eraseSuspensions := bump s.index.counters.eraseSuspensions } }) ∧
  (∀ (s : State) (k ran : Nat), s.powered = true → s.store.running = none → s.programWaiting = false →
    s.store.erase = some ⟨k, .suspended, false, ran⟩ →
    ∃ t, exec .eraseResume s = .next t ∧ OnlyChanges [.store, .outputs] s t ∧
      t.store = { s.store with erase := some ⟨k, .running, true, ran⟩ }) ∧
  (∀ (s : State) (k ran : Nat), s.powered = true → s.store.erase = some ⟨k, .running, true, ran⟩ → ran + 1000 < 24000 →
    ∃ t, exec .minimumRunEnd s = .next t ∧ OnlyChanges [.store, .outputs] s t ∧
      t.store =
        { s.store with
          erase := some ⟨k, if s.programWaiting then .suspending else .running, false, ran + 1000⟩ })

/-- R180, R181, R182: the end of an erase. Verified, the sector is ERASED, the erase is counted and its reclaim over; where the current
sector is FULL, or no sector is current, the opening of the lowest-numbered spare with the next sequence (log entry 18 where none has been
current) is requested; then the conditions of R180 are examined. Failed, the sector is not used again, its WORN mark is requested and
nothing else waits for it (log entry 15), and with fewer than two usable sectors left the store is in RAM-ONLY; otherwise the conditions
of R180 are examined again, so that the next oldest FULL sector may be reclaimed. R187, steps 3 to 5: in a clear, neither is done, and an
erase that leaves others queued, or a RETIRING amend outstanding, changes nothing of the clear; the last one brings its opening with
sequence 0, or, with fewer than two usable sectors, RAM-ONLY and the reply. -/
def Obligations.EraseEndsErasedOrWorn : Prop :=
  ∀ (s : State) (e : Erase), s.powered = true → s.store.erase = some e → e.condition ≠ .suspended →
    e.sector < s.array.sectors.length →
    let others (xs : List Nat) : List Nat := xs.filter fun k => k ≠ e.sector
    let worn : List AmendRequest := (s.store.amends.filter fun x => x.sector ≠ e.sector) ++ [⟨e.sector, .worn, false⟩]
    let passed (t : State) : Prop :=
      t.array =
        { s.array with
          sectors := s.array.sectors.modify e.sector fun x => { Sector.erased with slots := List.replicate x.slots.length .blank } } ∧
      t.store.erase = none ∧ t.store.running = s.store.running ∧ t.store.current = s.store.current ∧
      t.store.lastSequence = s.store.lastSequence ∧ t.store.takenWorn = s.store.takenWorn ∧
      t.index.counters.erasesCompleted = bump s.index.counters.erasesCompleted
    let failed (t : State) : Prop :=
      t.array = { s.array with sectors := s.array.sectors.modify e.sector fun x => { x with halfErased := true } } ∧
      t.store.erase = none ∧ t.store.running = s.store.running ∧
      t.store.current = (if s.store.current = some e.sector then none else s.store.current) ∧
      e.sector ∉ t.usableSectors ∧ (∀ k, k ≠ e.sector → (k ∈ t.usableSectors ↔ k ∈ s.usableSectors)) ∧
      t.index.counters.eraseFailures = bump s.index.counters.eraseFailures
    (s.store.clear = none →
      (∃ t after, exec (.eraseEnd true) s = .next t ∧ OnlyChanges [.index, .array, .store, .outputs] s t ∧ passed t ∧
        t.store.clear = none ∧ t.store.ramOnly = s.store.ramOnly ∧ t.store.retry = s.store.retry ∧
        SuccessorFollows t s.store.openingRequested s.store.amends after ∧
        ReclaimFollows s t s.index.entries s.store.writes after s.store.erases (others s.store.reclaims)) ∧
      ∃ t, exec (.eraseEnd false) s = .next t ∧ OnlyChanges [.index, .array, .store, .outputs] s t ∧ failed t ∧
        t.store.clear = none ∧
        (t.usableSectors.length < 2 → t.store.ramOnly = true ∧ t.store.retry = none ∧
          ReclaimFollows s t s.index.entries [] worn (others s.store.erases) (others s.store.reclaims)) ∧
        (2 ≤ t.usableSectors.length → t.store.ramOnly = s.store.ramOnly ∧ t.store.retry = s.store.retry ∧
          ReclaimFollows s t s.index.entries s.store.writes worn (others s.store.erases) (others s.store.reclaims))) ∧
    (∀ c, s.store.clear = some c → (∀ x ∈ s.store.outstanding, x.amend.isOpening = false) →
      (∃ t, exec (.eraseEnd true) s = .next t ∧ OnlyChanges [.index, .array, .store, .management, .outputs] s t ∧ passed t ∧
        t.index.entries = s.index.entries ∧ t.store.erases = s.store.erases ∧ t.store.reclaims = others s.store.reclaims ∧
        ClearFollows s t c s.store.amends) ∧
      ∃ t, exec (.eraseEnd false) s = .next t ∧ OnlyChanges [.index, .array, .store, .management, .outputs] s t ∧ failed t ∧
        t.index.entries = s.index.entries ∧ t.store.erases = others s.store.erases ∧ t.store.reclaims = others s.store.reclaims ∧
        (t.usableSectors.length < 2 → t.store.ramOnly = true ∧ t.store.writes = [] ∧ t.store.retry = none) ∧
        ClearFollows s t c worn)

/-- R39, R173, R185, R186, R193, R200: a requested provisioning program is served first; verified, its copy is the slot's content with the
override window reloaded, or its slot is locked, and the deferred reply is made; failed, it is tried on the next copy or once more, until it
is EXHAUSTED. -/
def Obligations.ProvisioningProgramsRun : Prop :=
  (∀ (s : State) (j : ProvisioningJob), s.powered = true → s.store.running = none →
    (∀ x, s.store.erase = some x → x.condition = .suspended) → s.store.job = some j →
    ∃ t, exec .provisioningProgram s = .next t ∧ OnlyChanges [.store, .outputs] s t ∧
      t.store = { s.store with running := some .provisioning }) ∧
  ∀ (s : State) (j : ProvisioningJob) (p : ProvisioningSlot), s.powered = true → s.store.running = some .provisioning →
    s.store.job = some j → s.array.provisioning[j.slot]? = some p →
    let replied (t : State) (code result : Byte) : Prop :=
      t.store.job = none ∧
        t.management = { s.management with replies := s.management.replies ++ [[code, j.tag, result]], reserved := false }
    (∀ n b, j.target = .copy n b →
      (∃ t, exec (.provisioningProgramEnd true) s = .next t ∧
        OnlyChanges [.index, .array, .windows, .store, .management, .outputs] s t ∧ replied t 0x18 0 ∧
        t.array =
          { s.array with
            provisioning := s.array.provisioning.set j.slot { p with copies := p.copies.set n (.committed b) } } ∧
        t.windows.ordinary = s.windows.ordinary ∧
        (∀ k, k ≠ j.slot → t.windows.override[k]? = s.windows.override[k]?) ∧
        (n < p.copies.length → (∀ m x, n < m → p.copies[m]? ≠ some (.committed x)) → j.slot < s.windows.override.length →
          t.windows.override[j.slot]? = some { b with attrs := { b.attrs with muted := false } }) ∧
        t.index.counters.provisioningPrograms = bump s.index.counters.provisioningPrograms) ∧
      (∃ t, exec (.provisioningProgramEnd false) s = .next t ∧
        OnlyChanges [.index, .array, .store, .management, .outputs] s t ∧
        (let q : ProvisioningSlot := { p with copies := p.copies.set n .void }
         t.array = { s.array with provisioning := s.array.provisioning.set j.slot q } ∧
         (∀ m, q.nextCopy = some m → t.store.job = some { j with target := .copy m b } ∧ t.management = s.management) ∧
         (q.nextCopy = none → replied t 0x18 4)) ∧
        t.index.counters.provisioningFailures = bump s.index.counters.provisioningFailures)) ∧
    (∀ again, j.target = .lock again →
      (∃ t, exec (.provisioningProgramEnd true) s = .next t ∧
        OnlyChanges [.index, .array, .store, .management, .outputs] s t ∧ replied t 0x19 0 ∧
        t.array = { s.array with provisioning := s.array.provisioning.set j.slot { p with lock := .set } } ∧
        t.index.counters.provisioningPrograms = bump s.index.counters.provisioningPrograms) ∧
      (∃ t, exec (.provisioningProgramEnd false) s = .next t ∧
        OnlyChanges [.index, .array, .store, .management, .outputs] s t ∧
        t.array = { s.array with provisioning := s.array.provisioning.set j.slot { p with lock := .doubtful } } ∧
        (again = false → t.store.job = some { j with target := .lock true } ∧ t.management = s.management) ∧
        (again = true → replied t 0x19 4) ∧
        t.index.counters.provisioningFailures = bump s.index.counters.provisioningFailures))

/-! ## Resets -/

/-- R1, R21, R40, R68, R91, R114, R138, R157, R168, R203, R204: what a power-on reset, and a pin reset of a powered part, leave of every
block but the history store; R188, R190: the array's operations are cut, and the first part of the scan has read what they left (which readings
of a location left unknown the scan may find is the model's choice, log entry 7). -/
def Obligations.HardResetsLeaveResetStates : Prop :=
  ∀ (s : State) (rate : BitVec 2) (worn : Nat) (c : Instr),
    c = .powerOnReset rate worn ∨ (c = .pinReset rate worn ∧ s.powered = true) →
    ∃ t, exec c s = .next t ∧ t.powered = true ∧ t.scanning = true ∧ t.rate = rate ∧ t.wake = false ∧
      t.link = .reset s.link.m.holdIn s.link.p.holdIn ∧ t.settings = .reset ∧ t.windows = .reset ∧ t.intake = .reset ∧
      t.index = .reset ∧ t.area = .reset ∧ t.records = .reset ∧ t.ack = .reset ∧ t.report = .reset ∧ t.management = .reset ∧
      t.time = { epoch := 0, wall := 0, timeSet := false } ∧ t.due = .none ∧ t.pending = s.pending ∧
      t.store.running = none ∧ t.store.erase = none ∧ t.store.writes = [] ∧ t.store.retry = none ∧ t.store.job = none ∧
      t.store.clear = none ∧ t.store.failures = [0, 0, 0, 0] ∧ ∃ a, s.arrayCut.ReadsAs a ∧ t.ScanBegun a worn

/-- R1, R188, R190, R202, R203: a RESET without arguments, executed after the scan, needs no place for a reply and has none; it keeps the
configuration items, wall time and the time-set flag, and leaves every other block but the history store in its reset state. What ran on the
array has ended by its verify, an erase is abandoned, and the first part of the scan has read what they left (which readings it may find is the
model's choice, log entry 7). -/
def Obligations.ResetRequestResetsSoftly : Prop :=
  ∀ (s : State) (tag : Byte) (rest : List (List Byte)) (rate : BitVec 2) (verify : SlotVerify) (worn : Nat),
    s.powered = true → s.scanning = false → s.management.requests = [0x3F, tag] :: rest → 1 ≤ s.settings.backlogMark →
    1 ≤ s.settings.marksM.high → 1 ≤ s.settings.marksP.high →
    ∃ t, exec (.reset rate verify worn) s = .next t ∧ t.powered = true ∧ t.scanning = true ∧ t.rate = rate ∧ t.wake = false ∧
      t.link = .reset s.link.m.holdIn s.link.p.holdIn ∧ t.settings = s.settings ∧ t.windows = .reset ∧ t.intake = .reset ∧
      t.index = .reset ∧ t.area = .reset ∧ t.records = .reset ∧ t.ack = .reset ∧ t.report = .reset ∧ t.management = .reset ∧
      t.time = { s.time with epoch := 0 } ∧ t.due = .none ∧ t.pending = s.pending ∧
      t.store.running = none ∧ t.store.erase = none ∧ t.store.writes = [] ∧ t.store.retry = none ∧ t.store.job = none ∧
      t.store.clear = none ∧ t.store.failures = [0, 0, 0, 0] ∧ ∃ a, (s.arrayEnded verify).ReadsAs a ∧ t.ScanBegun a worn

/-- R9, R166, R170, R190: a loss of power cuts a slot program, an amend or a provisioning program, and an erase whatever its condition, leaving
their locations unknown, keeps every other location of the array, loses all working state, and asserts both hold outputs with WAKE low (that they
are so while there is no supply at all is the model's choice, log entry 11). -/
def Obligations.PowerLossCutsTheArray : Prop :=
  ∀ s : State, s.powered = true →
    let lost := Link.reset s.link.m.holdIn s.link.p.holdIn
    let erased (xs : List Sector) : List Sector :=
      match s.store.erase with
      | some e => xs.modify e.sector fun x => { x with halfErased := true }
      | none => xs
    ∃ t, exec .powerLoss s = .next t ∧ t.powered = false ∧ t.scanning = false ∧ t.wake = false ∧
      t.link = { lost with m := { lost.m with holdOut := true }, p := { lost.p with holdOut := true } } ∧
      t.settings = .reset ∧ t.windows = .reset ∧ t.intake = .reset ∧ t.index = .reset ∧ t.area = .reset ∧ t.records = .reset ∧
      t.ack = .reset ∧ t.report = .reset ∧ t.store = .idle ∧ t.management = .reset ∧ t.due = .none ∧ t.pending = s.pending ∧
      t.time = { epoch := 0, wall := 0, timeSet := false } ∧
      (s.store.running = none → t.array = { s.array with sectors := erased s.array.sectors }) ∧
      (∀ w, s.store.running = some (.slotProgram w) →
        t.array =
          { s.array with
            sectors := erased (s.array.sectors.modify w.sector fun x => { x with slots := x.slots.set w.slot (.cut w.fields) }) }) ∧
      (∀ r, s.store.running = some (.headerAmend r) →
        t.array =
          { s.array with sectors := erased (s.array.sectors.modify r.sector fun x => { x with doubt := some r.amend }) }) ∧
      (∀ j, s.store.running = some .provisioning → s.store.job = some j →
        (∀ n b, j.target = .copy n b →
          t.array =
            { sectors := erased s.array.sectors
              provisioning := s.array.provisioning.modify j.slot fun x => { x with copies := x.copies.set n (.cut b) } }) ∧
        (∀ again, j.target = .lock again →
          t.array =
            { sectors := erased s.array.sectors
              provisioning := s.array.provisioning.modify j.slot fun x => { x with lock := .doubtful } })) ∧
      (s.store.job = none → t.array.provisioning = s.array.provisioning)

/-- R38, R91, R189: at the end of the scan the index holds, for each key found in a committed slot of an OPEN or FULL sector, the fields of
the last such slot in the reading, the latest 160 of them in the order of those slots; the override windows are loaded; the part is READY. The
reading goes through those sectors from the oldest to the newest by sequence, and through the slots of each from the first (R171, R189; that the
slots of a sector taken as WORN during the scan are read all the same is the model's choice, log entry 34).
R180: where no sector is current, or the current one is FULL or holds 56 used slots, and no spare stands ready, a reclaim starts; otherwise every
entry is persisted with its slot's location and the pending write list is empty. -/
def Obligations.ScanEndRebuildsTheIndex : Prop :=
  ∀ s : State, s.powered = true → s.scanning = true →
    let committed : List EntryFields := s.slotsRead.filterMap fun x =>
      match x.2 with
      | .committed f => some f
      | _ => none
    (let sequence (k : Nat) : Half := (s.sector k).sequence.getD 0
     let newer (i j : Nat) : Prop := 1 ≤ (sequence i - sequence j).toNat ∧ (sequence i - sequence j).toNat ≤ 32767
     ∀ ks : List Nat, ks.Nodup → (∀ k, k ∈ ks ↔ k ∈ [0, 1, 2, 3] ∧ ((s.sector k).state = .opened ∨ (s.sector k).state = .full)) →
       ks.Pairwise (fun i j => newer j i ∨ (¬ newer i j ∧ i < j)) →
       s.slotsRead = ks.flatMap fun k => (s.sector k).slots.zipIdx.map fun x => ((k, x.2), x.1)) ∧
    ∃ t, exec .scanEnd s = .next t ∧ OnlyChanges [.supply, .windows, .index, .store, .outputs] s t ∧
      t.powered = true ∧ t.scanning = false ∧
      t.windows.ordinary = s.windows.ordinary ∧
      t.windows.override = s.array.provisioning.map ProvisioningSlot.window ∧
      (t.index.entries.map fun e => e.fields.key).Nodup ∧
      t.index.entries.length = min 160 (committed.map EntryFields.key).dedup.length ∧
      ((t.index.entries.map Entry.fields).Sublist committed) ∧
      (∀ e ∈ t.index.entries, ∃ before after, committed = before ++ e.fields :: after ∧
        (∀ f ∈ after, f.key ≠ e.fields.key) ∧
        ∀ f ∈ after, ∃ x ∈ t.index.entries, x.fields.key = f.key) ∧
      (s.usableSectors.length < 2 → t.store.ramOnly = true) ∧
      t.index.counters.indexEvictions =
        bumpBy ((committed.map EntryFields.key).dedup.length - 160) s.index.counters.indexEvictions ∧
      t.index.counters.scanVoidSlots = bumpBy (s.slotsRead.countP fun x => x.2.isVoid) s.index.counters.scanVoidSlots ∧
      t.store.retry = none ∧ t.store.failures = [0, 0, 0, 0] ∧
      (let adopted (e : Entry) : Prop := e.persisted = true ∧ ∃ l, e.location = some l ∧ (l, .committed e.fields) ∈ s.slotsRead
       let begins : Prop :=
         (s.store.current = none ∨
           ∃ k, s.store.current = some k ∧ ((s.sector k).state = .full ∨ 56 ≤ (s.sector k).usedSlots)) ∧
         s.NoSpare ∧ s.store.reclaims = [] ∧ s.store.clear = none ∧ t.store.ramOnly = false
       (¬ begins → (∀ e ∈ t.index.entries, adopted e) ∧ t.store.writes = [] ∧ t.store.reclaims = s.store.reclaims ∧
         t.store.amends = s.store.amends ∧ t.store.erases = s.store.erases) ∧
       (begins → ∀ k, s.IsOldestFull k →
         ∃ entries, (∀ e ∈ entries, adopted e) ∧ ReclaimStarts s t entries [] s.store.amends s.store.erases k))

/-! ## Invariants -/

/-- R9, R10, R164, R166, R174 (settled after each event, log entry 11): every step keeps MHO, PHO, WAKE and the asking of a running erase to stop
in line with the rest of the state, as `State.OutputsFollow` spells it out; and a hold output of a powered part whose occupancy is left strictly
between the marks keeps its level. -/
def Obligations.OutputsFollowAtEveryStep : Prop :=
  ∀ s t : State, s.OutputsFollow → step s = .next t →
    t.OutputsFollow ∧
    (t.powered = true → ∀ port,
      let p := t.link.port port
      let occupancy := (p.fifo.frames.map fun f => f.payload.length + 6).sum + p.fifo.reserved
      (t.settings.marks port).low < occupancy → occupancy < (t.settings.marks port).high →
        p.holdOut = (s.link.port port).holdOut)

/-- R41, R60, R106, R154, R158, R159, R176, R192, R193, R200: every step keeps the queues, tables and reply places within their bounds, the
pending write list without a key twice, and at most one deferred reply outstanding; R145: and the reminder step at the epoch count divided by 16,
but for the increase owed in the epoch that is a multiple of 16 until it is taken (that it is owed is the model's choice, log entry 2). -/
def Obligations.QueuesStayBounded : Prop :=
  ∀ s t : State, s.Bounded → step s = .next t → t.Bounded

/-- R3, R7, R13: every step keeps the receive FIFOs and forward buffers within their capacities. -/
def Obligations.BuffersStayWithinCapacity : Prop :=
  ∀ s t : State, s.link.fits → step s = .next t → t.link.fits

/-- R106, R115, R119, R120, R131: every step keeps the record unit in order: at most 16 active records, in order of rank and entry, at most
8 held ones, each live record in a slot of its own under its present generation, at most one record DELIVERING or latched. -/
def Obligations.RecordsStayOrdered : Prop :=
  ∀ s t : State, s.records.Ordered → step s = .next t → t.records.Ordered

/-- R69, R81, R89, R138: every step keeps one entry for each key, and a NOTICE-SEEN entry of its revision for every active or held record; R70,
R85: with an ordered record unit, at most 160 entries. -/
def Obligations.RecordsKeepTheirEntries : Prop :=
  ∀ s t : State, s.indexLaw → step s = .next t →
    t.indexLaw ∧ (s.records.Ordered → s.index.entries.length ≤ 160 → t.index.entries.length ≤ 160)

/-- R184: no command changes the content of a locked provisioning slot, or unlocks it, through every reset. -/
def Obligations.LockedSlotsNeverChange : Prop :=
  ∀ s t : State, s.provisioningSound → step s = .next t →
    t.provisioningSound ∧
      ∀ n, (s.provisioningSlot n).locked = true →
        (t.provisioningSlot n).locked = true ∧ (t.provisioningSlot n).content = (s.provisioningSlot n).content

/-- The state after reset (its array as made, log entry 5) meets every invariant the steps keep; and the power-on reset of an unpowered part
whose array is as made, no spare worn, leaves that state's history store and array (R188). -/
def Obligations.ResetMeetsTheInvariants : Prop :=
  State.reset.OutputsFollow ∧ State.reset.index.entries.length ≤ 160 ∧ State.reset.Bounded ∧ State.reset.link.fits ∧ State.reset.records.Ordered ∧
    State.reset.indexLaw ∧ State.reset.provisioningSound ∧
    (∀ (s : State) (rate : BitVec 2), s.array = NvArray.made → s.store = .idle → s.powered = false →
      ∃ t, exec (.powerOnReset rate 0) s = .next t ∧ t.store = State.reset.store ∧ t.array = State.reset.array)
end

