-- ==== Sys2Proof/Laws/State.lean ====
section
/-!
SUPPORT. One lemma for each field under each update of the state, so that no proof unfolds an update of the record.
-/

namespace Sys2Proof.Machine

variable (s : State)

/-! ### State.onLink -/

@[simp] theorem State.onLink_powered (f : Link → Link) : (s.onLink f).powered = s.powered := rfl
@[simp] theorem State.onLink_scanning (f : Link → Link) : (s.onLink f).scanning = s.scanning := rfl
@[simp] theorem State.onLink_rate (f : Link → Link) : (s.onLink f).rate = s.rate := rfl
@[simp] theorem State.onLink_wake (f : Link → Link) : (s.onLink f).wake = s.wake := rfl
@[simp] theorem State.onLink_link (f : Link → Link) : (s.onLink f).link = f s.link := rfl
@[simp] theorem State.onLink_settings (f : Link → Link) : (s.onLink f).settings = s.settings := rfl
@[simp] theorem State.onLink_windows (f : Link → Link) : (s.onLink f).windows = s.windows := rfl
@[simp] theorem State.onLink_intake (f : Link → Link) : (s.onLink f).intake = s.intake := rfl
@[simp] theorem State.onLink_index (f : Link → Link) : (s.onLink f).index = s.index := rfl
@[simp] theorem State.onLink_area (f : Link → Link) : (s.onLink f).area = s.area := rfl
@[simp] theorem State.onLink_records (f : Link → Link) : (s.onLink f).records = s.records := rfl
@[simp] theorem State.onLink_ack (f : Link → Link) : (s.onLink f).ack = s.ack := rfl
@[simp] theorem State.onLink_report (f : Link → Link) : (s.onLink f).report = s.report := rfl
@[simp] theorem State.onLink_array (f : Link → Link) : (s.onLink f).array = s.array := rfl
@[simp] theorem State.onLink_store (f : Link → Link) : (s.onLink f).store = s.store := rfl
@[simp] theorem State.onLink_management (f : Link → Link) : (s.onLink f).management = s.management := rfl
@[simp] theorem State.onLink_time (f : Link → Link) : (s.onLink f).time = s.time := rfl
@[simp] theorem State.onLink_due (f : Link → Link) : (s.onLink f).due = s.due := rfl
@[simp] theorem State.onLink_scans (f : Link → Link) : (s.onLink f).scans = s.scans := rfl
@[simp] theorem State.onLink_pending (f : Link → Link) : (s.onLink f).pending = s.pending := rfl

/-! ### State.onWindows -/

@[simp] theorem State.onWindows_powered (f : Windows → Windows) : (s.onWindows f).powered = s.powered := rfl
@[simp] theorem State.onWindows_scanning (f : Windows → Windows) : (s.onWindows f).scanning = s.scanning := rfl
@[simp] theorem State.onWindows_rate (f : Windows → Windows) : (s.onWindows f).rate = s.rate := rfl
@[simp] theorem State.onWindows_wake (f : Windows → Windows) : (s.onWindows f).wake = s.wake := rfl
@[simp] theorem State.onWindows_link (f : Windows → Windows) : (s.onWindows f).link = s.link := rfl
@[simp] theorem State.onWindows_settings (f : Windows → Windows) : (s.onWindows f).settings = s.settings := rfl
@[simp] theorem State.onWindows_windows (f : Windows → Windows) : (s.onWindows f).windows = f s.windows := rfl
@[simp] theorem State.onWindows_intake (f : Windows → Windows) : (s.onWindows f).intake = s.intake := rfl
@[simp] theorem State.onWindows_index (f : Windows → Windows) : (s.onWindows f).index = s.index := rfl
@[simp] theorem State.onWindows_area (f : Windows → Windows) : (s.onWindows f).area = s.area := rfl
@[simp] theorem State.onWindows_records (f : Windows → Windows) : (s.onWindows f).records = s.records := rfl
@[simp] theorem State.onWindows_ack (f : Windows → Windows) : (s.onWindows f).ack = s.ack := rfl
@[simp] theorem State.onWindows_report (f : Windows → Windows) : (s.onWindows f).report = s.report := rfl
@[simp] theorem State.onWindows_array (f : Windows → Windows) : (s.onWindows f).array = s.array := rfl
@[simp] theorem State.onWindows_store (f : Windows → Windows) : (s.onWindows f).store = s.store := rfl
@[simp] theorem State.onWindows_management (f : Windows → Windows) : (s.onWindows f).management = s.management := rfl
@[simp] theorem State.onWindows_time (f : Windows → Windows) : (s.onWindows f).time = s.time := rfl
@[simp] theorem State.onWindows_due (f : Windows → Windows) : (s.onWindows f).due = s.due := rfl
@[simp] theorem State.onWindows_scans (f : Windows → Windows) : (s.onWindows f).scans = s.scans := rfl
@[simp] theorem State.onWindows_pending (f : Windows → Windows) : (s.onWindows f).pending = s.pending := rfl

/-! ### State.onIntake -/

@[simp] theorem State.onIntake_powered (f : Intake → Intake) : (s.onIntake f).powered = s.powered := rfl
@[simp] theorem State.onIntake_scanning (f : Intake → Intake) : (s.onIntake f).scanning = s.scanning := rfl
@[simp] theorem State.onIntake_rate (f : Intake → Intake) : (s.onIntake f).rate = s.rate := rfl
@[simp] theorem State.onIntake_wake (f : Intake → Intake) : (s.onIntake f).wake = s.wake := rfl
@[simp] theorem State.onIntake_link (f : Intake → Intake) : (s.onIntake f).link = s.link := rfl
@[simp] theorem State.onIntake_settings (f : Intake → Intake) : (s.onIntake f).settings = s.settings := rfl
@[simp] theorem State.onIntake_windows (f : Intake → Intake) : (s.onIntake f).windows = s.windows := rfl
@[simp] theorem State.onIntake_intake (f : Intake → Intake) : (s.onIntake f).intake = f s.intake := rfl
@[simp] theorem State.onIntake_index (f : Intake → Intake) : (s.onIntake f).index = s.index := rfl
@[simp] theorem State.onIntake_area (f : Intake → Intake) : (s.onIntake f).area = s.area := rfl
@[simp] theorem State.onIntake_records (f : Intake → Intake) : (s.onIntake f).records = s.records := rfl
@[simp] theorem State.onIntake_ack (f : Intake → Intake) : (s.onIntake f).ack = s.ack := rfl
@[simp] theorem State.onIntake_report (f : Intake → Intake) : (s.onIntake f).report = s.report := rfl
@[simp] theorem State.onIntake_array (f : Intake → Intake) : (s.onIntake f).array = s.array := rfl
@[simp] theorem State.onIntake_store (f : Intake → Intake) : (s.onIntake f).store = s.store := rfl
@[simp] theorem State.onIntake_management (f : Intake → Intake) : (s.onIntake f).management = s.management := rfl
@[simp] theorem State.onIntake_time (f : Intake → Intake) : (s.onIntake f).time = s.time := rfl
@[simp] theorem State.onIntake_due (f : Intake → Intake) : (s.onIntake f).due = s.due := rfl
@[simp] theorem State.onIntake_scans (f : Intake → Intake) : (s.onIntake f).scans = s.scans := rfl
@[simp] theorem State.onIntake_pending (f : Intake → Intake) : (s.onIntake f).pending = s.pending := rfl

/-! ### State.onIndex -/

@[simp] theorem State.onIndex_powered (f : Index → Index) : (s.onIndex f).powered = s.powered := rfl
@[simp] theorem State.onIndex_scanning (f : Index → Index) : (s.onIndex f).scanning = s.scanning := rfl
@[simp] theorem State.onIndex_rate (f : Index → Index) : (s.onIndex f).rate = s.rate := rfl
@[simp] theorem State.onIndex_wake (f : Index → Index) : (s.onIndex f).wake = s.wake := rfl
@[simp] theorem State.onIndex_link (f : Index → Index) : (s.onIndex f).link = s.link := rfl
@[simp] theorem State.onIndex_settings (f : Index → Index) : (s.onIndex f).settings = s.settings := rfl
@[simp] theorem State.onIndex_windows (f : Index → Index) : (s.onIndex f).windows = s.windows := rfl
@[simp] theorem State.onIndex_intake (f : Index → Index) : (s.onIndex f).intake = s.intake := rfl
@[simp] theorem State.onIndex_index (f : Index → Index) : (s.onIndex f).index = f s.index := rfl
@[simp] theorem State.onIndex_area (f : Index → Index) : (s.onIndex f).area = s.area := rfl
@[simp] theorem State.onIndex_records (f : Index → Index) : (s.onIndex f).records = s.records := rfl
@[simp] theorem State.onIndex_ack (f : Index → Index) : (s.onIndex f).ack = s.ack := rfl
@[simp] theorem State.onIndex_report (f : Index → Index) : (s.onIndex f).report = s.report := rfl
@[simp] theorem State.onIndex_array (f : Index → Index) : (s.onIndex f).array = s.array := rfl
@[simp] theorem State.onIndex_store (f : Index → Index) : (s.onIndex f).store = s.store := rfl
@[simp] theorem State.onIndex_management (f : Index → Index) : (s.onIndex f).management = s.management := rfl
@[simp] theorem State.onIndex_time (f : Index → Index) : (s.onIndex f).time = s.time := rfl
@[simp] theorem State.onIndex_due (f : Index → Index) : (s.onIndex f).due = s.due := rfl
@[simp] theorem State.onIndex_scans (f : Index → Index) : (s.onIndex f).scans = s.scans := rfl
@[simp] theorem State.onIndex_pending (f : Index → Index) : (s.onIndex f).pending = s.pending := rfl

/-! ### State.onArea -/

@[simp] theorem State.onArea_powered (f : Area → Area) : (s.onArea f).powered = s.powered := rfl
@[simp] theorem State.onArea_scanning (f : Area → Area) : (s.onArea f).scanning = s.scanning := rfl
@[simp] theorem State.onArea_rate (f : Area → Area) : (s.onArea f).rate = s.rate := rfl
@[simp] theorem State.onArea_wake (f : Area → Area) : (s.onArea f).wake = s.wake := rfl
@[simp] theorem State.onArea_link (f : Area → Area) : (s.onArea f).link = s.link := rfl
@[simp] theorem State.onArea_settings (f : Area → Area) : (s.onArea f).settings = s.settings := rfl
@[simp] theorem State.onArea_windows (f : Area → Area) : (s.onArea f).windows = s.windows := rfl
@[simp] theorem State.onArea_intake (f : Area → Area) : (s.onArea f).intake = s.intake := rfl
@[simp] theorem State.onArea_index (f : Area → Area) : (s.onArea f).index = s.index := rfl
@[simp] theorem State.onArea_area (f : Area → Area) : (s.onArea f).area = f s.area := rfl
@[simp] theorem State.onArea_records (f : Area → Area) : (s.onArea f).records = s.records := rfl
@[simp] theorem State.onArea_ack (f : Area → Area) : (s.onArea f).ack = s.ack := rfl
@[simp] theorem State.onArea_report (f : Area → Area) : (s.onArea f).report = s.report := rfl
@[simp] theorem State.onArea_array (f : Area → Area) : (s.onArea f).array = s.array := rfl
@[simp] theorem State.onArea_store (f : Area → Area) : (s.onArea f).store = s.store := rfl
@[simp] theorem State.onArea_management (f : Area → Area) : (s.onArea f).management = s.management := rfl
@[simp] theorem State.onArea_time (f : Area → Area) : (s.onArea f).time = s.time := rfl
@[simp] theorem State.onArea_due (f : Area → Area) : (s.onArea f).due = s.due := rfl
@[simp] theorem State.onArea_scans (f : Area → Area) : (s.onArea f).scans = s.scans := rfl
@[simp] theorem State.onArea_pending (f : Area → Area) : (s.onArea f).pending = s.pending := rfl

/-! ### State.onRecords -/

@[simp] theorem State.onRecords_powered (f : Records → Records) : (s.onRecords f).powered = s.powered := rfl
@[simp] theorem State.onRecords_scanning (f : Records → Records) : (s.onRecords f).scanning = s.scanning := rfl
@[simp] theorem State.onRecords_rate (f : Records → Records) : (s.onRecords f).rate = s.rate := rfl
@[simp] theorem State.onRecords_wake (f : Records → Records) : (s.onRecords f).wake = s.wake := rfl
@[simp] theorem State.onRecords_link (f : Records → Records) : (s.onRecords f).link = s.link := rfl
@[simp] theorem State.onRecords_settings (f : Records → Records) : (s.onRecords f).settings = s.settings := rfl
@[simp] theorem State.onRecords_windows (f : Records → Records) : (s.onRecords f).windows = s.windows := rfl
@[simp] theorem State.onRecords_intake (f : Records → Records) : (s.onRecords f).intake = s.intake := rfl
@[simp] theorem State.onRecords_index (f : Records → Records) : (s.onRecords f).index = s.index := rfl
@[simp] theorem State.onRecords_area (f : Records → Records) : (s.onRecords f).area = s.area := rfl
@[simp] theorem State.onRecords_records (f : Records → Records) : (s.onRecords f).records = f s.records := rfl
@[simp] theorem State.onRecords_ack (f : Records → Records) : (s.onRecords f).ack = s.ack := rfl
@[simp] theorem State.onRecords_report (f : Records → Records) : (s.onRecords f).report = s.report := rfl
@[simp] theorem State.onRecords_array (f : Records → Records) : (s.onRecords f).array = s.array := rfl
@[simp] theorem State.onRecords_store (f : Records → Records) : (s.onRecords f).store = s.store := rfl
@[simp] theorem State.onRecords_management (f : Records → Records) : (s.onRecords f).management = s.management := rfl
@[simp] theorem State.onRecords_time (f : Records → Records) : (s.onRecords f).time = s.time := rfl
@[simp] theorem State.onRecords_due (f : Records → Records) : (s.onRecords f).due = s.due := rfl
@[simp] theorem State.onRecords_scans (f : Records → Records) : (s.onRecords f).scans = s.scans := rfl
@[simp] theorem State.onRecords_pending (f : Records → Records) : (s.onRecords f).pending = s.pending := rfl

/-! ### State.onAck -/

@[simp] theorem State.onAck_powered (f : Acknowledgement → Acknowledgement) : (s.onAck f).powered = s.powered := rfl
@[simp] theorem State.onAck_scanning (f : Acknowledgement → Acknowledgement) : (s.onAck f).scanning = s.scanning := rfl
@[simp] theorem State.onAck_rate (f : Acknowledgement → Acknowledgement) : (s.onAck f).rate = s.rate := rfl
@[simp] theorem State.onAck_wake (f : Acknowledgement → Acknowledgement) : (s.onAck f).wake = s.wake := rfl
@[simp] theorem State.onAck_link (f : Acknowledgement → Acknowledgement) : (s.onAck f).link = s.link := rfl
@[simp] theorem State.onAck_settings (f : Acknowledgement → Acknowledgement) : (s.onAck f).settings = s.settings := rfl
@[simp] theorem State.onAck_windows (f : Acknowledgement → Acknowledgement) : (s.onAck f).windows = s.windows := rfl
@[simp] theorem State.onAck_intake (f : Acknowledgement → Acknowledgement) : (s.onAck f).intake = s.intake := rfl
@[simp] theorem State.onAck_index (f : Acknowledgement → Acknowledgement) : (s.onAck f).index = s.index := rfl
@[simp] theorem State.onAck_area (f : Acknowledgement → Acknowledgement) : (s.onAck f).area = s.area := rfl
@[simp] theorem State.onAck_records (f : Acknowledgement → Acknowledgement) : (s.onAck f).records = s.records := rfl
@[simp] theorem State.onAck_ack (f : Acknowledgement → Acknowledgement) : (s.onAck f).ack = f s.ack := rfl
@[simp] theorem State.onAck_report (f : Acknowledgement → Acknowledgement) : (s.onAck f).report = s.report := rfl
@[simp] theorem State.onAck_array (f : Acknowledgement → Acknowledgement) : (s.onAck f).array = s.array := rfl
@[simp] theorem State.onAck_store (f : Acknowledgement → Acknowledgement) : (s.onAck f).store = s.store := rfl
@[simp] theorem State.onAck_management (f : Acknowledgement → Acknowledgement) : (s.onAck f).management = s.management := rfl
@[simp] theorem State.onAck_time (f : Acknowledgement → Acknowledgement) : (s.onAck f).time = s.time := rfl
@[simp] theorem State.onAck_due (f : Acknowledgement → Acknowledgement) : (s.onAck f).due = s.due := rfl
@[simp] theorem State.onAck_scans (f : Acknowledgement → Acknowledgement) : (s.onAck f).scans = s.scans := rfl
@[simp] theorem State.onAck_pending (f : Acknowledgement → Acknowledgement) : (s.onAck f).pending = s.pending := rfl

/-! ### State.onReport -/

@[simp] theorem State.onReport_powered (f : Report → Report) : (s.onReport f).powered = s.powered := rfl
@[simp] theorem State.onReport_scanning (f : Report → Report) : (s.onReport f).scanning = s.scanning := rfl
@[simp] theorem State.onReport_rate (f : Report → Report) : (s.onReport f).rate = s.rate := rfl
@[simp] theorem State.onReport_wake (f : Report → Report) : (s.onReport f).wake = s.wake := rfl
@[simp] theorem State.onReport_link (f : Report → Report) : (s.onReport f).link = s.link := rfl
@[simp] theorem State.onReport_settings (f : Report → Report) : (s.onReport f).settings = s.settings := rfl
@[simp] theorem State.onReport_windows (f : Report → Report) : (s.onReport f).windows = s.windows := rfl
@[simp] theorem State.onReport_intake (f : Report → Report) : (s.onReport f).intake = s.intake := rfl
@[simp] theorem State.onReport_index (f : Report → Report) : (s.onReport f).index = s.index := rfl
@[simp] theorem State.onReport_area (f : Report → Report) : (s.onReport f).area = s.area := rfl
@[simp] theorem State.onReport_records (f : Report → Report) : (s.onReport f).records = s.records := rfl
@[simp] theorem State.onReport_ack (f : Report → Report) : (s.onReport f).ack = s.ack := rfl
@[simp] theorem State.onReport_report (f : Report → Report) : (s.onReport f).report = f s.report := rfl
@[simp] theorem State.onReport_array (f : Report → Report) : (s.onReport f).array = s.array := rfl
@[simp] theorem State.onReport_store (f : Report → Report) : (s.onReport f).store = s.store := rfl
@[simp] theorem State.onReport_management (f : Report → Report) : (s.onReport f).management = s.management := rfl
@[simp] theorem State.onReport_time (f : Report → Report) : (s.onReport f).time = s.time := rfl
@[simp] theorem State.onReport_due (f : Report → Report) : (s.onReport f).due = s.due := rfl
@[simp] theorem State.onReport_scans (f : Report → Report) : (s.onReport f).scans = s.scans := rfl
@[simp] theorem State.onReport_pending (f : Report → Report) : (s.onReport f).pending = s.pending := rfl

/-! ### State.onArray -/

@[simp] theorem State.onArray_powered (f : NvArray → NvArray) : (s.onArray f).powered = s.powered := rfl
@[simp] theorem State.onArray_scanning (f : NvArray → NvArray) : (s.onArray f).scanning = s.scanning := rfl
@[simp] theorem State.onArray_rate (f : NvArray → NvArray) : (s.onArray f).rate = s.rate := rfl
@[simp] theorem State.onArray_wake (f : NvArray → NvArray) : (s.onArray f).wake = s.wake := rfl
@[simp] theorem State.onArray_link (f : NvArray → NvArray) : (s.onArray f).link = s.link := rfl
@[simp] theorem State.onArray_settings (f : NvArray → NvArray) : (s.onArray f).settings = s.settings := rfl
@[simp] theorem State.onArray_windows (f : NvArray → NvArray) : (s.onArray f).windows = s.windows := rfl
@[simp] theorem State.onArray_intake (f : NvArray → NvArray) : (s.onArray f).intake = s.intake := rfl
@[simp] theorem State.onArray_index (f : NvArray → NvArray) : (s.onArray f).index = s.index := rfl
@[simp] theorem State.onArray_area (f : NvArray → NvArray) : (s.onArray f).area = s.area := rfl
@[simp] theorem State.onArray_records (f : NvArray → NvArray) : (s.onArray f).records = s.records := rfl
@[simp] theorem State.onArray_ack (f : NvArray → NvArray) : (s.onArray f).ack = s.ack := rfl
@[simp] theorem State.onArray_report (f : NvArray → NvArray) : (s.onArray f).report = s.report := rfl
@[simp] theorem State.onArray_array (f : NvArray → NvArray) : (s.onArray f).array = f s.array := rfl
@[simp] theorem State.onArray_store (f : NvArray → NvArray) : (s.onArray f).store = s.store := rfl
@[simp] theorem State.onArray_management (f : NvArray → NvArray) : (s.onArray f).management = s.management := rfl
@[simp] theorem State.onArray_time (f : NvArray → NvArray) : (s.onArray f).time = s.time := rfl
@[simp] theorem State.onArray_due (f : NvArray → NvArray) : (s.onArray f).due = s.due := rfl
@[simp] theorem State.onArray_scans (f : NvArray → NvArray) : (s.onArray f).scans = s.scans := rfl
@[simp] theorem State.onArray_pending (f : NvArray → NvArray) : (s.onArray f).pending = s.pending := rfl

/-! ### State.onStore -/

@[simp] theorem State.onStore_powered (f : Store → Store) : (s.onStore f).powered = s.powered := rfl
@[simp] theorem State.onStore_scanning (f : Store → Store) : (s.onStore f).scanning = s.scanning := rfl
@[simp] theorem State.onStore_rate (f : Store → Store) : (s.onStore f).rate = s.rate := rfl
@[simp] theorem State.onStore_wake (f : Store → Store) : (s.onStore f).wake = s.wake := rfl
@[simp] theorem State.onStore_link (f : Store → Store) : (s.onStore f).link = s.link := rfl
@[simp] theorem State.onStore_settings (f : Store → Store) : (s.onStore f).settings = s.settings := rfl
@[simp] theorem State.onStore_windows (f : Store → Store) : (s.onStore f).windows = s.windows := rfl
@[simp] theorem State.onStore_intake (f : Store → Store) : (s.onStore f).intake = s.intake := rfl
@[simp] theorem State.onStore_index (f : Store → Store) : (s.onStore f).index = s.index := rfl
@[simp] theorem State.onStore_area (f : Store → Store) : (s.onStore f).area = s.area := rfl
@[simp] theorem State.onStore_records (f : Store → Store) : (s.onStore f).records = s.records := rfl
@[simp] theorem State.onStore_ack (f : Store → Store) : (s.onStore f).ack = s.ack := rfl
@[simp] theorem State.onStore_report (f : Store → Store) : (s.onStore f).report = s.report := rfl
@[simp] theorem State.onStore_array (f : Store → Store) : (s.onStore f).array = s.array := rfl
@[simp] theorem State.onStore_store (f : Store → Store) : (s.onStore f).store = f s.store := rfl
@[simp] theorem State.onStore_management (f : Store → Store) : (s.onStore f).management = s.management := rfl
@[simp] theorem State.onStore_time (f : Store → Store) : (s.onStore f).time = s.time := rfl
@[simp] theorem State.onStore_due (f : Store → Store) : (s.onStore f).due = s.due := rfl
@[simp] theorem State.onStore_scans (f : Store → Store) : (s.onStore f).scans = s.scans := rfl
@[simp] theorem State.onStore_pending (f : Store → Store) : (s.onStore f).pending = s.pending := rfl

/-! ### State.onManagement -/

@[simp] theorem State.onManagement_powered (f : Management → Management) : (s.onManagement f).powered = s.powered := rfl
@[simp] theorem State.onManagement_scanning (f : Management → Management) : (s.onManagement f).scanning = s.scanning := rfl
@[simp] theorem State.onManagement_rate (f : Management → Management) : (s.onManagement f).rate = s.rate := rfl
@[simp] theorem State.onManagement_wake (f : Management → Management) : (s.onManagement f).wake = s.wake := rfl
@[simp] theorem State.onManagement_link (f : Management → Management) : (s.onManagement f).link = s.link := rfl
@[simp] theorem State.onManagement_settings (f : Management → Management) : (s.onManagement f).settings = s.settings := rfl
@[simp] theorem State.onManagement_windows (f : Management → Management) : (s.onManagement f).windows = s.windows := rfl
@[simp] theorem State.onManagement_intake (f : Management → Management) : (s.onManagement f).intake = s.intake := rfl
@[simp] theorem State.onManagement_index (f : Management → Management) : (s.onManagement f).index = s.index := rfl
@[simp] theorem State.onManagement_area (f : Management → Management) : (s.onManagement f).area = s.area := rfl
@[simp] theorem State.onManagement_records (f : Management → Management) : (s.onManagement f).records = s.records := rfl
@[simp] theorem State.onManagement_ack (f : Management → Management) : (s.onManagement f).ack = s.ack := rfl
@[simp] theorem State.onManagement_report (f : Management → Management) : (s.onManagement f).report = s.report := rfl
@[simp] theorem State.onManagement_array (f : Management → Management) : (s.onManagement f).array = s.array := rfl
@[simp] theorem State.onManagement_store (f : Management → Management) : (s.onManagement f).store = s.store := rfl
@[simp] theorem State.onManagement_management (f : Management → Management) : (s.onManagement f).management = f s.management := rfl
@[simp] theorem State.onManagement_time (f : Management → Management) : (s.onManagement f).time = s.time := rfl
@[simp] theorem State.onManagement_due (f : Management → Management) : (s.onManagement f).due = s.due := rfl
@[simp] theorem State.onManagement_scans (f : Management → Management) : (s.onManagement f).scans = s.scans := rfl
@[simp] theorem State.onManagement_pending (f : Management → Management) : (s.onManagement f).pending = s.pending := rfl

/-! ### State.onTime -/

@[simp] theorem State.onTime_powered (f : Timebase → Timebase) : (s.onTime f).powered = s.powered := rfl
@[simp] theorem State.onTime_scanning (f : Timebase → Timebase) : (s.onTime f).scanning = s.scanning := rfl
@[simp] theorem State.onTime_rate (f : Timebase → Timebase) : (s.onTime f).rate = s.rate := rfl
@[simp] theorem State.onTime_wake (f : Timebase → Timebase) : (s.onTime f).wake = s.wake := rfl
@[simp] theorem State.onTime_link (f : Timebase → Timebase) : (s.onTime f).link = s.link := rfl
@[simp] theorem State.onTime_settings (f : Timebase → Timebase) : (s.onTime f).settings = s.settings := rfl
@[simp] theorem State.onTime_windows (f : Timebase → Timebase) : (s.onTime f).windows = s.windows := rfl
@[simp] theorem State.onTime_intake (f : Timebase → Timebase) : (s.onTime f).intake = s.intake := rfl
@[simp] theorem State.onTime_index (f : Timebase → Timebase) : (s.onTime f).index = s.index := rfl
@[simp] theorem State.onTime_area (f : Timebase → Timebase) : (s.onTime f).area = s.area := rfl
@[simp] theorem State.onTime_records (f : Timebase → Timebase) : (s.onTime f).records = s.records := rfl
@[simp] theorem State.onTime_ack (f : Timebase → Timebase) : (s.onTime f).ack = s.ack := rfl
@[simp] theorem State.onTime_report (f : Timebase → Timebase) : (s.onTime f).report = s.report := rfl
@[simp] theorem State.onTime_array (f : Timebase → Timebase) : (s.onTime f).array = s.array := rfl
@[simp] theorem State.onTime_store (f : Timebase → Timebase) : (s.onTime f).store = s.store := rfl
@[simp] theorem State.onTime_management (f : Timebase → Timebase) : (s.onTime f).management = s.management := rfl
@[simp] theorem State.onTime_time (f : Timebase → Timebase) : (s.onTime f).time = f s.time := rfl
@[simp] theorem State.onTime_due (f : Timebase → Timebase) : (s.onTime f).due = s.due := rfl
@[simp] theorem State.onTime_scans (f : Timebase → Timebase) : (s.onTime f).scans = s.scans := rfl
@[simp] theorem State.onTime_pending (f : Timebase → Timebase) : (s.onTime f).pending = s.pending := rfl

/-! ### State.onDue -/

@[simp] theorem State.onDue_powered (f : EpochDue → EpochDue) : (s.onDue f).powered = s.powered := rfl
@[simp] theorem State.onDue_scanning (f : EpochDue → EpochDue) : (s.onDue f).scanning = s.scanning := rfl
@[simp] theorem State.onDue_rate (f : EpochDue → EpochDue) : (s.onDue f).rate = s.rate := rfl
@[simp] theorem State.onDue_wake (f : EpochDue → EpochDue) : (s.onDue f).wake = s.wake := rfl
@[simp] theorem State.onDue_link (f : EpochDue → EpochDue) : (s.onDue f).link = s.link := rfl
@[simp] theorem State.onDue_settings (f : EpochDue → EpochDue) : (s.onDue f).settings = s.settings := rfl
@[simp] theorem State.onDue_windows (f : EpochDue → EpochDue) : (s.onDue f).windows = s.windows := rfl
@[simp] theorem State.onDue_intake (f : EpochDue → EpochDue) : (s.onDue f).intake = s.intake := rfl
@[simp] theorem State.onDue_index (f : EpochDue → EpochDue) : (s.onDue f).index = s.index := rfl
@[simp] theorem State.onDue_area (f : EpochDue → EpochDue) : (s.onDue f).area = s.area := rfl
@[simp] theorem State.onDue_records (f : EpochDue → EpochDue) : (s.onDue f).records = s.records := rfl
@[simp] theorem State.onDue_ack (f : EpochDue → EpochDue) : (s.onDue f).ack = s.ack := rfl
@[simp] theorem State.onDue_report (f : EpochDue → EpochDue) : (s.onDue f).report = s.report := rfl
@[simp] theorem State.onDue_array (f : EpochDue → EpochDue) : (s.onDue f).array = s.array := rfl
@[simp] theorem State.onDue_store (f : EpochDue → EpochDue) : (s.onDue f).store = s.store := rfl
@[simp] theorem State.onDue_management (f : EpochDue → EpochDue) : (s.onDue f).management = s.management := rfl
@[simp] theorem State.onDue_time (f : EpochDue → EpochDue) : (s.onDue f).time = s.time := rfl
@[simp] theorem State.onDue_due (f : EpochDue → EpochDue) : (s.onDue f).due = f s.due := rfl
@[simp] theorem State.onDue_scans (f : EpochDue → EpochDue) : (s.onDue f).scans = s.scans := rfl
@[simp] theorem State.onDue_pending (f : EpochDue → EpochDue) : (s.onDue f).pending = s.pending := rfl

/-! ### State.settle -/

@[simp] theorem State.settle_powered : s.settle.powered = s.powered := rfl
@[simp] theorem State.settle_scanning : s.settle.scanning = s.scanning := rfl
@[simp] theorem State.settle_rate : s.settle.rate = s.rate := rfl
@[simp] theorem State.settle_wake : s.settle.wake = s.wakeLevel := rfl
@[simp] theorem State.settle_link :
    s.settle.link = { s.link with m := s.link.m.settle s.settings.marksM, p := s.link.p.settle s.settings.marksP } := rfl
@[simp] theorem State.settle_settings : s.settle.settings = s.settings := rfl
@[simp] theorem State.settle_windows : s.settle.windows = s.windows := rfl
@[simp] theorem State.settle_intake : s.settle.intake = s.intake := rfl
@[simp] theorem State.settle_index : s.settle.index = s.index := rfl
@[simp] theorem State.settle_area : s.settle.area = s.area := rfl
@[simp] theorem State.settle_records : s.settle.records = s.records := rfl
@[simp] theorem State.settle_ack : s.settle.ack = s.ack := rfl
@[simp] theorem State.settle_report : s.settle.report = s.report := rfl
@[simp] theorem State.settle_array : s.settle.array = s.array := rfl
@[simp] theorem State.settle_store :
    s.settle.store = { s.store with erase := s.store.erase.map fun e => e.askedToStop s.programWaiting } := rfl
@[simp] theorem State.settle_management : s.settle.management = s.management := rfl
@[simp] theorem State.settle_time : s.settle.time = s.time := rfl
@[simp] theorem State.settle_due : s.settle.due = s.due := rfl
@[simp] theorem State.settle_scans : s.settle.scans = s.scans := rfl
@[simp] theorem State.settle_pending : s.settle.pending = s.pending := rfl

/-! ### Ports -/

@[simp] theorem PortState.settle_receiver (m : Marks) (p : PortState) : (p.settle m).receiver = p.receiver := rfl
@[simp] theorem PortState.settle_fifo (m : Marks) (p : PortState) : (p.settle m).fifo = p.fifo := rfl
@[simp] theorem PortState.settle_sending (m : Marks) (p : PortState) : (p.settle m).sending = p.sending := rfl
@[simp] theorem PortState.settle_holdIn (m : Marks) (p : PortState) : (p.settle m).holdIn = p.holdIn := rfl
@[simp] theorem PortState.settle_counters (m : Marks) (p : PortState) : (p.settle m).counters = p.counters := rfl
@[simp] theorem PortState.settle_holdOut (m : Marks) (p : PortState) :
    (p.settle m).holdOut = holdLevel m p.fifo.occupancy p.holdOut := rfl

@[simp] theorem Link.port_m (l : Link) : l.port .m = l.m := rfl
@[simp] theorem Link.port_p (l : Link) : l.port .p = l.p := rfl
@[simp] theorem Link.onPort_toP (port : Port) (f : PortState → PortState) (l : Link) : (l.onPort port f).toP = l.toP := by
  cases port <;> rfl
@[simp] theorem Link.onPort_toM (port : Port) (f : PortState → PortState) (l : Link) : (l.onPort port f).toM = l.toM := by
  cases port <;> rfl
@[simp] theorem Link.onPort_lastForwarded (port : Port) (f : PortState → PortState) (l : Link) :
    (l.onPort port f).lastForwarded = l.lastForwarded := by cases port <;> rfl
@[simp] theorem Link.onPort_lastReceipt (port : Port) (f : PortState → PortState) (l : Link) :
    (l.onPort port f).lastReceipt = l.lastReceipt := by cases port <;> rfl
@[simp] theorem Link.port_onPort_same (port : Port) (f : PortState → PortState) (l : Link) :
    (l.onPort port f).port port = f (l.port port) := by cases port <;> rfl
theorem Link.port_onPort_other {port other : Port} (f : PortState → PortState) (l : Link) (h : other ≠ port) :
    (l.onPort port f).port other = l.port other := by cases port <;> cases other <;> simp_all [Link.onPort]

/-! ### The queue of commands -/

@[simp] theorem State.enqueueFront_pending (c : Instr) : (s.enqueueFront c).pending = c :: s.pending := rfl
@[simp] theorem State.withFetchWord_eq (nbits w : Nat) : s.withFetchWord nbits w = s := rfl

end Sys2Proof.Machine
end

