-- ==== Sys2Proof/Laws/Ops.lean ====
section
/-!
SUPPORT. What the shared operations do, once each: events, counters, ordered lists, the update of outputs, the take of an offer, the end
of a record.
-/

namespace Sys2Proof.Machine

/-! ## Events -/

/-- An event whose conditions hold takes place whole and the outputs follow. -/
theorem State.occur_of_ready {s : State} {ready : Bool} {effect : State → State} (hp : s.powered = true) (hr : ready = true) :
    s.occur ready effect = .next (effect s).settle := by simp [State.occur, hp, hr]

/-- An event whose conditions do not hold leaves the state as it is. -/
theorem State.occur_of_not_ready {s : State} {ready : Bool} {effect : State → State} (hr : ready = false) :
    s.occur ready effect = .next s := by simp [State.occur, hr]

/-- All that an event can do. -/
theorem State.occur_cases {s t : State} {ready : Bool} {effect : State → State} (h : s.occur ready effect = .next t) :
    (s.powered = true ∧ ready = true ∧ t = (effect s).settle) ∨ ((s.powered = false ∨ ready = false) ∧ t = s) := by
  unfold State.occur at h
  injection h with h
  cases hp : s.powered <;> cases ready <;> simp_all

/-- Every command answers a next state: no event of the part stops it. -/
theorem exec_isNext (c : Instr) (s : State) : ∃ t, exec c s = .next t := by
  cases c <;> first
    | exact ⟨_, rfl⟩
    | (simp only [exec, execMSorter, execPSorter, execTakeFragment, execSlotProgramEnd, execHeaderAmendEnd, execEraseEnd,
        execProvisioningProgramEnd]
       split <;> exact ⟨_, rfl⟩)

/-! ## Counters -/

@[simp] theorem bump_max : bump 0xFFFF = 0xFFFF := rfl

theorem bump_toNat (c : Half) : (bump c).toNat = min (c.toNat + 1) 65535 := by
  unfold bump
  split
  · next h => subst h; rfl
  · next h =>
    have : c.toNat ≠ 65535 := fun e => h (by apply BitVec.eq_of_toNat_eq; simpa using e)
    have := c.isLt
    have h1 : (1 : Half).toNat = 1 := rfl
    rw [BitVec.toNat_add, h1]
    omega

theorem bumpBy_toNat (n : Nat) (c : Half) : (bumpBy n c).toNat = min (c.toNat + n) 65535 := by
  simp only [bumpBy, BitVec.toNat_ofNat]
  omega

@[simp] theorem bumpBy_zero (c : Half) : bumpBy 0 c = c := by
  apply BitVec.eq_of_toNat_eq
  have := c.isLt
  simp only [bumpBy_toNat]
  omega

/-- A counter incremented once more. -/
theorem bumpBy_succ (n : Nat) (c : Half) : bumpBy (n + 1) c = bumpBy n (bump c) := by
  apply BitVec.eq_of_toNat_eq
  simp only [bumpBy_toNat, bump_toNat]
  omega

/-! ## Ordered lists -/

theorem insertBefore_perm {α : Type} (before : α → α → Bool) (x : α) (l : List α) : (insertBefore before x l).Perm (x :: l) := by
  induction l with
  | nil => exact .refl _
  | cons y ys ih =>
    unfold insertBefore
    split
    · exact (ih.cons y).trans (.swap x y ys)
    · exact .refl _

@[simp] theorem insertBefore_length {α : Type} (before : α → α → Bool) (x : α) (l : List α) :
    (insertBefore before x l).length = l.length + 1 := (insertBefore_perm before x l).length_eq

@[simp] theorem mem_insertBefore {α : Type} (before : α → α → Bool) (x y : α) (l : List α) :
    y ∈ insertBefore before x l ↔ y = x ∨ y ∈ l := by simp [(insertBefore_perm before x l).mem_iff]

/-- An element goes after a prefix of elements that come before it, in front of one that does not. -/
theorem insertBefore_split {α : Type} (before : α → α → Bool) (x : α) (l : List α) :
    ∃ a b, l = a ++ b ∧ insertBefore before x l = a ++ x :: b ∧ (∀ y ∈ a, before y x = true) ∧
      ∀ y ys, b = y :: ys → before y x = false := by
  induction l with
  | nil => exact ⟨[], [], rfl, rfl, by simp, by simp⟩
  | cons y ys ih =>
    obtain ⟨a, b, hl, hi, ha, hb⟩ := ih
    by_cases h : before y x = true
    · exact ⟨y :: a, b, by simp [hl], by simp [insertBefore, h, hi], by simpa [h] using ha, hb⟩
    · exact ⟨[], y :: ys, rfl, by simp [insertBefore, h], by simp, by rintro z zs ⟨⟩; simpa using h⟩

theorem arrange_perm {α : Type} (before : α → α → Bool) (l : List α) : (arrange before l).Perm l := by
  induction l with
  | nil => exact .refl _
  | cons x xs ih => exact (insertBefore_perm before x _).trans (ih.cons x)

theorem leastFrom_mem {α : Type} (before : α → α → Bool) (b : α) (l : List α) : leastFrom before b l ∈ b :: l := by
  induction l generalizing b with
  | nil => simp [leastFrom]
  | cons x xs ih =>
    unfold leastFrom
    split
    · rcases List.mem_cons.mp (ih x) with h | h <;> simp [h]
    · rcases List.mem_cons.mp (ih b) with h | h <;> simp [h]

/-- The least element is one of the list. -/
theorem least_mem {α : Type} {before : α → α → Bool} {l : List α} {x : α} (h : least before l = some x) : x ∈ l := by
  cases l with
  | nil => simp [least] at h
  | cons y ys => cases h; exact leastFrom_mem before y ys

theorem least_eq_none {α : Type} {before : α → α → Bool} {l : List α} : least before l = none ↔ l = [] := by
  cases l <;> simp [least]

/-! ## Classification -/

/-- What a requester keeps of a classification: the first valid window that matches, override windows first (R24). -/
theorem Windows.classify_eq_find (w : Windows) (stream : Half) :
    w.classify stream = (w.override ++ w.ordinary).find? fun x => x.valid && x.matches stream := by
  have h : w.inOrder.map Prod.snd = w.override ++ w.ordinary := by
    simp only [Windows.inOrder, List.map_append, List.map_map]
    exact congr (congrArg HAppend.hAppend (List.zipIdx_map_fst 0 w.override)) (List.zipIdx_map_fst 0 w.ordinary)
  rw [← h, List.find?_map]
  rfl

/-! ## The pending write list -/

/-- All that an offer can do (R176). -/
theorem State.offer_cases (k : Key) (s : State) :
    ((s.store.ramOnly = true ∨ k ∈ s.store.writes) ∧ s.offer k = s) ∨
    (k ∉ s.store.writes ∧ s.store.writes.length < 16 ∧
      s.offer k = s.onStore fun x => { x with writes := x.writes ++ [k] }) ∨
    (16 ≤ s.store.writes.length ∧
      s.offer k = s.countHistory fun c => { c with writeDeferrals := bump c.writeDeferrals }) := by
  unfold State.offer Config.writeListCapacity
  by_cases h : (s.store.ramOnly || s.store.writes.contains k) = true
  · exact .inl ⟨by simpa using h, if_pos h⟩
  · rw [if_neg h]
    have h2 : k ∉ s.store.writes := by simp_all
    by_cases h' : s.store.writes.length < 16
    · exact .inr (.inl ⟨h2, h', if_pos h'⟩)
    · exact .inr (.inr ⟨by omega, if_neg h'⟩)

/-- All that a retry dropped by a removal can bring (R177): the sweep, or nothing. -/
theorem State.afterRemovals_cases (due : Option Key) (s : State) :
    (due.isSome = true ∧ s.store.retry = none ∧ s.afterRemovals due = s.sweepUnpersisted) ∨
    ((due = none ∨ s.store.retry ≠ none) ∧ s.afterRemovals due = s) := by
  unfold State.afterRemovals
  cases due <;> cases h : s.store.retry <;> simp

/-- All that the sweep can do (R177): nothing, or the oldest unpersisted entry off the list joins it. -/
theorem State.sweepUnpersisted_cases (s : State) :
    s.sweepUnpersisted = s ∨
    ∃ e ∈ s.index.entries, e.persisted = false ∧ e.fields.key ∉ s.store.writes ∧ s.store.writes.length < 16 ∧ s.store.ramOnly = false ∧
      s.sweepUnpersisted = s.onStore fun x => { x with writes := x.writes ++ [e.fields.key] } := by
  unfold State.sweepUnpersisted Config.writeListCapacity
  split
  · exact .inl rfl
  · next h =>
    split
    · next e he =>
      have hp := List.find?_some he
      refine .inr ⟨e, List.mem_of_find?_eq_some he, ?_⟩
      simp_all
    · exact .inl rfl

@[simp] theorem Store.takeWrite_writes (k : Key) (x : Store) : (x.takeWrite k).writes = x.writes.erase k := rfl
@[simp] theorem Store.takeWrite_retry (k : Key) (x : Store) : (x.takeWrite k).retry = none := rfl
@[simp] theorem Store.forget_writes (gone : Key → Bool) (x : Store) : (x.forget gone).writes = x.writes.filter fun k => !gone k := rfl
@[simp] theorem Store.forget_retry (gone : Key → Bool) (x : Store) : (x.forget gone).retry = x.retry.filter fun k => !gone k := rfl

/-- All that an epoch's decrement can do (R160). -/
theorem State.takeDecrement_report (s : State) :
    s.takeDecrement.report = { s.report with countdown := s.report.countdown.map fun d => d - 1 } := rfl

@[simp] theorem State.takeDecrement_due (s : State) : s.takeDecrement.due = { s.due with flushCountdown := false } := rfl

/-- All that an epoch's reminder step can do (R145, R146). -/
theorem State.takeStep_eq (s : State) :
    s.takeStep =
      { s with
        ack := { s.ack with step := s.ack.step + 1 }
        records := { s.records with active := s.records.active.map (Record.remindAt (s.ack.step + 1)) }
        due := { s.due with reminderStep := false } } := rfl

@[simp] theorem State.takeStep_due (s : State) : s.takeStep.due = { s.due with reminderStep := false } := rfl
@[simp] theorem State.takeStep_ack (s : State) : s.takeStep.ack = { s.ack with step := s.ack.step + 1 } := rfl
@[simp] theorem State.takeStep_time (s : State) : s.takeStep.time = s.time := rfl
@[simp] theorem State.takeStep_report (s : State) : s.takeStep.report = s.report := rfl

/-! ## Reports and receipts -/

/-- All that a summary can do (R158, R159). -/
theorem State.joinReport_cases (x : Summary) (d : Nat) (s : State) :
    (s.report.queue.length < 32 ∧
      s.joinReport x d = s.onReport fun r => { queue := r.queue ++ [⟨x, d⟩], countdown := r.countdownAfter d }) ∨
    (32 ≤ s.report.queue.length ∧
      s.joinReport x d = s.countRecords fun c => { c with reportOverflow := bump c.reportOverflow }) := by
  unfold State.joinReport Config.reportCapacity
  by_cases h : s.report.queue.length < 32
  · exact .inl ⟨h, if_pos h⟩
  · exact .inr ⟨by omega, if_neg h⟩

/-- All that a receipt can do (R154). -/
theorem State.queueReceipt_cases (r : Record) (k : ReceiptKind) (s : State) :
    (s.ack.receipts.length < 16 ∧
      s.queueReceipt r k = s.onAck fun a => { a with receipts := a.receipts ++ [s.receiptOf r k] }) ∨
    (16 ≤ s.ack.receipts.length ∧
      s.queueReceipt r k = s.countRecords fun c => { c with receiptsDropped := bump c.receiptsDropped }) := by
  unfold State.queueReceipt Config.receiptCapacity
  by_cases h : s.ack.receipts.length < 16
  · exact .inl ⟨h, if_pos h⟩
  · exact .inr ⟨by omega, if_neg h⟩

/-- A record leaves both lists and the rest of the record unit stands. -/
@[simp] theorem Records.unlist_active (x : Record) (r : Records) :
    (r.unlist x).active = r.active.filter fun y => y.handle != x.handle := rfl
@[simp] theorem Records.unlist_held (x : Record) (r : Records) :
    (r.unlist x).held = r.held.filter fun y => y.handle != x.handle := rfl
@[simp] theorem Records.unlist_latched (x : Record) (r : Records) : (r.unlist x).latched = r.latched := rfl
@[simp] theorem Records.unlist_free (x : Record) (r : Records) : (r.unlist x).free = r.free := rfl
@[simp] theorem Records.freeSlot_active (h : Handle) (r : Records) : (r.freeSlot h).active = r.active := rfl
@[simp] theorem Records.freeSlot_held (h : Handle) (r : Records) : (r.freeSlot h).held = r.held := rfl
@[simp] theorem Records.freeSlot_latched (h : Handle) (r : Records) : (r.freeSlot h).latched = r.latched := rfl
@[simp] theorem Records.freeSlot_free (h : Handle) (r : Records) : (r.freeSlot h).free = r.free ++ [h.slot] := rfl

end Sys2Proof.Machine
end

