-- ==== Sys2Proof/Laws/Frames.lean ====
section
/-!
SUPPORT. Lemmas on frames: what the outputs' update keeps, and how frames join.
-/

namespace Sys2Proof.Machine

theorem Piece.same_refl (x : Piece) (s : State) : x.same s s := by cases x <;> simp [Piece.same]

theorem OnlyChanges.refl (xs : List Piece) (s : State) : OnlyChanges xs s s := fun x _ => x.same_refl s

theorem OnlyChanges.mono {xs ys : List Piece} {s t : State} (h : OnlyChanges xs s t) (hs : ∀ x ∈ xs, x ∈ ys) : OnlyChanges ys s t :=
  fun x hx => h x fun hm => hx (hs x hm)

theorem OnlyChanges.trans {xs : List Piece} {s t u : State} (h : OnlyChanges xs s t) (h' : OnlyChanges xs t u) :
    OnlyChanges xs s u := by
  intro x hx
  have a := h x hx
  have b := h' x hx
  cases x <;> simp_all [Piece.same]

theorem Erase.askedToStop_inner (e : Erase) (w : Bool) :
    (if (e.askedToStop w).condition = .suspending then EraseCondition.running else (e.askedToStop w).condition) =
      (if e.condition = .suspending then .running else e.condition) ∧
    (e.askedToStop w).sector = e.sector ∧ (e.askedToStop w).minimumRun = e.minimumRun ∧
    (e.askedToStop w).ranMicros = e.ranMicros := by
  unfold Erase.askedToStop
  split <;> simp_all

/-- The update of the outputs changes no other piece. -/
theorem OnlyChanges.settle (s : State) : OnlyChanges [.outputs] s s.settle := by
  intro x hx
  cases x <;> simp_all [Piece.same]
  case port side => cases side <;> simp [PortState.inner]
  case store =>
    cases h : s.store.erase with
    | none => simp [Store.inner, h]
    | some e =>
      obtain ⟨a, b, c, d⟩ := e.askedToStop_inner s.programWaiting
      simp only [Store.inner, h, Option.map_some, a]
      cases e
      simp_all

/-- The frame of an event is that of its effect, with the outputs. -/
theorem OnlyChanges.settled {xs : List Piece} {s t : State} (h : OnlyChanges xs s t) (ho : Piece.outputs ∈ xs) :
    OnlyChanges xs s t.settle :=
  h.trans ((OnlyChanges.settle t).mono (by simpa using ho))

@[simp] theorem PortState.inner_settle (m : Marks) (p : PortState) : (p.settle m).inner = p.inner := rfl

/-- The inside of a port that an event on it leaves. -/
theorem State.inner_onPort (s : State) (port : Port) (f : PortState → PortState) :
    ((s.onPort port f).settle.link.port port).inner = (f (s.link.port port)).inner := by
  cases port <;> rfl

/-- An event on one port changes no other piece but the outputs. -/
theorem OnlyChanges.onPort (s : State) (port : Port) (f : PortState → PortState) :
    OnlyChanges [.port port, .outputs] s (s.onPort port f) := by
  intro x hx
  cases x <;> simp_all [Piece.same, State.onPort]
  case port side => rw [Link.port_onPort_other f s.link hx]

end Sys2Proof.Machine
end

