-- ==== Sys2Proof/Tests/Slice0.lean ====
section
/-!
SUPPORT. Our own tests, each expected value taken from the spec, and for each statement with hypotheses a witness: a concrete state and
operands that meet them, clause by clause.
-/

namespace Sys2Proof.Tests

open Sys2Proof Sys2Proof.Machine

-- The kernel evaluates these theorems one after another, so that their threads do not pile up.
set_option Elab.async false

/-! ## WellFormed refuses what no event of the part is -/

theorem test_spares_refused :
    (Instr.powerOnReset 0 5).wellFormed = false ∧ (Instr.pinReset 0 5).wellFormed = false ∧
      (Instr.reset 0 .passed 5).wellFormed = false ∧ (Instr.pinReset 0 4).wellFormed = true := by decide

theorem test_stop_refused :
    (Instr.eraseSuspend 24000).wellFormed = false ∧ (Instr.eraseSuspend 23999).wellFormed = true := by decide

/-! ## Values the spec gives -/

/-- R2: the nine bytes 0x31 to 0x39 give 0x29B1. -/
theorem test_check : checkOf [0x31, 0x32, 0x33, 0x34, 0x35, 0x36, 0x37, 0x38, 0x39] = 0x29B1 := by decide +kernel

/-- The area and the position of the worked case of section 5.6. -/
def caseArea : List Vertex :=
  [⟨40000000, -75000000⟩, ⟨40000000, -74900000⟩, ⟨40100000, -74900000⟩, ⟨40100000, -75000000⟩]

def casePosition (lat : Int) : Position := ⟨.fresh, lat, -74950000, 800, 0⟩

theorem test_margins : latMargin 800 = 7200 ∧ lonMargin 800 40105000 = 11250 := by decide +kernel

theorem test_square : (casePosition 40105000).square = ⟨40097800, 40112200, -74961250, -74938750⟩ := by decide +kernel

/-- Sections 5.6 and 11.7. -/
theorem test_verdicts :
    (casePosition 40105000).verdict (some caseArea) = .edge ∧ (casePosition 40300000).verdict (some caseArea) = .outside ∧
      (casePosition 40050000).verdict (some caseArea) = .inside ∧
      { casePosition 40050000 with state := .stale }.verdict (some caseArea) = .unknown ∧
      (casePosition 40050000).verdict none = .noArea := by decide +kernel

/-- R123 and sections 11.5, 11.6: 222 bytes are two parts, 500 bytes three, 1440 bytes six. -/
theorem test_partCounts : partCount 192 = 1 ∧ partCount 222 = 2 ∧ partCount 500 = 3 ∧ partCount 1440 = 6 := by decide

/-- Section 11.7: (5,600 − 2,460 + 9) div 10 = 314. -/
theorem test_lifetimeRemaining : lifetimeRemaining 5600 2460 = 314 := by decide

/-- R72: 1 to 7 ahead modulo 16. -/
theorem test_revisions :
    newerRevision 2 1 = true ∧ newerRevision 0 15 = true ∧ newerRevision 8 1 = true ∧ newerRevision 9 1 = false ∧
      newerRevision 1 1 = false := by decide

/-- R171: a sequence is newer across the wrap. -/
theorem test_sequences : newerSequence 0 65535 = true ∧ newerSequence 32768 0 = false ∧ newerSequence 32767 0 = true := by decide

/-- R10: a low mark not below its high mark becomes the high mark less 256. -/
theorem test_marks : readMarks 0 0 = ⟨256, 0⟩ ∧ readMarks 255 8 = ⟨2048, 1792⟩ ∧ readMarks 6 2 = ⟨1536, 512⟩ := by decide +kernel

/-- R146: codes 1 to 6 give periods 1, 2, 4, 8, 16, 32. -/
theorem test_periods : [0, 1, 2, 3, 4, 5, 6].map reminderPeriod = [0, 1, 2, 4, 8, 16, 32] := by decide

/-- R204: a part with no supply, whose array is as made, stands after a power-on reset as the reset state says, but for the scan's number. -/
theorem test_firstPowerOn :
    (match exec (.powerOnReset 0 0) { State.reset with powered := false, array := NvArray.made, store := .idle } with
     | .next t => decide (t = { State.reset with scans := 1 })
     | _ => false) = true := by decide +kernel

/-- Section 2.2: the window table of the precedence example, and the streams it classifies. -/
theorem test_precedence :
    let window (valid : Bool) (base mask : Half) (cls : AlertClass) : Window :=
      { Window.cleared with valid := valid, base := base, mask := mask, attrs := { Window.cleared.attrs with cls := cls } }
    let ws : Windows :=
      { override := [window true 0x1100 0xFF00 .national]
        ordinary :=
          [window true 0x1100 0xFFF0 .severe, window true 0x1000 0xF000 .advisory, window false 0x2000 0xF000 .extreme,
            window true 0 0 .test, window true 0x2000 0xF000 .local] }
    [0x1105, 0x110A, 0x1234, 0x2345, 0x0042].map (fun x => (ws.answer x).map fun y => (y.1, y.2.attrs.cls)) =
      [some (.override 0, .national), some (.override 0, .national), some (.ordinary 1, .advisory), some (.ordinary 3, .test),
        some (.ordinary 3, .test)] := by decide +kernel

/-! ## States and records for the witnesses -/

/-- The part after its first scan. -/
def on : State := { State.reset with scanning := false }

/-- The part with a request at the head of its queue. -/
def asking (p : List Byte) : State := { on with management := { requests := [p], replies := [], reserved := false } }

theorem asking_asked (p : List Byte) : (asking p).asked p [] := ⟨rfl, rfl, by show (0 + if false = true then 1 else 0) < 4; decide⟩

def attrs : Attributes :=
  { cls := .severe, muted := false, reportDelay := 3, periodCode := 1, reminderCount := 2, edgePolicy := .hold,
    unknownPolicy := .hold, receiptMode := .both, defaultLifetime := 12 }

/-- A window that claims every stream. -/
def catchAll : Window := { valid := true, base := 0, mask := 0, attrs := attrs, horizon := 24 }

def key : Key := { stream := 0x1112, issue := 5, language := 0x656E, scope := .nation }

def record (slot : Nat) (state : RecordState) : Record :=
  { handle := some ⟨0, slot⟩, key := key, zone := 1, cell := 2, revision := 1, attrs := attrs, text := [0x41], area := some caseArea,
    verdict := some .unknown, lifetimeEnd := 0, state := state, undelivered := state == .waiting, redeliver := none, reminder := none,
    remindersLeft := 2, deliveryStep := 0, ackDeferred := false, latched := none, entered := 0 }

/-- A record unit with one active record. -/
def single (r : Record) (d : Option Delivery) : Records :=
  { Records.reset with free := List.range' 1 23, active := [r], delivery := d, entries := 1 }

/-- A record unit with one held record. -/
def holding (r : Record) : Records := { Records.reset with free := List.range' 1 23, held := [r] }

/-- A record unit with one latched record. -/
def latching (r : Record) (d : Delivery) : Records :=
  { Records.reset with free := List.range' 1 23, latched := some r, delivery := some d }

theorem single_ordered (r : Record) (d : Option Delivery) (hh : r.handle = some ⟨0, 0⟩) (he : r.entered = 0)
    (hs : r.state ≠ .held) (hl : r.latched = none)
    (hd : match d with
      | none => r.state ≠ .delivering
      | some x => x.left ≠ [] ∧ x.slot = 0 ∧ r.state = .delivering) : (single r d).Ordered where
  handles := by simp [single, Records.live, Records.reset, hh]
  slots := by simp only [single, Records.live, Records.reset]; simp [hh]; decide
  generations := by
    refine ⟨rfl, ?_⟩
    intro x hx h e
    simp [single, Records.live, Records.reset] at hx
    subst hx
    rw [hh] at e
    cases e
    rfl
  active := by simp [single, Records.reset]
  held := by simp [single, Records.reset]
  order := by simp [single]
  entered := by simp [single, he]
  heldStates := by simp [single, Records.reset]
  activeStates := by simp [single, hs, hl]
  latchedState := by simp [single, Records.reset]
  sequence := by
    cases d with
    | none => simpa [single, Records.reset] using hd
    | some x =>
      obtain ⟨a, b, c⟩ := hd
      refine ⟨a, r, ?_, ?_⟩
      · simp [single, Records.reset, c]
      · simp [hh, b]

theorem holding_ordered (r : Record) (hh : r.handle = some ⟨0, 0⟩) (hs : r.state = .held) (hl : r.latched = none) :
    (holding r).Ordered where
  handles := by simp [holding, Records.live, Records.reset, hh]
  slots := by simp only [holding, Records.live, Records.reset]; simp [hh]; decide
  generations := by
    refine ⟨rfl, ?_⟩
    intro x hx h e
    simp [holding, Records.live, Records.reset] at hx
    subst hx
    rw [hh] at e
    cases e
    rfl
  active := by simp [holding, Records.reset]
  held := by simp [holding]
  order := by simp [holding, Records.reset]
  entered := by simp [holding, Records.reset]
  heldStates := by simp [holding, hs, hl]
  activeStates := by simp [holding, Records.reset]
  latchedState := by simp [holding, Records.reset]
  sequence := by simp [holding, Records.reset]

theorem latching_ordered (r : Record) (d : Delivery) (hh : r.handle = some ⟨0, 0⟩) (hs : r.state = .delivering)
    (hl : r.latched.isSome = true) (hd : d.left ≠ [] ∧ d.slot = 0) : (latching r d).Ordered where
  handles := by simp [latching, Records.live, Records.reset, hh]
  slots := by simp only [latching, Records.live, Records.reset]; simp [hh]; decide
  generations := by
    refine ⟨rfl, ?_⟩
    intro x hx h e
    simp [latching, Records.live, Records.reset] at hx
    subst hx
    rw [hh] at e
    cases e
    rfl
  active := by simp [latching, Records.reset]
  held := by simp [latching, Records.reset]
  order := by simp [latching, Records.reset]
  entered := by simp [latching, Records.reset]
  heldStates := by simp [latching, Records.reset]
  activeStates := by simp [latching, Records.reset]
  latchedState := by simp [latching, hs]; simpa using hl
  sequence := ⟨hd.1, r, by simp [latching, Records.reset, hs], by simp [hh, hd.2]⟩

/-- A record unit without a sequence is in order when its concrete lists are. -/
theorem still_ordered (r : Records) (hd : r.delivery = none) (hl : r.latched = none)
    (h : (∀ x ∈ r.live, x.handle.isSome = true) ∧
      (r.free ++ r.live.filterMap fun x => x.handle.map Handle.slot).Perm (List.range 24) ∧
      (r.generations.length = 24 ∧ ∀ x ∈ r.live, ∀ h ∈ x.handle, r.generations.getD h.slot 0 = h.generation) ∧
      r.active.length ≤ 16 ∧ r.held.length ≤ 8 ∧
      (r.active.Pairwise fun x y =>
        x.attrs.cls.rank < y.attrs.cls.rank ∨ (x.attrs.cls.rank = y.attrs.cls.rank ∧ x.entered < y.entered)) ∧
      (∀ x ∈ r.active, x.entered < r.entries) ∧ (∀ x ∈ r.held, x.state = .held ∧ x.latched = none) ∧
      ∀ x ∈ r.active, x.state ≠ .held ∧ x.state ≠ .delivering ∧ x.latched = none) : r.Ordered where
  handles := h.1
  slots := h.2.1
  generations := h.2.2.1
  active := by simpa [hl] using h.2.2.2.1
  held := h.2.2.2.2.1
  order := h.2.2.2.2.2.1
  entered := h.2.2.2.2.2.2.1
  heldStates := h.2.2.2.2.2.2.2.1
  activeStates x hx := ⟨(h.2.2.2.2.2.2.2.2 x hx).1, (h.2.2.2.2.2.2.2.2 x hx).2.2⟩
  latchedState x hx := by simp [hl] at hx
  sequence := by rw [hd]; exact ⟨hl, fun x hx => (h.2.2.2.2.2.2.2.2 x hx).2.1⟩

theorem waiting_ordered : (single (record 0 .waiting) none).Ordered :=
  single_ordered _ _ rfl rfl (by decide) rfl (by decide)

theorem delivered_ordered : (single (record 0 .delivered) none).Ordered :=
  single_ordered _ _ rfl rfl (by decide) rfl (by decide)

theorem delivering_ordered : (single (record 0 .delivering) (some ⟨0, 2, [2]⟩)).Ordered :=
  single_ordered _ _ rfl rfl (by decide) rfl (by decide)

theorem held_ordered : (holding (record 0 .held)).Ordered := holding_ordered _ rfl rfl rfl

def latchedRecord : Record := { record 0 .delivering with latched := some .withdrawn }

theorem latched_ordered : (latching latchedRecord ⟨0, 2, [2]⟩).Ordered :=
  latching_ordered _ _ rfl rfl rfl (by decide)

/-! ## Witnesses: link path -/

/-- The part with the M-port receiver in a state. -/
def receiving (r : Receiver) : State := { on with link := { on.link with m := { on.link.m with receiver := r } } }

def incoming (length count : Nat) (room : Bool) (check : Half) : Incoming :=
  { channel := 0x10, length := length, room := room, check := check, count := count, kept := [] }

theorem witness_byteReceived :
    on.powered = true ∧ (on.link.port .m).receiver.plain = true ∧
      ((receiving (.header [0xB0])).link.port .m).receiver.plain = true ∧
      ((receiving (.payload (incoming 1 0 true 0))).link.port .m).receiver.plain = true ∧
      ((receiving (.payload (incoming 2 0 false 0))).link.port .m).receiver.plain = true ∧
      ((receiving (.check (incoming 0 0 true 0) none)).link.port .m).receiver.plain = true := by decide

/-- Lengths 512 and 513, and a FIFO that just has room, or just has not. -/
theorem witness_headerEnd :
    let s := receiving (.header [0x10, 2])
    s.powered = true ∧ (s.link.port .m).receiver = .header [0x10, 2] ∧ ((2 : Byte) ++ (0 : Byte)).toNat = 512 ∧
      ((2 : Byte) ++ (1 : Byte)).toNat = 513 ∧ (s.link.port .m).inner.fifo.occupancy + (512 + 6) ≤ 2048 ∧
      2048 < (⟨[], 1531⟩ : Fifo).occupancy + (512 + 6) ∧ (⟨[], 1530⟩ : Fifo).occupancy + (512 + 6) = 2048 := by decide

theorem witness_frameEnd :
    let s (room : Bool) := receiving (.check (incoming 0 0 room 0x1234) (some 0x12))
    (s true).powered = true ∧ ((s true).link.port .m).receiver = .check (incoming 0 0 true 0x1234) (some 0x12) ∧
      ((s false).link.port .m).receiver = .check (incoming 0 0 false 0x1234) (some 0x12) ∧
      (0x12 : Byte) ++ (0x34 : Byte) = (0x1234 : Half) ∧ (0x12 : Byte) ++ (0x35 : Byte) ≠ (0x1234 : Half) := by decide

theorem witness_gapError :
    (receiving (.header [])).powered = true ∧ ((receiving (.header [])).link.port .m).receiver ≠ .hunt ∧
      (on.link.port .m).receiver = .hunt := by decide

/-- The part with a frame at the head of both receive FIFOs. -/
def sorting (channel : Byte) : State :=
  let f : PortState → PortState := fun p => { p with fifo := ⟨[⟨channel, [1]⟩], 0⟩ }
  { on with link := { on.link with m := f on.link.m, p := f on.link.p } }

theorem witness_sorters :
    (sorting 0xB0).powered = true ∧ (sorting 0xB0).link.m.fifo.frames = [⟨0xB0, [1]⟩] ∧ (sorting 0xB0).intake.queue.length < 16 ∧
      (sorting 0xB8).link.p.fifo.frames = [⟨0xB8, [1]⟩] ∧ (sorting 0xB8).management.requests.length < 4 ∧
      reservedChannel 0xBF = true ∧ reservedChannel 0xC0 = false ∧ reservedChannel 0xAF = false ∧
      framesSize (sorting 0x10).link.toP + (1 + 6) ≤ 4096 ∧ framesSize (sorting 0x10).link.toM + (1 + 6) ≤ 2048 := by decide

/-- Full destinations, on which the sorters stall. -/
def full (channel : Byte) : State :=
  let big : Frame := ⟨0x10, List.replicate 506 0⟩
  { sorting channel with
    intake := { Intake.reset with queue := List.replicate 16 [] }
    management := { Management.reset with requests := List.replicate 4 [0, 0] }
    link := { (sorting channel).link with toP := List.replicate 8 big, toM := List.replicate 4 big } }

theorem witness_sorters_stall :
    (full 0xB0).link.m.fifo.frames = [⟨0xB0, [1]⟩] ∧ 16 ≤ (full 0xB0).intake.queue.length ∧
      4 ≤ (full 0xB8).management.requests.length ∧ 4096 < framesSize (full 0x10).link.toP + (1 + 6) ∧
      2048 < framesSize (full 0x10).link.toM + (1 + 6) := by decide +kernel

theorem witness_holdInput :
    { on with link := { on.link with p := { on.link.p with holdIn := true } } }.link.p.holdIn = true ∧
      { on with link := { on.link with m := { on.link.m with holdIn := true } } }.link.m.holdIn = true := by decide

/-- The part with frames being sent on both ports. -/
def sending (source : Source) : State :=
  let f : PortState → PortState := fun p => { p with sending := some ⟨source, ⟨0x10, []⟩⟩ }
  { on with link := { on.link with m := f on.link.m, p := f on.link.p } }

theorem witness_frameSent :
    (sending .forwarded).powered = true ∧ ((sending .forwarded).link.port .p).sending = some ⟨.forwarded, ⟨0x10, []⟩⟩ ∧
      ((sending .receipt).link.port .m).sending = some ⟨.receipt, ⟨0x10, []⟩⟩ ∧
      ((sending .reply).link.port .p).sending = some ⟨.reply, ⟨0x10, []⟩⟩ := by decide

def receipt : Receipt := on.receiptOf (record 0 .delivered) .delivered

/-- Receipts and forwarded frames waiting for the M-port, with the last-receipt flag. -/
def alternating (receipts : List Receipt) (frames : List Frame) (flag : Bool) : State :=
  { on with ack := { step := 0, receipts := receipts }, link := { on.link with toM := frames, lastReceipt := flag } }

theorem witness_mPortArbiter :
    let f : Frame := ⟨0x10, []⟩
    (alternating [receipt] [] true).powered = true ∧ (alternating [receipt] [] true).link.m.sending = none ∧
      (alternating [receipt] [] true).link.m.holdIn = false ∧ (alternating [receipt] [] true).link.toM = [] ∧
      (alternating [receipt] [f] false).ack.receipts = [receipt] ∧ (alternating [receipt] [f] false).link.lastReceipt = false ∧
      (alternating [receipt] [f] true).link.toM = [f] ∧ (alternating [receipt] [f] true).link.lastReceipt = true ∧
      (alternating [] [f] false).ack.receipts = [] ∧ (alternating [] [] false).link.toM = [] := by decide +kernel

/-- A pending report frame. -/
def reporting : State :=
  { on with report := { queue := [⟨on.summaryOf (record 0 .delivered) .expired, 0⟩], countdown := some 0 } }

theorem witness_pPortArbiter :
    let forwarding : State := { on with link := { on.link with toP := [⟨0x10, []⟩] } }
    let replying : State := { on with management := { Management.reset with replies := [[1, 2, 0]] } }
    on.powered = true ∧ on.link.p.sending = none ∧ on.link.p.holdIn = false ∧ on.records.delivery = none ∧
      replying.management.replies = [[1, 2, 0]] ∧ forwarding.link.toP = [⟨0x10, []⟩] ∧ forwarding.link.lastForwarded = false ∧
      forwarding.management.replies = [] ∧ forwarding.deliveryWork = false ∧ forwarding.reportPending = false ∧
      reporting.management.replies = [] ∧ reporting.link.toP = [] ∧ reporting.deliveryWork = false ∧
      reporting.report.queue ≠ [] ∧ reporting.report.countdown = some 0 ∧ on.reportPending = false ∧
      (record 0 .delivered).handle = some ⟨0, 0⟩ ∧ { record 0 .waiting with handle := none }.handle = none := by decide +kernel

/-! ## Witnesses: deliveries -/

def unitOf (r : Records) : State := { on with records := r }

theorem witness_deliveryBegins :
    let long : Record := { record 0 .waiting with text := List.replicate 193 0x41 }
    let s (r : Record) := unitOf (single r none)
    (s long).records.Ordered ∧ (s (record 0 .waiting)).records.Ordered ∧
      (s long).powered = true ∧ (s long).link.p.sending = none ∧ (s long).link.p.holdIn = false ∧
      (s long).records.delivery = none ∧ (s long).management.replies = [] ∧ (s long).link.toP = [] ∧
      (s long).records.active.find? Record.wantsDelivery = some long ∧ long.handle = some ⟨0, 0⟩ ∧ 192 < long.text.length ∧
      (s (record 0 .waiting)).records.active.find? Record.wantsDelivery = some (record 0 .waiting) ∧
      (record 0 .waiting).text.length ≤ 192 ∧ (record 0 .waiting).redeliver = none :=
  ⟨single_ordered _ _ rfl rfl (by decide) rfl (by decide), waiting_ordered, by decide +kernel⟩

theorem witness_sequence :
    let s := unitOf (single (record 0 .delivering) (some ⟨0, 2, [2]⟩))
    let l := unitOf (latching latchedRecord ⟨0, 2, [2]⟩)
    s.records.Ordered ∧ l.records.Ordered ∧ s.powered = true ∧ s.link.p.sending = none ∧ s.link.p.holdIn = false ∧
      s.records.delivery = some ⟨0, 2, [2]⟩ ∧ (record 0 .delivering).state = .delivering ∧
      record 0 .delivering ∈ s.records.active ++ s.records.latched.toList ∧ (record 0 .delivering).latched = none ∧
      l.records.delivery = some ⟨0, 2, [2]⟩ ∧ latchedRecord ∈ l.records.active ++ l.records.latched.toList ∧
      latchedRecord.latched = some .withdrawn ∧ latchedRecord.state = .delivering ∧ latchedRecord.ackDeferred = false :=
  ⟨delivering_ordered, latched_ordered, by decide +kernel⟩

/-- A first delivery that an acknowledgement has latched. -/
def acknowledgedRecord : Record :=
  { record 0 .delivering with latched := some .acknowledged, ackDeferred := true, undelivered := true }

theorem witness_sequence_acknowledged :
    let s := unitOf (latching acknowledgedRecord ⟨0, 2, [2]⟩)
    s.records.Ordered ∧ s.records.delivery = some ⟨0, 2, [2]⟩ ∧ acknowledgedRecord ∈ s.records.active ++ s.records.latched.toList ∧
      acknowledgedRecord.state = .delivering ∧ acknowledgedRecord.latched = some .acknowledged ∧ acknowledgedRecord.ackDeferred = true :=
  ⟨latching_ordered _ _ rfl rfl rfl (by decide), by decide +kernel⟩

/-- R150, R151: its last frame queues a DELIVERED receipt and then an ACKNOWLEDGED one. -/
theorem test_latchedReceipts :
    ∃ t, exec .pPortArbiter (unitOf (latching acknowledgedRecord ⟨0, 2, [2]⟩)) = .next t ∧
      t.ack.receipts.map Receipt.kind = [.delivered, .acknowledged] ∧ t.report.countdown = some 3 := ⟨_, rfl, by decide +kernel⟩

/-- A delivered record whose reminder is pending. -/
def reminded : Record := { record 0 .delivered with reminder := some 0 }

/-- A redelivery asked for while the record's reminder is pending (log entry 32), and a full receipt queue. -/
theorem witness_deliveryBegins_again :
    let r : Record := { reminded with redeliver := some 1 }
    let s := unitOf (single r none)
    let f : State := { unitOf (single (record 0 .waiting) none) with ack := { step := 0, receipts := List.replicate 16 receipt } }
    s.records.Ordered ∧ s.powered = true ∧ s.link.p.sending = none ∧ s.link.p.holdIn = false ∧ s.records.delivery = none ∧
      s.management.replies = [] ∧ s.link.toP = [] ∧ s.records.active.find? Record.wantsDelivery = some r ∧ r.handle = some ⟨0, 0⟩ ∧
      r.redeliver = some 1 ∧ r.reminder = some 0 ∧ 1 ≤ partCount r.text.length ∧ r.text.length ≤ 192 ∧ r.undelivered = false ∧
      f.records.active.find? Record.wantsDelivery = some (record 0 .waiting) ∧ (record 0 .waiting).undelivered = true ∧
      attrs.receiptMode = .both ∧ 16 ≤ f.ack.receipts.length :=
  ⟨single_ordered _ _ rfl rfl (by decide) rfl (by decide), by decide +kernel⟩

theorem witness_remind :
    let s := unitOf (single reminded none)
    s.records.Ordered ∧ s.powered = true ∧ s.link.p.sending = none ∧ s.link.p.holdIn = false ∧ s.records.delivery = none ∧
      s.management.replies = [] ∧ s.link.toP = [] ∧ (∀ x ∈ s.records.active, x.wantsDelivery = false) ∧
      s.records.active = [] ++ reminded :: [] ∧ reminded.reminder = some 0 :=
  ⟨single_ordered _ _ rfl rfl (by decide) rfl (by decide), by decide +kernel⟩

theorem witness_parts : (record 0 .delivered).handle = some ⟨0, 0⟩ ∧ (record 0 .delivered).verdict = some .unknown := by decide

/-! ## Witnesses: fragments -/

/-- A fragment's payload: `issueLow` holds the low issue bits, reach, kind and area flag; `part` index and total. -/
def payload (issueLow revision part : Byte) (digest : List Byte) : List Byte :=
  [0, 1, 0, 0, 0, 2, 0x11, 0x12, 0, issueLow, revision, part, 0x65, 0x6E] ++ digest ++ [12, 1, 0x41]

/-- The fragment of that payload: NATION reach, no area, one byte of text. -/
def fragment (withdraw : Bool) (revision : BitVec 4) (index total : Nat) (digest : Half) : Fragment :=
  { key := key, zone := 1, cell := 2, withdraw := withdraw, revision := revision, index := index, total := total, digest := digest,
    lifetimeCode := 12, text := [0x41], trailer := none }

/-- The part with a fragment waiting and a window that claims every stream. -/
def hearing (p : List Byte) : State :=
  { on with
    intake := { Intake.reset with queue := [p] }
    windows := { Windows.reset with ordinary := [catchAll] } }

/-- The context of the one-part notice. -/
def completed : Context :=
  { key := key, revision := 1, digest := 0xB915, lifetimeCode := 12, rank := 2, errors := 0, sequence := 0, progress := 0, zone := 1,
    cell := 2, parts := [some [0x41]], trailer := none }

/-- The entry of the key. -/
def entry (state : EntryState) (revision : BitVec 4) (expiry : Word) : Entry :=
  { fields :=
      { key := key, revision := revision, state := state, time := 0, horizon := 24, timeUnset := true, expiry := expiry },
    persisted := true, location := some (0, 0) }

def withEntry (e : Entry) (s : State) : State := { s with index := { Index.reset with entries := [e] } }

theorem test_fragmentRead :
    readFragment (payload 0x58 1 0x11 [0xB9, 0x15]) = some (fragment false 1 1 1 0xB915) ∧
      readFragment (payload 0x5A 1 0x11 [0, 0]) = some (fragment true 1 1 1 0) ∧
      readFragment (payload 0x5C 1 0x11 [0, 0]) = none ∧ readFragment (payload 0x58 0x11 0x11 [0, 0]) = none ∧
      readFragment (payload 0x58 1 0x21 [0, 0]) = none := by decide +kernel

/-- R46: the last part of an alert with an area carries its vertices. -/
theorem test_areaRead :
    (readFragment (payload 0x59 1 0x11 [0, 0] ++ [3] ++
        ([40000000, -75000000, 40100000, -75000000, 40000000, -74900000].flatMap fun x => wordBytes (BitVec.ofInt 32 x)))).map
      Fragment.trailer = some (some [⟨40000000, -75000000⟩, ⟨40100000, -75000000⟩, ⟨40000000, -74900000⟩]) := by decide +kernel

theorem witness_takeFragment_discards :
    let p := payload 0x58 1 0x11 [0xB9, 0x15]
    (hearing [0]).powered = true ∧ (hearing [0]).scanning = false ∧ (hearing [0]).intake.completing = none ∧
      (hearing [0]).intake.queue = [[0]] ∧ readFragment [0] = none ∧
      readFragment p = some (fragment false 1 1 1 0xB915) ∧ Windows.reset.classify 0x1112 = none ∧
      (hearing p).settings.unlistedAction = .discard ∧ (hearing p).windows.classify 0x1112 = some catchAll ∧
      (withEntry (entry .noticeSeen 1 0) (hearing p)).index.find key = some (entry .noticeSeen 1 0) ∧
      newerRevision 1 1 = false ∧ framesSize (full 0).link.toP + (19 + 6) > 4096 := by decide +kernel

theorem witness_takeFragment_collects :
    let s := hearing (payload 0x58 1 0x12 [0, 0])
    let f := fragment false 1 1 2 0
    let c : Context :=
      { key := key, revision := 1, digest := 0, lifetimeCode := 12, rank := 2, errors := 0, sequence := 0, progress := 0, zone := 1,
        cell := 2, parts := [none, none, none], trailer := none }
    let s2 (parts : List (Option (List Byte))) : State :=
      { s with intake := { s.intake with contexts := [some { c with parts := parts }] } }
    s.powered = true ∧ s.scanning = false ∧ s.intake.completing = none ∧ readFragment (payload 0x58 1 0x12 [0, 0]) = some f ∧
      s.windows.classify f.key.stream = some catchAll ∧ f.withdraw = false ∧ s.index.resolveNotice key 1 ≠ .duplicate ∧
      s.intake.lookup key 1 = none ∧ s.intake.contexts.findIdx? Option.isNone = some 0 ∧ 2 ≤ f.total ∧
      (s2 [none, none]).intake.lookup key 1 = some (0, { c with parts := [none, none] }) ∧
      (([none, none] : List (Option (List Byte))).set 0 (some [0x41])).all Option.isSome = false ∧
      (s2 [some [1], none]).intake.lookup key 1 = some (0, { c with parts := [some [1], none] }) := by decide +kernel

/-- Eight contexts of another alert, the first of rank `first` and the others of rank `rank`, allocated in order. -/
def crowded (first rank : Nat) : List (Option Context) :=
  (List.range 8).map fun i => some
    { key := { key with issue := 9 }, revision := 1, digest := 0, lifetimeCode := 12, rank := if i = 0 then first else rank, errors := 0,
      sequence := BitVec.ofNat 16 i, progress := 0, zone := 1, cell := 2, parts := [none, none], trailer := none }

theorem contexts_all {l : List (Option Context)} {P : Nat → Context → Prop} (h : ∀ x ∈ l.zipIdx, ∀ c ∈ x.1, P x.2 c) (m : Nat) (d : Context)
    (hm : l[m]? = some (some d)) : P m d :=
  h (some d, m) (by simpa [List.mem_zipIdx_iff_getElem?] using hm) d rfl

/-- R51: with eight contexts of the fragment's rank the first allocated is the victim, and with eight of a more urgent rank there is none; for a
part of a longer notice, and for a one-part notice whose text matches its digest or does not. -/
theorem witness_takeFragment_evicts :
    let c : Context := { completed with key := { key with issue := 9 }, digest := 0, parts := [none, none] }
    let x : Intake := { Intake.reset with contexts := crowded 2 2 }
    x.contexts.findIdx? Option.isNone = none ∧ x.lookup key 1 = none ∧ x.IsVictim catchAll.attrs.cls.rank 0 c ∧
      (crowded 1 1).findIdx? Option.isNone = none ∧ { Intake.reset with contexts := crowded 1 1 }.lookup key 1 = none ∧
      (∀ x, some x ∈ crowded 1 1 → x.rank < catchAll.attrs.cls.rank) ∧
      checkOf (fragment false 1 1 1 0xB915).text = (fragment false 1 1 1 0xB915).digest ∧
      checkOf (fragment false 1 1 1 0).text ≠ (fragment false 1 1 1 0).digest := by
  refine ⟨by decide, by decide, ⟨by decide, by decide, ?_⟩, by decide, by decide, ?_, by decide +kernel, by decide +kernel⟩
  · exact contexts_all (P := fun m d => catchAll.attrs.cls.rank ≤ d.rank → m ≠ 0 → _) (by decide)
  · intro x hx
    simp only [crowded, List.mem_map, Option.some.injEq] at hx
    obtain ⟨i, -, rfl⟩ := hx
    show (if i = 0 then 1 else 1) < 2
    split <;> decide

/-- A context of the alert that wants its first part, with this many parts, this digest and this many errors. -/
def wanting (total : Nat) (digest : Half) (errors : Nat) : Context :=
  { completed with digest := digest, errors := errors, parts := (List.replicate total (some [0x42])).set 0 none }

theorem wanting_found (total : Nat) (digest : Half) (errors : Nat) :
    { Intake.reset with contexts := [some (wanting total digest errors)] }.lookup key 1 = some (0, wanting total digest errors) := rfl

/-- R52, R53, R59, R60: the total, the digest or the text of the fragment at odds with the context, after no error and after two. -/
theorem witness_takeFragment_errors :
    let f := fragment false 1 1 2 0
    f.key = key ∧ f.revision = 1 ∧ f.total ≠ (wanting 3 0 0).parts.length ∧ f.total = (wanting 2 7 0).parts.length ∧
      f.digest ≠ (wanting 2 7 0).digest ∧ f.digest = (wanting 2 0 0).digest ∧ f.lifetimeCode = (wanting 2 0 0).lifetimeCode ∧
      (wanting 2 0 0).parts.getD (f.index - 1) none = none ∧
      ((wanting 2 0 0).parts.set (f.index - 1) (some f.text)).all Option.isSome = true ∧
      ¬ 3 ≤ (wanting 2 0 0).errors + 1 ∧ 3 ≤ (wanting 2 0 2).errors + 1 := by decide

theorem witness_takeFragment_mismatch :
    checkOf (([none, some [0x42]].set 0 (some [0x41])).flatMap fun x => x.getD []) ≠ (wanting 2 0 0).digest ∧
      readFragment (payload 0x58 1 0x11 [0, 0]) = some (fragment false 1 1 1 0) ∧
      checkOf (fragment false 1 1 1 0).text ≠ (fragment false 1 1 1 0).digest := by decide +kernel

/-- R53: a one-part notice at odds with its context, after no error, one and two, whose text matches its own digest or does not. -/
theorem witness_takeFragment_restarts :
    (fragment false 1 1 1 0).total = (wanting 1 7 0).parts.length ∧ (fragment false 1 1 1 0).digest ≠ (wanting 1 7 0).digest ∧
      (fragment false 1 1 1 0xB915).digest ≠ (wanting 1 7 1).digest ∧ (wanting 1 7 0).errors + 1 < 3 ∧ (wanting 1 7 1).errors + 1 < 3 ∧
      ¬ (wanting 1 7 2).errors + 1 < 3 ∧ (wanting 1 7 1).errors = 1 := by decide

/-- The first part of two, joining the second, gives the text its digest is of. -/
theorem witness_takeFragment_joins :
    let d := checkOf [0x41, 0x42]
    let f := fragment false 1 1 2 d
    let c := wanting 2 d 0
    readFragment (payload 0x58 1 0x12 (halfBytes d)) = some f ∧ f.total = c.parts.length ∧ f.digest = c.digest ∧
      f.lifetimeCode = c.lifetimeCode ∧ c.parts.getD (f.index - 1) none = none ∧
      (c.parts.set (f.index - 1) (some f.text)).all Option.isSome = true ∧
      checkOf ((c.parts.set (f.index - 1) (some f.text)).flatMap fun x => x.getD []) = c.digest := by decide +kernel

/-- R57: it completes its context, interrupted or not. -/
theorem test_joins :
    let d := checkOf [0x41, 0x42]
    let h := hearing (payload 0x58 1 0x12 (halfBytes d))
    let s : State := { h with intake := { h.intake with contexts := [some (wanting 2 d 0)] } }
    (∃ t, exec (.takeFragment true) s = .next t ∧ t.intake.completing = some 0 ∧ t.intake.counters.completions = 1) ∧
      ∃ t, exec (.takeFragment false) s = .next t ∧ t.intake.completing = none ∧ t.index.entries.length = 1 :=
  ⟨⟨_, rfl, by decide +kernel⟩, _, rfl, by decide +kernel⟩

theorem witness_takeFragment_creates :
    let s : State := { hearing (payload 0x58 1 0x11 [0xB9, 0x15]) with records := single (record 0 .delivered) none }
    let f := fragment false 1 1 1 0xB915
    s.records.Ordered ∧ s.powered = true ∧ s.scanning = false ∧ s.intake.completing = none ∧
      s.intake.queue = [payload 0x58 1 0x11 [0xB9, 0x15]] ∧
      readFragment (payload 0x58 1 0x11 [0xB9, 0x15]) = some f ∧ s.windows.classify f.key.stream = some catchAll ∧
      f.withdraw = false ∧ f.total = 1 ∧ f.trailer = none ∧ checkOf f.text = f.digest ∧ catchAll.attrs.muted = false ∧
      s.index.find f.key = none ∧ s.index.entries.length < 160 ∧ s.intake.lookup f.key f.revision = none ∧
      s.intake.contexts.findIdx? Option.isNone = some 0 ∧
      s.records.active.length < (if s.records.latched.isSome then 15 else 16) := ⟨delivered_ordered, by decide +kernel⟩

theorem witness_takeFragment_withdraws :
    let s := hearing (payload 0x5A 1 0x11 [0, 0])
    s.powered = true ∧ s.scanning = false ∧ s.intake.completing = none ∧
      readFragment (payload 0x5A 1 0x11 [0, 0]) = some (fragment true 1 1 1 0) ∧
      s.windows.classify key.stream = some catchAll ∧ s.index.find key = none ∧ s.index.entries.length < 160 ∧
      (withEntry (entry .noticeSeen 1 0) s).index.find key = some (entry .noticeSeen 1 0) ∧ newerRevision 1 0 = true ∧
      (withEntry (entry .noticeSeen 9 0) s).index.find key = some (entry .noticeSeen 9 0) ∧ newerRevision 1 9 = false ∧
      (withEntry (entry .withdrawn 0 0) s).index.find key = some (entry .withdrawn 0 0) := by decide +kernel

/-- The part with that context's completion waiting. -/
def completingIn (windows : Windows) : State :=
  { on with
    windows := windows
    intake := { Intake.reset with contexts := (List.replicate 8 none).set 0 (some completed), completing := some 0 } }

theorem witness_completion :
    let p := payload 0x58 1 0x11 [0xB9, 0x15]
    let f := fragment false 1 1 1 0xB915
    let open1 := completingIn { Windows.reset with ordinary := [catchAll] }
    let muted := { catchAll with attrs := { attrs with muted := true } }
    (hearing p).powered = true ∧ (hearing p).scanning = false ∧ (hearing p).intake.completing = none ∧
      (hearing p).intake.queue = [p] ∧ readFragment p = some f ∧ (hearing p).windows.classify f.key.stream = some catchAll ∧
      f.withdraw = false ∧ f.total = 1 ∧ checkOf f.text = f.digest ∧
      (hearing p).index.resolveNotice f.key f.revision ≠ .duplicate ∧ (hearing p).intake.lookup f.key f.revision = none ∧
      (hearing p).intake.contexts.findIdx? Option.isNone = some 0 ∧
      open1.powered = true ∧ open1.scanning = false ∧ open1.intake.completing = some 0 ∧
      open1.intake.contexts[0]? = some (some completed) ∧ (completingIn Windows.reset).windows.classify completed.key.stream = none ∧
      open1.windows.classify completed.key.stream = some catchAll ∧
      (withEntry (entry .noticeSeen 1 0) open1).index.resolveNotice completed.key completed.revision = .duplicate ∧
      open1.index.find completed.key = none ∧ open1.index.entries.length < 160 ∧
      (completingIn { Windows.reset with ordinary := [muted] }).windows.classify completed.key.stream = some muted ∧
      muted.attrs.muted = true := by decide +kernel

/-- A completing alert of an area, or of none, in a window of this class, with this record unit. -/
def settling (area : Option (List Vertex)) (cls : AlertClass) (r : Records) : State :=
  { completingIn { Windows.reset with ordinary := [{ catchAll with attrs := { attrs with cls := cls } }] } with
    intake :=
      { Intake.reset with
        contexts := (List.replicate 8 none).set 0 (some { completed with trailer := area }), completing := some 0 }
    records := r }

/-- Eight held records, the first with this lifetime end and the others with the longest. -/
def heldFull (lifetimeEnd : Word) : Records :=
  { Records.reset with
    free := List.range' 8 16
    held := (List.range 8).map fun i => { record i .held with lifetimeEnd := if i = 0 then lifetimeEnd else 0xFFFFFFFF } }

/-- Sixteen delivered records of one rank. -/
def activeFull : Records :=
  { Records.reset with
    free := List.range' 16 8, active := (List.range 16).map fun i => { record i .delivered with entered := i }, entries := 16 }

theorem heldFull_ordered : (heldFull 0).Ordered ∧ (heldFull 3600).Ordered :=
  ⟨still_ordered _ rfl rfl (by decide +kernel), still_ordered _ rfl rfl (by decide +kernel)⟩

theorem activeFull_ordered : activeFull.Ordered := still_ordered _ rfl rfl (by decide +kernel)

/-- The clauses on any completing alert: one to be held with room, with a full held list of whose nine it, or the first, ends first, and one
presented to a full active list, of which it, or the last record, is displaced. -/
theorem witness_takeFragment_lists :
    let shown (s : State) (c : Context) : Prop :=
      let v := s.area.position.verdict c.trailer
      v = .noArea ∨ v = .inside ∨ (v = .edge ∧ attrs.edgePolicy = .present) ∨ (v = .unknown ∧ attrs.unknownPolicy = .present)
    let c : Context := { completed with trailer := some caseArea }
    let h (x : Word) := settling (some caseArea) .severe (heldFull x)
    let a (cls : AlertClass) := settling none cls activeFull
    ((h 0).records.Ordered ∧ (h 3600).records.Ordered) ∧ (a .severe).records.Ordered ∧ (settling (some caseArea) .severe (holding (record 0 .held))).records.Ordered ∧
      (h 0).powered = true ∧ (h 0).scanning = false ∧ (h 0).intake.completing = some 0 ∧
      (h 0).intake.contexts[0]? = some (some c) ∧ (h 0).windows.classify key.stream = some catchAll ∧ catchAll.attrs.muted = false ∧
      (h 0).index.find key = none ∧ (h 0).index.entries.length < 160 ∧ ¬ shown (h 0) c ∧ (holding (record 0 .held)).held.length < 8 ∧
      (h 0).records.held = [] ++ { record 0 .held with lifetimeEnd := 0 } :: (h 0).records.held.drop 1 ∧
      (h 0).records.held.length = 8 ∧ (∀ x ∈ (h 0).records.held.drop 1, 0 ≤ x.lifetimeEnd.toNat) ∧
      0 < (c.recordIn catchAll (h 0).area.position 0).lifetimeEnd.toNat ∧
      (h 3600).records.held = [] ++ { record 0 .held with lifetimeEnd := 3600 } :: (h 3600).records.held.drop 1 ∧
      (∀ x ∈ (h 3600).records.held.drop 1, 3600 ≤ x.lifetimeEnd.toNat) ∧
      (c.recordIn catchAll (h 3600).area.position 0).lifetimeEnd.toNat ≤ 3600 ∧
      shown (a .severe) completed ∧ (a .severe).records.active.length = 16 ∧
      (∀ x ∈ activeFull.active, x.attrs.cls.rank ≤ AlertClass.severe.rank) ∧
      (∀ x ∈ activeFull.active, AlertClass.extreme.rank < x.attrs.cls.rank) ∧
      activeFull.active = activeFull.active.take 15 ++ { record 15 .delivered with entered := 15 } :: [] :=
  ⟨heldFull_ordered, activeFull_ordered, held_ordered, by decide +kernel⟩

/-- R97: an area of a span of 180,000,001, and one of exactly 180,000,000, of an alert of an unmuted window. -/
theorem witness_takeFragment_wide :
    let area (east : Int) : List Vertex := [⟨0, 0⟩, ⟨10, east⟩, ⟨20, 5⟩]
    let s (east : Int) := settling (some (area east)) .severe (single (record 0 .delivered) none)
    (s 180000001).records.Ordered ∧ catchAll.attrs.muted = false ∧
      (∃ u ∈ area 180000001, ∃ v ∈ area 180000001, 180000000 < u.lon - v.lon) ∧
      (∀ u ∈ area 180000000, ∀ v ∈ area 180000000, ¬ 180000000 < u.lon - v.lon) ∧
      (∃ t, exec (.takeFragment false) (s 180000001) = .next t ∧ t.area.counters.areaIgnored = 1) ∧
      ∃ t, exec (.takeFragment false) (s 180000000) = .next t ∧ t.area.counters.areaIgnored = 0 :=
  ⟨delivered_ordered, rfl, by decide, by decide, ⟨_, rfl, by decide +kernel⟩, _, rfl, by decide +kernel⟩

/-- One presented with room on the list, one of two parts with an area to be held with room, and one of a muted window. -/
theorem witness_takeFragment_stands :
    let s := settling none .severe (single (record 0 .delivered) none)
    let muted := { catchAll with attrs := { attrs with muted := true } }
    s.records.Ordered ∧ s.area.position.verdict completed.trailer = .noArea ∧ catchAll.attrs.muted = false ∧
      s.records.active = [record 0 .delivered] ++ [] ∧ (record 0 .delivered).attrs.cls.rank ≤ catchAll.attrs.cls.rank ∧
      s.records.active.length < (if s.records.latched.isSome then 15 else 16) ∧
      (completingIn { Windows.reset with ordinary := [muted] }).windows.classify completed.key.stream = some muted ∧
      (completingIn { Windows.reset with ordinary := [muted] }).records.Ordered :=
  ⟨delivered_ordered, by decide +kernel, rfl, rfl, by decide, by decide, by decide +kernel,
    still_ordered _ rfl rfl (by decide +kernel)⟩

/-- An index of 160 other keys, of which the first expires first. -/
def fullIndex (s : State) : State :=
  { s with
    index :=
      { Index.reset with
        entries := (List.range 160).map fun i =>
          let e := entry .withdrawn 1 (BitVec.ofNat 32 (i + 1))
          { e with fields := { e.fields with key := { key with issue := BitVec.ofNat 12 (100 + i) } } } } }

/-- R82: a listed record of the key ends; R86: a full index, whose first entry is evicted. -/
theorem witness_takeFragment_ends :
    let s := withEntry (entry .noticeSeen 1 0) { hearing (payload 0x5A 1 0x11 [0, 0]) with records := single (record 0 .delivered) none }
    let full := fullIndex (hearing (payload 0x5A 1 0x11 [0, 0]))
    let e := entry .withdrawn 1 1
    let first : Entry := { e with fields := { e.fields with key := { key with issue := 100 } } }
    s.records.Ordered ∧ s.index.find key = some (entry .noticeSeen 1 0) ∧ s.report.queue.length + 1 ≤ 32 ∧
      full.index.find key = none ∧ (full.index.entries.map fun e => e.fields.key).Nodup ∧
      full.index.entries = [] ++ first :: full.index.entries.drop 1 ∧ 160 ≤ full.index.entries.length ∧
      full.named first.fields.key = false ∧ (∀ x ∈ full.index.entries.drop 1, first.fields.expiry.toNat < x.fields.expiry.toNat) :=
  ⟨delivered_ordered, by decide +kernel⟩

/-- The same at a completion: NEWER and REISSUE over a listed record, and NEW in a full index. -/
theorem witness_completion_ends :
    let s (state : EntryState) := withEntry (entry state 0 0) (settling none .severe (single (record 0 .delivered) none))
    let full := fullIndex (settling none .severe Records.reset)
    (s .noticeSeen).records.Ordered ∧ (s .noticeSeen).index.find key = some (entry .noticeSeen 0 0) ∧
      (s .withdrawn).index.find key = some (entry .withdrawn 0 0) ∧ newerRevision completed.revision 0 = true ∧
      (s .noticeSeen).report.queue.length + 1 ≤ 32 ∧ catchAll.attrs.muted = false ∧
      full.index.find completed.key = none ∧ 160 ≤ full.index.entries.length ∧
      full.windows.classify key.stream = some catchAll := ⟨delivered_ordered, by decide +kernel⟩

/-- The interrupted fragment stops at its match; with its stream unlisted by then the alert closes, and listed it enters the index. -/
theorem test_completion :
    (∃ t, exec (.takeFragment true) (hearing (payload 0x58 1 0x11 [0xB9, 0x15])) = .next t ∧ t.intake.completing = some 0 ∧
      t.index.entries = []) ∧
    (∃ t, exec (.takeFragment false) (completingIn Windows.reset) = .next t ∧ t.intake.completing = none ∧
      t.intake.counters.unlistedAtCompletion = 1 ∧ t.index.entries = []) ∧
    ∃ t, exec (.takeFragment false) (completingIn { Windows.reset with ordinary := [catchAll] }) = .next t ∧
      t.index.entries.length = 1 :=
  ⟨⟨_, rfl, by decide +kernel⟩, ⟨_, rfl, by decide +kernel⟩, ⟨_, rfl, by decide +kernel⟩⟩

/-! ## Witnesses: the epoch -/

/-- Every event of an epoch owed once. -/
def owing (s : State) : State := { s with due := ⟨1, 1, 1, 1, 1, true, true⟩ }

theorem witness_epoch : on.powered = true ∧ (owing on).powered = true ∧ (owing on).due.flushCountdown = true ∧
    (owing on).due.reminderStep = true ∧ on.due.reminderStep = false := by decide

/-- R160: with the decrement of the last increase still owed, a second epoch makes it, and its own is made by FLUSH_COUNTDOWN. -/
theorem test_decrements :
    let s : State := { reporting with report := { reporting.report with countdown := some 3 } }
    ∃ t u v, exec .epoch s = .next t ∧ t.report.countdown = some 3 ∧ exec .epoch t = .next u ∧ u.report.countdown = some 2 ∧
      exec .flushCountdown u = .next v ∧ v.report.countdown = some 1 ∧ v.due.flushCountdown = false :=
  ⟨_, _, _, rfl, by decide +kernel, rfl, by decide +kernel, rfl, by decide +kernel⟩

theorem witness_contextTimeout :
    (owing on).powered = true ∧ 0 < (owing on).due.contextTimeout ∧ (owing on).intake.completing = none := by decide

theorem witness_expirySweep :
    let s := owing (withEntry (entry .withdrawn 1 0) { on with time := { on.time with timeSet := true } })
    s.powered = true ∧ 0 < s.due.expirySweep ∧ (s.index.entries.map fun e => e.fields.key).Nodup ∧ s.time.timeSet = true ∧
      s.scanning = false ∧ (owing on).time.timeSet = false ∧ s.expiredKeys = [key] ∧ s.store.retry = none ∧
      ({ s with store := { s.store with retry := some key } } : State).store.retry = some (entry .withdrawn 1 0).fields.key ∧
      (entry .withdrawn 1 0).fields.expiry.toNat ≤ s.time.wall.toNat ∧ s.named key = false := by decide +kernel

theorem witness_positionStale :
    let s (epoch : Word) : State :=
      owing { on with time := { on.time with epoch := epoch }, area := { on.area with position := ⟨.fresh, 0, 0, 0, 1000⟩ } }
    (s 1301).powered = true ∧ 0 < (s 1301).due.positionStale ∧ (s 1301).area.position.state = .fresh ∧
      (s 1301).settings.positionMaxAge < ageOf 1301 1000 ∧ ageOf 1300 1000 ≤ (s 1300).settings.positionMaxAge := by decide +kernel

theorem witness_heldLifetimeEnd :
    let s := owing (unitOf (holding (record 0 .held)))
    s.records.Ordered ∧ s.powered = true ∧ 0 < s.due.heldLifetimeEnd ∧ s.report.queue.length + 1 ≤ 32 ∧
      (record 0 .held).lifetimeEnd.toNat ≤ s.time.epoch.toNat := ⟨held_ordered, by decide +kernel⟩

theorem witness_recordExpiry :
    let s := owing (unitOf (single (record 0 .delivered) none))
    s.records.Ordered ∧ (owing (unitOf (single (record 0 .delivering) (some ⟨0, 2, [2]⟩)))).records.Ordered ∧
      s.powered = true ∧ 0 < s.due.recordExpiry ∧ s.report.queue.length + 1 ≤ 32 ∧
      (record 0 .delivered).lifetimeEnd.toNat ≤ s.time.epoch.toNat :=
  ⟨delivered_ordered, delivering_ordered, by decide +kernel⟩

theorem witness_flushCountdown :
    let s := owing { reporting with report := { reporting.report with countdown := some 1 } }
    s.powered = true ∧ s.due.flushCountdown = true ∧ s.report.countdown = some 1 ∧ s.report.queue ≠ [] ∧
      s.settings.wakeEnables.report = true := by decide +kernel

theorem witness_reminderStep :
    let s := owing (unitOf (single (record 0 .delivered) none))
    s.powered = true ∧ s.due.reminderStep = true ∧ (record 0 .delivered).attrs.periodCode = 0 + 1 ∧
      (s.ack.step + 1 - (record 0 .delivered).deliveryStep).toNat % 2 ^ 0 = 0 := by decide +kernel

/-- R145, R146: the step owed at epoch 16 is taken with its schedule by REMINDER_STEP, or by the next EPOCH where that comes first. -/
theorem test_reminderStep_inItsEpoch :
    let s : State := { unitOf (single (record 0 .delivered) none) with time := { on.time with epoch := 15 } }
    ∃ t u v, exec .epoch s = .next t ∧ t.time.epoch = 16 ∧ t.ack.step = 0 ∧ t.due.reminderStep = true ∧
      exec .reminderStep t = .next u ∧ u.ack.step = 1 ∧ u.due.reminderStep = false ∧
      exec .epoch t = .next v ∧ v.ack.step = 1 ∧ v.due.reminderStep = false ∧ v.records = u.records ∧
      v.records.active.map Record.reminder = [some 1] :=
  ⟨_, _, _, rfl, by decide +kernel, by decide +kernel, by decide +kernel, rfl, by decide +kernel, by decide +kernel, rfl, by decide +kernel,
    by decide +kernel, by decide +kernel, by decide +kernel⟩

/-! ## Witnesses: management -/

theorem witness_commonChecks :
    (asking []).asked [] [] ∧ (asking [0x77, 1]).asked [0x77, 1] [] ∧ (asking [0x20]).asked [0x20] [] ∧
      (asking [0x20, 9, 0]).asked [0x20, 9, 0] [] ∧ requestOf [] = none ∧ requestOf [0x77, 1] = none ∧ requestOf [0x20] = some .acknowledge ∧
      requestOf [0x20, 9, 0] = some .acknowledge ∧ Request.acknowledge.arguments + 2 = 4 ∧
      ({ asking [0x20, 9, 0, 0] with scanning := true }).asked [0x20, 9, 0, 0] [] :=
  ⟨asking_asked _, asking_asked _, asking_asked _, asking_asked _, by decide +kernel, by decide +kernel, by decide +kernel,
    by decide +kernel, rfl, asking_asked _⟩

theorem witness_getStatus : (asking [0x01, 7]).asked [0x01, 7] [] := asking_asked _

theorem witness_getCounters :
    (asking [0x02, 7, 4, 1]).asked [0x02, 7, 4, 1] [] ∧ (asking [0x02, 7, 4, 1]).scanning = false ∧
      (asking [0x02, 7, 5, 0]).asked [0x02, 7, 5, 0] [] ∧ (asking [0x02, 7, 0, 2]).asked [0x02, 7, 0, 2] [] ∧
      (asking [0x02, 7, 0, 0]).asked [0x02, 7, 0, 0] [] :=
  ⟨asking_asked _, rfl, asking_asked _, asking_asked _, asking_asked _⟩

theorem witness_setTime :
    (withEntry (entry .noticeSeen 1 0) (asking [0x03, 7, 1, 2, 3, 4])).asked [0x03, 7, 1, 2, 3, 4] [] ∧
      (withEntry (entry .noticeSeen 1 0) (asking [0x03, 7, 1, 2, 3, 4])).scanning = false ∧
      ((withEntry (entry .noticeSeen 1 0) (asking [0x03, 7, 1, 2, 3, 4])).index.entries.map fun e => e.fields.key).Nodup :=
  ⟨asking_asked _, rfl, by simp [withEntry]⟩

/-- The position (40,105,000, −74,950,000), 800 of section 5.6, and one 1 microdegree too far north. -/
def positionBytes : List Byte := wordBytes 40105000 ++ wordBytes (-74950000) ++ [3, 0x20]

def beyondBytes : List Byte := wordBytes 90000001 ++ wordBytes 0 ++ [0, 0]

theorem witness_setPosition :
    let s : State := { asking (0x04 :: 7 :: positionBytes) with records := holding (record 0 .held) }
    s.asked (0x04 :: 7 :: positionBytes) [] ∧ s.records.Ordered ∧ (asking (0x04 :: 7 :: beyondBytes)).asked (0x04 :: 7 :: beyondBytes) [] ∧
      positionBytes.length = 10 ∧ s.scanning = false ∧ (wordAt positionBytes 0).toInt = 40105000 ∧
      (wordAt positionBytes 4).toInt = -74950000 ∧ (halfAt positionBytes 8).toNat = 800 ∧ beyondBytes.length = 10 ∧
      90000000 < (wordAt beyondBytes 0).toInt ∧ s.records.active.length + s.records.held.length ≤ 16 :=
  ⟨asking_asked _, held_ordered, asking_asked _, by decide +kernel⟩

/-- The area of section 5.6 with its bounds, and for its verdicts a position beside it, in it, at its edge and far from it, whose margins meet
the premises of each clause; and an area too wide. -/
theorem witness_verdicts :
    let crossings (y x : Int) : Nat := (List.range 4).countP fun i =>
      let a := caseArea.getD i ⟨0, 0⟩
      let b := caseArea.getD (if i + 1 = 4 then 0 else i + 1) ⟨0, 0⟩
      let d := b.lat - a.lat
      let num := (x - a.lon) * d - (y - a.lat) * (b.lon - a.lon)
      decide (¬ (a.lat > y ↔ b.lat > y) ∧ ((d > 0 ∧ num < 0) ∨ (d < 0 ∧ num > 0)))
    (∀ v ∈ caseArea, 40000000 ≤ v.lat ∧ v.lat ≤ 40100000 ∧ -75000000 ≤ v.lon ∧ v.lon ≤ -74900000) ∧
      (∃ v ∈ caseArea, v.lat = 40000000) ∧ (∃ v ∈ caseArea, v.lat = 40100000) ∧ (∃ v ∈ caseArea, v.lon = -75000000) ∧
      (∃ v ∈ caseArea, v.lon = -74900000) ∧
      crossings 40105000 (-74950000) % 2 = 0 ∧ crossings (40105000 - 7200) (-74950000 - 11250) % 2 = 1 ∧
      crossings 40050000 (-74950000) % 2 = 1 ∧ (40100000 : Int) < 40300000 - 7200 ∧
      crossings 40100000 (-74950000) % 2 = 0 ∧ (180000000 : Int) < 100000000 - (-100000000) ∧
      (casePosition 40105000).state = .fresh := by decide +kernel

/-- A window block, its class and muted bytes given. -/
def blockBytes (cls muted : Byte) : List Byte := [1, 0x11, 0, 0xFF, 0, cls, muted, 9, 7, 8, 1, 1, 3, 0, 73]

theorem test_blockRead :
    readBlock (blockBytes 2 1) =
      some
        { valid := true, base := 0x1100, mask := 0xFF00, horizon := 72,
          attrs :=
            { cls := .severe, muted := true, reportDelay := 7, periodCode := 6, reminderCount := 7, edgePolicy := .hold,
              unknownPolicy := .hold, receiptMode := .both, defaultLifetime := 1 } } ∧
      readBlock (blockBytes 6 0) = none ∧ readBlock (blockBytes 0 2) = none := by decide +kernel

theorem witness_loadWindow :
    (asking (0x10 :: 7 :: 15 :: blockBytes 2 1)).asked (0x10 :: 7 :: 15 :: blockBytes 2 1) [] ∧
      (asking (0x10 :: 7 :: 15 :: blockBytes 2 1)).scanning = false ∧ (blockBytes 2 1).length = 15 ∧ (readBlock (blockBytes 6 0)) = none ∧
      ((readBlock (blockBytes 0 1)).map fun w => (w.attrs.cls, w.attrs.muted)) = some (.national, true) ∧
      ((readBlock (blockBytes 0 0)).map fun w => (w.attrs.cls, w.attrs.muted)) = some (.national, false) ∧
      (15 : Byte).toNat ≤ 15 ∧ 15 < (16 : Byte).toNat := ⟨asking_asked _, by decide +kernel⟩

theorem witness_muteWindow :
    (asking [0x11, 7, 15, 1]).asked [0x11, 7, 15, 1] [] ∧ (asking [0x11, 7, 15, 1]).scanning = false ∧
      (asking [0x11, 7, 15, 1]).windows.ordinary[15]? = some .cleared ∧ Window.cleared.attrs.cls ≠ .national ∧
      (asking [0x11, 7, 19, 1]).asked [0x11, 7, 19, 1] [] ∧ (asking [0x11, 7, 20, 1]).asked [0x11, 7, 20, 1] [] :=
  ⟨asking_asked _, rfl, by decide, by decide, asking_asked _, asking_asked _⟩

theorem witness_readWindow :
    (asking [0x12, 7, 19]).asked [0x12, 7, 19] [] ∧ (asking [0x12, 7, 19]).windows.ordinary.length = 16 ∧
      (asking [0x12, 7, 19]).windows.override[19 - 16]? = some .cleared ∧
      (asking [0x12, 7, 0]).windows.ordinary[0]? = some .cleared ∧ (asking [0x12, 7, 20]).asked [0x12, 7, 20] [] :=
  ⟨asking_asked _, by decide, by decide, by decide, asking_asked _⟩

/-- A provisioning slot with its lock and its used copies. -/
def provisioned (copies : List Copy) (lock : LockMark) (s : State) : State :=
  { s with array := { s.array with provisioning := [⟨copies, lock⟩] } }

theorem witness_provisioning :
    let s := asking (0x18 :: 7 :: 0 :: blockBytes 2 0)
    let target (s : State) := s.array.provisioning.getD 0 ⟨[], .clear⟩
    s.asked (0x18 :: 7 :: 0 :: blockBytes 2 0) [] ∧ (asking [0x19, 7, 3]).asked [0x19, 7, 3] [] ∧ (blockBytes 2 0).length = 15 ∧ s.scanning = false ∧ (readBlock (blockBytes 2 0)).isSome = true ∧ s.store.job = none ∧
      s.store.clear = none ∧ (target s).lock ≠ .set ∧ (target s).nextCopy = some 0 ∧
      (target (provisioned [.void] .clear s)).nextCopy = none ∧ (target (provisioned [.blank] .set s)).lock = .set ∧
      ({ s with store := { s.store with clear := some ⟨1, false⟩ } } : State).store.clear ≠ none :=
  ⟨asking_asked _, asking_asked _, by decide +kernel⟩

/-- A handle request to the part with a record unit. -/
def naming (p : List Byte) (r : Records) : State := { asking p with records := r }

theorem witness_acknowledge :
    (naming [0x20, 7, 0, 0] (single (record 0 .delivered) none)).asked [0x20, 7, 0, 0] [] ∧
      (naming [0x20, 7, 0, 0] (single (record 0 .delivered) none)).records.Ordered ∧
      (naming [0x20, 7, 0, 0] (single (record 0 .waiting) none)).records.Ordered ∧
      (naming [0x20, 7, 0, 0] (holding (record 0 .held))).records.Ordered ∧
      (naming [0x20, 7, 0, 0] (single (record 0 .delivering) (some ⟨0, 2, [2]⟩))).records.Ordered ∧
      (naming [0x20, 7, 0, 0] (latching latchedRecord ⟨0, 2, [2]⟩)).records.Ordered ∧
      (record 0 .delivered).handle = some ⟨0, (0 : Byte).toNat⟩ :=
  ⟨asking_asked _, delivered_ordered, waiting_ordered, held_ordered, delivering_ordered, latched_ordered, rfl⟩

theorem witness_fetchRecord :
    (naming [0x21, 7, 0, 0, 1] (single (record 0 .delivered) none)).asked [0x21, 7, 0, 0, 1] [] ∧
      (naming [0x21, 7, 0, 0, 1] (single (record 0 .delivered) none)).records.Ordered ∧
      (naming [0x21, 7, 0, 23, 1] (single (record 0 .waiting) none)).records.Ordered ∧
      record 0 .delivered ∈ (single (record 0 .delivered) none).live :=
  ⟨asking_asked _, delivered_ordered, waiting_ordered, by decide +kernel⟩

theorem witness_flushAlerts :
    (naming [0x22, 7] (single (record 0 .delivered) none)).asked [0x22, 7] [] ∧
      (naming [0x22, 7] (single (record 0 .delivered) none)).records.Ordered ∧
      (naming [0x22, 7] (single (record 0 .delivering) (some ⟨0, 2, [2]⟩))).records.Ordered ∧
      (naming [0x22, 7] (single (record 0 .delivered) none)).scanning = false :=
  ⟨asking_asked _, delivered_ordered, delivering_ordered, rfl⟩

theorem witness_configure :
    (asking [0x30, 7, 6, 2, 6, 2, 4, 60, 1, 0x2C, 1, 15]).asked [0x30, 7, 6, 2, 6, 2, 4, 60, 1, 0x2C, 1, 15] [] ∧
      (asking [0x30, 7, 6, 2, 6, 2, 4, 60, 1, 0x2C, 2, 15]).asked [0x30, 7, 6, 2, 6, 2, 4, 60, 1, 0x2C, 2, 15] [] ∧
      (asking [0x30, 7, 6, 2, 6, 2, 4, 60, 1, 0x2C, 1, 16]).asked [0x30, 7, 6, 2, 6, 2, 4, 60, 1, 0x2C, 1, 16] [] :=
  ⟨asking_asked _, asking_asked _, asking_asked _⟩

theorem witness_clearHistory :
    let s := naming [0x31, 7] (single (record 0 .delivered) none)
    let worn : State := { s with store := { s.store with takenWorn := [0, 1, 2, 3] } }
    s.asked [0x31, 7] [] ∧ s.scanning = false ∧ s.store.job = none ∧ s.store.clear = none ∧ s.usableSectors ≠ [] ∧
      ((s.records.active ++ s.records.held).map Record.key).Nodup ∧
      (withEntry (entry .noticeSeen 1 0) s).index.find (record 0 .delivered).key = some (entry .noticeSeen 1 0) ∧
      worn.asked [0x31, 7] [] ∧ worn.usableSectors = [] ∧ worn.store.erases = [] ∧ worn.store.erase = none ∧
      (∀ x ∈ worn.store.outstanding, x.amend ≠ .retiring) :=
  ⟨asking_asked _, rfl, rfl, rfl, by decide +kernel, by decide +kernel, by decide +kernel, asking_asked _, by decide +kernel⟩

theorem witness_resetRequest :
    let s := asking [0x3F, 7]
    s.powered = true ∧ s.scanning = false ∧ s.management.requests = [0x3F, 7] :: [] ∧ 1 ≤ s.settings.backlogMark ∧
      1 ≤ s.settings.marksM.high ∧ 1 ≤ s.settings.marksP.high := by decide +kernel

/-! ## Witnesses: the store -/

def running (r : Running) : State := { on with store := { on.store with running := some r } }

/-- A key on the pending write list, or due for its retry. -/
def writing (writes : List Key) (retry : Option Key) : State :=
  withEntry (entry .noticeSeen 1 0) { on with store := { on.store with writes := writes, retry := retry } }

theorem witness_starts :
    let s := writing [key] none
    let m : State := { on with store := { on.store with amends := [⟨0, .full, false⟩] } }
    s.powered = true ∧ s.store.running = none ∧ s.store.erase = none ∧ s.store.job = none ∧ s.store.amends = [] ∧
      s.store.ramOnly = false ∧ s.store.clear = none ∧ s.store.current = some 0 ∧ (s.sector 0).state = .opened ∧
      (s.sector 0).nextSlot = some 0 ∧ s.index.find key = some (entry .noticeSeen 1 0) ∧ s.store.retry = none ∧
      s.store.writes = [key] ∧ (writing [] (some key)).store.retry = some key ∧ m.powered = true ∧ m.store.running = none ∧
      m.store.erase = none ∧ m.store.job = none ∧ m.store.amends = ⟨0, .full, false⟩ :: [] := by decide +kernel

def slotProgram : SlotProgram :=
  { sector := 0, slot := 63, fields := (entry .noticeSeen 1 0).fields, retry := false, touched := false, removed := false }

/-- A history without a spare: sector 0 OPEN with 55 slots used, or FULL marks wanting, and sectors 1 to 3 FULL, sector 1 the oldest. -/
def crammed (used : Nat) (current : Option Nat) (r : Option Running) : State :=
  let sector (q : Half) (full : Bool) (n : Nat) : Sector :=
    { Sector.erased with
      sequence := some q, opened := true, full := full, slots := List.replicate n .void ++ List.replicate (64 - n) .blank }
  { on with
    array := { on.array with sectors := [sector 9 false used, sector 6 true 64, sector 7 true 64, sector 8 true 64] }
    store := { on.store with current := current, lastSequence := some 9, running := r } }

theorem oldest_of {s : State} {k : Nat}
    (hk : k ∈ s.usableSectors ∧ s.store.current ≠ some k ∧ ((s.sector k).state = .full ∨ (s.sector k).state = .opened))
    (h : ∀ j ∈ s.usableSectors, s.store.current ≠ some j ∧ ((s.sector j).state = .full ∨ (s.sector j).state = .opened) → j ≠ k →
      1 ≤ ((s.sector j).sequence.getD 0 - (s.sector k).sequence.getD 0).toNat ∧
        ((s.sector j).sequence.getD 0 - (s.sector k).sequence.getD 0).toNat ≤ 32767) : s.IsOldestFull k :=
  ⟨hk, fun j hj => h j hj.1 hj.2⟩

theorem witness_slotProgramEnd :
    let s := withEntry (entry .noticeSeen 1 0) (running (.slotProgram slotProgram))
    s.powered = true ∧ s.store.running = some (.slotProgram slotProgram) ∧ s.store.current = some slotProgram.sector ∧
      slotProgram.sector < s.array.sectors.length ∧ slotProgram.slot < (s.sector 0).slots.length ∧
      slotProgram.sector < s.store.failures.length ∧ s.store.ramOnly = false ∧ s.index.find key ≠ none ∧
      s.store.clear = none ∧ (s.sector 0).state = .opened ∧ slotProgram.slot + 1 = (s.sector 0).slots.length ∧
      ({ s with store := { s.store with reclaims := [1] } } : State).store.reclaims ≠ [] ∧ slotProgram.removed = false ∧
      { slotProgram with removed := true }.removed = true := by decide +kernel

/-- R180: the program of slot 55, and a failed one of slot 63, leave 56 slots or more used, no spare, and sector 1 the oldest FULL sector. -/
theorem witness_slotProgramEnd_reclaims :
    let s (n : Nat) := crammed n (some 0) (some (.slotProgram { slotProgram with slot := n }))
    (∃ t, exec (.slotProgramEnd .passed) (s 55) = .next t ∧ (t.sector 0).nextSlot.isNone = false ∧ 56 ≤ (t.sector 0).usedSlots ∧ t.NoSpare ∧
      (s 55).store.reclaims = [] ∧ (s 55).store.clear = none ∧ (s 55).store.ramOnly = false ∧ (s 55).scanning = false ∧ t.IsOldestFull 1) ∧
    ∃ t, exec (.slotProgramEnd .fieldsFailed) (s 63) = .next t ∧ (t.sector 0).nextSlot.isNone = true ∧ 56 ≤ (t.sector 0).usedSlots ∧
      t.NoSpare ∧ (t.sector 0).state = .opened ∧ t.IsOldestFull 1 :=
  ⟨⟨_, rfl, by decide +kernel, by decide +kernel, by unfold State.NoSpare; decide +kernel, rfl, rfl, rfl, rfl,
    oldest_of (by decide +kernel) (by decide +kernel)⟩,
    _, rfl, by decide +kernel, by decide +kernel, by unfold State.NoSpare; decide +kernel, by decide +kernel,
    oldest_of (by decide +kernel) (by decide +kernel)⟩

/-- The last slot of the current sector ends in a clear (log entry 13), which has amended no sector yet. -/
theorem witness_slotProgramEnd_clear :
    let x := withEntry (entry .noticeSeen 1 0) (running (.slotProgram slotProgram))
    let s : State := { x with store := { x.store with clear := some ⟨7, false⟩ } }
    s.powered = true ∧ s.store.running = some (.slotProgram slotProgram) ∧ s.store.current = some slotProgram.sector ∧
      s.store.clear ≠ none ∧ ∃ t, exec (.slotProgramEnd .passed) s = .next t ∧ (t.sector 0).nextSlot = none ∧ (t.sector 0).state = .opened :=
  ⟨by decide +kernel, by decide +kernel, by decide +kernel, by decide +kernel, _, rfl, by decide +kernel⟩

/-- R177: an ordinary end of a write, with no reclaim due, which sweeps an unpersisted entry onto the list. -/
theorem witness_slotProgramEnd_sweeps :
    let s := withEntry { entry .noticeSeen 1 0 with persisted := false }
      (crammed 54 (some 0) (some (.slotProgram { slotProgram with slot := 54, touched := true })))
    ∃ t, exec (.slotProgramEnd .passed) s = .next t ∧ ¬ 56 ≤ (t.sector 0).usedSlots ∧ (t.sector 0).state ≠ .full ∧ t.store.writes = [key] :=
  ⟨_, rfl, by decide +kernel⟩

/-- A running amend of sector 3, in a clear or not. -/
def amending (a : Amend) (again : Bool) (clear : Option Clear) : State :=
  { running (.headerAmend ⟨3, a, again⟩) with
    store := { on.store with running := some (.headerAmend ⟨3, a, again⟩), clear := clear } }

theorem witness_headerAmendEnd :
    let s (a : Amend) (again : Bool) := amending a again none
    let c (opening : Bool) := amending (.opening 0) false (some ⟨7, opening⟩)
    (s .full false).powered = true ∧ (s (.opening 1) false).store.running = some (.headerAmend ⟨3, .opening 1, false⟩) ∧
      3 < (s .full false).array.sectors.length ∧ (s .full false).store.clear = none ∧ (c true).store.clear = some ⟨7, true⟩ ∧
      (c false).store.clear = some ⟨7, false⟩ ∧ (s .retiring true).store.running = some (.headerAmend ⟨3, .retiring, true⟩) ∧
      (s .worn false).store.running = some (.headerAmend ⟨3, .worn, false⟩) ∧
      (s .worn true).store.running = some (.headerAmend ⟨3, .worn, true⟩) := by decide +kernel

/-- R187: a RETIRING mark in a clear, and R179, a second failure of one: with an erase left, as the last with usable sectors left, and with fewer
than two. -/
theorem witness_headerAmendEnd_clear :
    let s (erases worn : List Nat) : State :=
      let x := amending .retiring true (some ⟨7, false⟩)
      { x with store := { x.store with erases := erases, takenWorn := worn } }
    (s [] []).store.clear = some ⟨7, false⟩ ∧ (∀ x ∈ (s [] []).store.amends, x.amend.isOpening = false) ∧
      (∀ passed ∈ [true, false], ∃ t, exec (.headerAmendEnd passed) (s [1] []) = .next t ∧ t.store.erases ≠ []) ∧
      (∃ t, exec (.headerAmendEnd true) (s [] []) = .next t ∧ t.store.erases = [] ∧ t.store.erase = none ∧ t.store.outstanding.length = 1 ∧
        2 ≤ t.usableSectors.length ∧ t.IsFirstSpare 1) ∧
      (∃ t, exec (.headerAmendEnd false) (s [] []) = .next t ∧ t.store.erases = [] ∧ 2 ≤ t.usableSectors.length ∧ t.IsFirstSpare 1) ∧
      ∀ passed ∈ [true, false], ∃ t, exec (.headerAmendEnd passed) (s [] [0, 1, 2]) = .next t ∧ t.store.erases = [] ∧ t.usableSectors.length < 2 :=
  ⟨rfl, by decide +kernel, by intro x h; cases x <;> exact ⟨_, rfl, by decide +kernel⟩,
    ⟨_, rfl, by decide +kernel, by decide +kernel, by decide +kernel, by decide +kernel, by unfold State.IsFirstSpare; decide +kernel⟩,
    ⟨_, rfl, by decide +kernel, by decide +kernel, by unfold State.IsFirstSpare; decide +kernel⟩,
    by intro x h; cases x <;> exact ⟨_, rfl, by decide +kernel⟩⟩

/-- R179: a second failure of the current sector's FULL amend, with a spare to open and with one usable sector left; and the next sequence where
none has been current, with sector 3 the newest FULL sector and with none FULL. -/
theorem witness_headerAmendEnd_fails :
    let amend : AmendRequest := ⟨0, .full, true⟩
    (∃ t, exec (.headerAmendEnd false) (running (.headerAmend amend)) = .next t ∧ t.store.current = none ∧ t.store.ramOnly = false ∧
      t.store.clear = none ∧ t.store.lastSequence = some 0 ∧ t.IsFirstSpare 1) ∧
      (∃ t, exec (.headerAmendEnd false)
          { running (.headerAmend amend) with
            store := { on.store with running := some (.headerAmend amend), takenWorn := [1, 2] } } = .next t ∧
        t.usableSectors.length < 2 ∧ t.store.ramOnly = true) ∧
      (let n : State := { crammed 64 none none with store := { on.store with current := none, lastSequence := none } }
       n.store.lastSequence = none ∧ (∀ i ∈ n.usableSectors, (n.sector i).state = .full → i ≠ 3 →
         1 ≤ ((n.sector 3).sequence.getD 0 - (n.sector i).sequence.getD 0).toNat ∧
           ((n.sector 3).sequence.getD 0 - (n.sector i).sequence.getD 0).toNat ≤ 32767) ∧ (n.sector 3).state = .full) ∧
      ∀ j ∈ on.usableSectors, (on.sector j).state ≠ .full :=
  ⟨⟨_, rfl, by decide +kernel, by decide +kernel, by decide +kernel, by decide +kernel, by unfold State.IsFirstSpare; decide +kernel⟩,
    ⟨_, rfl, by decide +kernel⟩, by decide +kernel, by decide +kernel⟩

/-- R179, R180: the FULL amend of the current sector, with the spares of a new part, and with none. -/
theorem witness_headerAmendEnd_successor :
    let amend : AmendRequest := ⟨0, .full, false⟩
    (∃ t, exec (.headerAmendEnd true) (running (.headerAmend amend)) = .next t ∧ (t.sector 0).state = .full ∧ t.IsFirstSpare 1) ∧
      (running (.headerAmend amend)).store.current = some 0 ∧ (running (.headerAmend amend)).store.lastSequence = some 0 ∧
      (running (.headerAmend amend)).store.openingRequested = false ∧
      ∃ t, exec (.headerAmendEnd true) (crammed 64 (some 0) (some (.headerAmend amend))) = .next t ∧ (t.sector 0).state = .full ∧
        t.NoSpare ∧ t.IsOldestFull 1 :=
  ⟨⟨_, rfl, by decide +kernel, by unfold State.IsFirstSpare; decide +kernel⟩, by decide +kernel, by decide +kernel, by decide +kernel,
    _, rfl, by decide +kernel, by unfold State.NoSpare; decide +kernel, oldest_of (by decide +kernel) (by decide +kernel)⟩

def erasing (condition : EraseCondition) (minimumRun : Bool) (ran : Nat) : State :=
  { on with store := { on.store with erase := some ⟨1, condition, minimumRun, ran⟩ } }

theorem witness_erases :
    let s : State := { on with store := { on.store with erases := [1, 2] } }
    s.powered = true ∧ s.scanning = false ∧ s.store.running = none ∧ s.store.erase = none ∧ s.store.erases = 1 :: [2] ∧
      s.programWaiting = false ∧ (erasing .suspending false 23999).store.erase = some ⟨1, .suspending, false, 23999⟩ ∧
      (erasing .suspended false 5100).store.erase = some ⟨1, .suspended, false, 5100⟩ ∧
      (erasing .suspended false 5100).programWaiting = false ∧
      (erasing .running true 22999).store.erase = some ⟨1, .running, true, 22999⟩ ∧ 22999 + 1000 < 24000 := by decide +kernel

theorem witness_eraseEnd :
    let s : State :=
      { erasing .running false 0 with
        array := { on.array with
          sectors := [{ Sector.erased with sequence := some 9, opened := true, full := true },
            { Sector.erased with sequence := some 8, opened := true, full := true, retiring := true }] }
        store := { (erasing .running false 0).store with lastSequence := some 9, takenWorn := [2, 3] } }
    s.powered = true ∧ s.store.erase = some ⟨1, .running, false, 0⟩ ∧ 1 < s.array.sectors.length ∧ s.store.clear = none ∧
      s.store.current = some 0 ∧ (s.sector 0).state = .full ∧ s.store.lastSequence = some 9 ∧ s.store.ramOnly = false ∧
      s.store.openingRequested = false ∧ s.sectorsIn .erased = [] ∧ 1 ∈ s.usableSectors := by decide +kernel

/-- R180, R181: an erase that leaves no sector current and FULL ones behind: verified, its sector is the spare to open; failed, sector 2 is the
oldest FULL sector and none stands ready; and with two sectors of four gone already, fewer than two are left. -/
theorem witness_eraseEnd_follows :
    let s (worn : List Nat) : State :=
      let x := crammed 64 none none
      { x with store := { x.store with erase := some ⟨1, .running, false, 0⟩, reclaims := [1], takenWorn := worn } }
    (s []).powered = true ∧ (s []).store.erase = some ⟨1, .running, false, 0⟩ ∧ 1 < (s []).array.sectors.length ∧ (s []).store.clear = none ∧
      (s []).store.current = none ∧ (s []).store.openingRequested = false ∧
      (∃ t, exec (.eraseEnd true) (s []) = .next t ∧ t.store.current = none ∧ t.store.ramOnly = false ∧ t.IsFirstSpare 1) ∧
      (∃ t, exec (.eraseEnd false) (s []) = .next t ∧ 2 ≤ t.usableSectors.length ∧ t.store.current = none ∧ t.NoSpare ∧
        (s []).store.reclaims.filter (· ≠ 1) = [] ∧ t.store.clear = none ∧ t.store.ramOnly = false ∧ t.scanning = false ∧ t.IsOldestFull 2) ∧
      ∃ t, exec (.eraseEnd false) (s [0, 3]) = .next t ∧ t.usableSectors.length < 2 :=
  ⟨by decide +kernel, by decide +kernel, by decide +kernel, by decide +kernel, by decide +kernel, by decide +kernel,
    ⟨_, rfl, by decide +kernel, by decide +kernel, by unfold State.IsFirstSpare; decide +kernel⟩,
    ⟨_, rfl, by decide +kernel, by decide +kernel, by unfold State.NoSpare; decide +kernel, by decide +kernel, by decide +kernel,
      by decide +kernel, by decide +kernel, oldest_of (by decide +kernel) (by decide +kernel)⟩,
    _, rfl, by decide +kernel⟩

/-- R187: an erase of a clear, others still queued or not, with two usable sectors at its end and with one. -/
theorem witness_eraseEnd_clear :
    let s (erases worn : List Nat) : State :=
      { erasing .running false 0 with
        store := { (erasing .running false 0).store with clear := some ⟨7, false⟩, erases := erases, takenWorn := worn, amends := [] } }
    (s [2] []).powered = true ∧ (s [2] []).store.erase = some ⟨1, .running, false, 0⟩ ∧ (s [2] []).store.erases ≠ [] ∧ 1 ∉ (s [2] []).store.erases ∧
      (∀ x ∈ (s [2] []).store.outstanding, x.amend ≠ .retiring ∧ x.amend.isOpening = false) ∧ (s [] []).store.erases = [] ∧
      (∃ t, exec (.eraseEnd true) (s [] []) = .next t ∧ 2 ≤ t.usableSectors.length ∧ t.IsFirstSpare 1) ∧
      ∃ t, exec (.eraseEnd true) (s [] [0, 2, 3]) = .next t ∧ t.usableSectors.length < 2 :=
  ⟨by decide +kernel, by decide +kernel, by decide +kernel, by decide +kernel, by decide +kernel, by decide +kernel,
    ⟨_, rfl, by decide +kernel, by unfold State.IsFirstSpare; decide +kernel⟩, _, rfl, by decide +kernel⟩

def job (target : ProvisioningTarget) : ProvisioningJob := { tag := 7, slot := 3, target := target }

def programming (target : ProvisioningTarget) (r : Option Running) : State :=
  { on with store := { on.store with job := some (job target), running := r } }

theorem witness_provisioningPrograms :
    let s := programming (.copy 3 catchAll) (some .provisioning)
    let l (again : Bool) := programming (.lock again) (some .provisioning)
    (programming (.lock false) none).store.running = none ∧ (programming (.lock false) none).store.erase = none ∧
      s.powered = true ∧ s.store.running = some .provisioning ∧ s.store.job = some (job (.copy 3 catchAll)) ∧
      s.array.provisioning[3]? = some ⟨List.replicate 4 .blank, .clear⟩ ∧ (l true).store.job = some (job (.lock true)) ∧
      (⟨[.blank, .blank, .blank, .void], .clear⟩ : ProvisioningSlot).nextCopy = none ∧
      (⟨[.void, .blank, .blank, .blank], .clear⟩ : ProvisioningSlot).nextCopy = some 1 := by decide +kernel

/-- R39: no committed copy stands after the copy programmed, be it the last or the first of four. -/
theorem witness_reload :
    let copies : List Copy := List.replicate 4 .blank
    3 < copies.length ∧ 0 < copies.length ∧ (∀ m x, 0 < m → copies[m]? ≠ some (.committed x)) ∧ 3 < on.windows.override.length := by
  refine ⟨by decide, by decide, ?_, by decide⟩
  intro m x _ h
  exact absurd (List.eq_of_mem_replicate (List.mem_of_getElem? h)) (by simp)

/-! ## Witnesses: resets and invariants -/

theorem witness_hardResets : on.powered = true := rfl

theorem witness_powerLoss :
    (running (.slotProgram slotProgram)).powered = true ∧
      (running (.slotProgram slotProgram)).store.running = some (.slotProgram slotProgram) ∧
      (running (.slotProgram slotProgram)).store.erase = none ∧ (programming (.lock true) (some .provisioning)).store.job = some (job (.lock true)) ∧
      ({ running (.slotProgram slotProgram) with
          store := { (running (.slotProgram slotProgram)).store with erase := some ⟨1, .suspended, false, 0⟩ } } : State).store.erase ≠ none ∧
      (running (.headerAmend ⟨0, .full, false⟩)).store.running = some (.headerAmend ⟨0, .full, false⟩) ∧
      (erasing .suspended false 0).store.running = none ∧ (erasing .suspended false 0).store.erase.isSome = true ∧
      (programming (.copy 0 catchAll) (some .provisioning)).store.job = some (job (.copy 0 catchAll)) := by decide +kernel

/-- R188: what the clauses on a scan's first part start from: a newest OPEN sector, no OPEN sector but a spare, and neither. -/
theorem witness_scanBegun :
    let newest := (crammed 55 (some 0) none).array
    let x (a : NvArray) (k : Nat) : Sector := a.sectors.getD k .erased
    (x newest 0).state = .opened ∧ (∀ j ∈ [1, 2, 3], (x newest j).state ≠ .opened) ∧
      (∀ k ∈ [0, 1, 2, 3], (x NvArray.made k).state = .erased) ∧
      (∀ k ∈ [0, 1, 2, 3], (x { newest with sectors := newest.sectors.map fun y => { y with full := true } } k).state = .full) := by
  decide +kernel

/-- A scan that ends with a spare, and one that ends with 56 slots used and none. -/
theorem witness_scanEnd :
    State.reset.powered = true ∧ State.reset.scanning = true ∧ 2 ≤ State.reset.usableSectors.length ∧
      (let s := { crammed 56 (some 0) none with scanning := true }
       s.store.current = some 0 ∧ 56 ≤ (s.sector 0).usedSlots ∧ s.NoSpare ∧ s.store.reclaims = [] ∧ s.store.clear = none ∧
         s.IsOldestFull 1 ∧ ∃ t, exec .scanEnd s = .next t ∧ t.store.ramOnly = false) :=
  ⟨rfl, rfl, by decide +kernel, rfl, by decide +kernel, by unfold State.NoSpare; decide +kernel, rfl, rfl,
    oldest_of (by decide +kernel) (by decide +kernel), _, rfl, by decide +kernel⟩

/-- R189: the sectors of sequence 6, 7, 8 and 9 are read in that order. -/
theorem witness_scanEnd_order :
    let s := crammed 56 (some 0) none
    let sequence (k : Nat) : Half := (s.sector k).sequence.getD 0
    let newer (i j : Nat) : Prop := 1 ≤ (sequence i - sequence j).toNat ∧ (sequence i - sequence j).toNat ≤ 32767
    ([1, 2, 3, 0] : List Nat).Nodup ∧ (∀ k ∈ [0, 1, 2, 3], (s.sector k).state = .opened ∨ (s.sector k).state = .full) ∧
      ([1, 2, 3, 0] : List Nat).Pairwise (fun i j => newer j i ∨ (¬ newer i j ∧ i < j)) := by decide +kernel

/-- A state with a queue of commands, for the statements about a step. -/
def queued (s : State) : State := { s with pending := [.epoch] }

/-- Every command of a queue that is not empty is taken to a next state. -/
theorem queued_isNext (s : State) : ∃ t, step (queued s) = .next t := exec_isNext .epoch { queued s with pending := [] }

theorem witness_outputsFollow : (queued reporting.settle).OutputsFollow ∧ ∃ t, step (queued reporting.settle) = .next t where
  left :=
    { marks := fun port => by cases port <;> decide
      hold := fun _ port => by cases port <;> decide +kernel
      wake := fun _ => by decide +kernel
      erase := fun _ e h => by simp [queued, reporting, on, State.settle, State.reset, Store.idle] at h }
  right := queued_isNext _

theorem queued_bounded : (queued on).Bounded where
  intake := by decide
  contexts := ⟨by decide, by intro c h; simp [queued, on, State.reset, Intake.reset] at h⟩
  completing := by intro n h; simp [queued, on, State.reset, Intake.reset] at h
  held := by decide
  receipts := by decide
  report := by simp [queued, on, State.reset, Report.reset]
  writes := by simp [queued, on, State.reset, Store.idle]
  requests := by decide
  replies := by decide
  reserved := by decide
  oneDeferred := .inl rfl
  reminderStep := by decide

theorem witness_bounded : (queued on).Bounded ∧ ∃ t, step (queued on) = .next t := ⟨queued_bounded, queued_isNext _⟩

theorem witness_fits :
    (queued (receiving (.header [0xB0]))).link.fits ∧ ∃ t, step (queued (receiving (.header [0xB0]))) = .next t :=
  ⟨⟨⟨by decide, rfl⟩, ⟨by decide, rfl⟩, by decide, by decide⟩, queued_isNext _⟩

theorem witness_ordered :
    (queued (unitOf (single (record 0 .delivered) none))).records.Ordered ∧
      ∃ t, step (queued (unitOf (single (record 0 .delivered) none))) = .next t := ⟨delivered_ordered, queued_isNext _⟩

theorem witness_entries : (fullIndex on).index.entries.length ≤ 160 ∧ (fullIndex on).records.Ordered :=
  ⟨by decide +kernel, still_ordered _ rfl rfl (by decide +kernel)⟩

theorem witness_indexLaw :
    (queued (withEntry (entry .noticeSeen 1 0) (unitOf (single (record 0 .delivered) none)))).indexLaw ∧
      ∃ t, step (queued (withEntry (entry .noticeSeen 1 0) (unitOf (single (record 0 .delivered) none)))) = .next t := by
  refine ⟨?_, queued_isNext _⟩
  refine ⟨fun h => by simp [queued, withEntry, unitOf, on] at h, by simp [queued, withEntry], ?_⟩
  intro r hr
  simp [queued, withEntry, unitOf, single, Records.reset] at hr
  subst hr
  exact ⟨entry .noticeSeen 1 0, by simp [queued, withEntry], rfl, rfl, rfl⟩

theorem witness_provisioningSound :
    (queued (provisioned [.committed catchAll] .set on)).provisioningSound ∧
      ((queued (provisioned [.committed catchAll] .set on)).provisioningSlot 0).locked = true ∧
      ∃ t, step (queued (provisioned [.committed catchAll] .set on)) = .next t := by
  refine ⟨⟨by simp [queued, provisioned, on, State.reset, Store.idle], ?_⟩, rfl, queued_isNext _⟩
  intro n _ x hx
  rcases n with _ | n
  · simp [queued, provisioned, State.provisioningSlot] at hx
    subst hx
    rfl
  · simp [queued, provisioned, State.provisioningSlot] at hx

theorem witness_resetMeets : NvArray.made.sectors.length = 4 ∧ ({ State.reset with powered := false } : State).powered = false := by
  decide

end Sys2Proof.Tests
end

section
/-!
PROOFS. The epoch (R1): what it leaves of the state, as one equation, and the reminder schedule it may carry out first (R145, R146).
-/

namespace Sys2Proof.Machine

/-! ## The reminder schedule -/

theorem reminderPeriod_succ {c : Nat} (h : c < 6) : reminderPeriod (c + 1) = 2 ^ c := by
  simp [reminderPeriod, Nat.succ_le_of_lt h]

theorem Record.remindAt_of_due {step : Half} {r : Record} {c : Nat} (hs : r.state = .delivered) (hp : r.attrs.periodCode = c + 1)
    (hc : c < 6) (hl : 0 < r.remindersLeft) (hn : r.reminder = none) (hd : step ≠ r.deliveryStep)
    (hm : (step - r.deliveryStep).toNat % 2 ^ c = 0) :
    r.remindAt step = { r with reminder := some step, remindersLeft := r.remindersLeft - 1 } := by
  have due : r.reminderDue step = true := by
    simp [Record.reminderDue, hs, hp, reminderPeriod_succ hc, hl, hn, hd, hm, -BitVec.toNat_sub]
  simp [Record.remindAt, due]

theorem Record.remindAt_of_not_due {step : Half} {r : Record}
    (h : r.state ≠ .delivered ∨ r.attrs.periodCode = 0 ∨ r.remindersLeft = 0 ∨ r.reminder ≠ none ∨ step = r.deliveryStep ∨
      ∃ c : Nat, r.attrs.periodCode = c + 1 ∧ c < 6 ∧ (step - r.deliveryStep).toNat % 2 ^ c ≠ 0) :
    r.remindAt step = r := by
  have notDue : r.reminderDue step = false := by
    rcases h with hs | hp | hl | hn | hd | ⟨c, hp, hc, hm⟩
    · simp [Record.reminderDue, hs]
    · simp [Record.reminderDue, hp, reminderPeriod]
    · simp [Record.reminderDue, hl]
    · simp [Record.reminderDue, hn]
    · simp [Record.reminderDue, hd]
    · simp [Record.reminderDue, hp, reminderPeriod_succ hc, hm, -BitVec.toNat_sub]
  simp [Record.remindAt, notDue]

/-- The schedule of the next reminder step, on every record, is what a reminder step does. -/
theorem ReminderStepTaken.of_schedule {s t : State} (ha : t.ack = { s.ack with step := s.ack.step + 1 })
    (hr : t.records = { s.records with active := s.records.active.map (Record.remindAt (s.ack.step + 1)) }) :
    ReminderStepTaken s t :=
  ⟨ha, _, hr, fun _ =>
    ⟨fun _ hs hp hc hl hn hd hm => Record.remindAt_of_due hs hp hc hl hn hd hm, Record.remindAt_of_not_due⟩⟩

/-! ## The epoch -/

theorem stepEpoch_succ (e : Word) : stepEpoch (e + 1) = decide ((e.toNat + 1) % 16 = 0) := by
  have low : ((e + 1).extractLsb' 0 4).toNat = (e.toNat + 1) % 16 := by
    have one : (1 : Word).toNat = 1 := rfl
    simp only [BitVec.extractLsb'_toNat, BitVec.toNat_add, one, Nat.shiftRight_zero]
    omega
  rw [stepEpoch, beq_eq_decide, ← low]
  exact decide_eq_decide.mpr (BitVec.toNat_inj (y := (0 : BitVec 4))).symm

/-- All that an epoch does (R1, R145, R160). -/
theorem State.advanceEpoch_eq (s : State) :
    s.advanceEpoch =
      { s with
        time := s.time.advance
        report := if s.due.flushCountdown then s.report.decrement else s.report
        ack := if s.due.reminderStep then { s.ack with step := s.ack.step + 1 } else s.ack
        records :=
          if s.due.reminderStep then { s.records with active := s.records.active.map (Record.remindAt (s.ack.step + 1)) }
          else s.records
        due := s.due.owe (s.time.epoch + 1) } := by
  unfold State.advanceEpoch
  cases hf : s.due.flushCountdown <;> cases hr : s.due.reminderStep <;>
    simp [hr, State.takeStep_eq, State.takeDecrement, State.onReport, State.onDue, State.onTime, EpochDue.owe]

theorem State.advanceEpoch_onlyChanges (s : State) :
    OnlyChanges [.time, .due, .report, .ack, .records, .outputs] s s.advanceEpoch := by
  intro x hx
  rw [State.advanceEpoch_eq]
  cases x <;> simp_all [Piece.same]

/-- Settles O21: an epoch is one equation on the state (`State.advanceEpoch_eq`), and the outputs follow. -/
theorem epochAdvancesBothCounts : Obligations.EpochAdvancesBothCounts := by
  intro s hp
  refine ⟨s.advanceEpoch.settle, State.occur_of_ready hp rfl, s.advanceEpoch_onlyChanges.settled (by simp), ?_⟩
  simp only [State.settle_time, State.settle_report, State.settle_due, State.settle_ack, State.settle_records]
  rw [State.advanceEpoch_eq]
  refine ⟨rfl, ?queue, ?countdown, fun hr => ?step, fun hr => ?noStep, ?due⟩
  case queue => cases hf : s.due.flushCountdown <;> rfl
  case countdown => cases hf : s.due.flushCountdown <;> rfl
  case step => exact .of_schedule (if_pos hr) (if_pos hr)
  case noStep => simp [hr]
  case due => exact congrArg (EpochDue.mk _ _ _ _ _ true) (stepEpoch_succ _)

end Sys2Proof.Machine
end

section
/-!
PROOFS. What a reset leaves of the array (R190), each kind as one equation on the state, and that what the scan reads there is one of the
readings the statements allow (R170, R188).
-/

namespace Sys2Proof.Machine

/-! ## Operations cut or ended -/

theorem State.cutErase_eq (s : State) :
    s.cutErase = { s with array := { s.array with sectors := s.eraseCut s.array.sectors } } := by
  unfold State.cutErase State.eraseCut
  cases s.store.erase with
  | none => rfl
  | some e => rfl

/-- A power-on or pin reset changes nothing but the array before it resets the blocks. -/
theorem State.cutErase_cutProgram (s : State) : s.cutProgram.cutErase = { s with array := s.arrayCut } := by
  rw [State.cutErase_eq]
  unfold State.cutProgram State.arrayCut State.eraseCut
  rcases s.store.running with _ | w | r | _
  case none => rfl
  case some.slotProgram => rfl
  case some.headerAmend => rfl
  case some.provisioning => rcases s.store.job with _ | ⟨_, _, _ | _⟩ <;> rfl

/-- A soft reset changes nothing but the array before it resets the blocks. -/
theorem State.cutErase_finishProgram (verify : SlotVerify) (s : State) :
    (s.finishProgram verify).cutErase = { s with array := s.arrayEnded verify } := by
  rw [State.cutErase_eq]
  unfold State.finishProgram State.arrayEnded State.eraseCut
  rcases s.store.running with _ | w | r | _
  case none => rfl
  case some.slotProgram => rfl
  case some.headerAmend => rfl
  case some.provisioning => rcases s.store.job with _ | ⟨_, _, _ | _⟩ <;> rfl

/-! ## Readings -/

theorem forall₂_mapIdx {α β : Type} {R : α → β → Prop} {f : Nat → α → β} (h : ∀ n x, R x (f n x)) (l : List α) :
    List.Forall₂ R l (l.mapIdx f) := by
  induction l generalizing f with
  | nil => exact .nil
  | cons x xs ih => exact List.mapIdx_cons ▸ .cons (h 0 x) (ih fun n => h (n + 1))

theorem Slot.readsAs_resolve (scan k n : Nat) (x : Slot) : x.ReadsAs (x.resolve scan k n) := by
  cases x with
  | cut f => simp only [Slot.ReadsAs, Slot.resolve]; split_ifs <;> simp
  | markFailed f => simp only [Slot.ReadsAs, Slot.resolve]; split <;> simp
  | _ => rfl

theorem Copy.readsAs_resolve (scan slot n : Nat) (x : Copy) : x.ReadsAs (x.resolve scan slot n) := by
  cases x with
  | cut b => simp only [Copy.ReadsAs, Copy.resolve]; split <;> simp
  | _ => rfl

theorem LockMark.resolve_cases (scan slot : Nat) (x : LockMark) :
    x.resolve scan slot = x ∨ (x = .doubtful ∧ x.resolve scan slot = .set) := by
  cases x with
  | doubtful => simp only [LockMark.resolve]; split <;> simp
  | _ => exact .inl rfl

theorem ProvisioningSlot.readsAs_resolve (scan slot : Nat) (x : ProvisioningSlot) : x.ReadsAs (x.resolve scan slot) :=
  ⟨forall₂_mapIdx (Copy.readsAs_resolve scan slot) x.copies, x.lock.resolve_cases scan slot⟩

/-! ### Sectors -/

section
variable (scan k : Nat) (x : Sector)

@[simp] theorem Sector.resolveDoubt_doubt : (x.resolveDoubt scan k).doubt = none := by
  unfold Sector.resolveDoubt
  split <;> simp_all

@[simp] theorem Sector.resolveDoubt_halfErased : (x.resolveDoubt scan k).halfErased = x.halfErased := by
  unfold Sector.resolveDoubt
  split <;> rfl

@[simp] theorem Sector.resolveDoubt_slots : (x.resolveDoubt scan k).slots = x.slots := by
  unfold Sector.resolveDoubt
  split <;> rfl

theorem Sector.resolveDoubt_of_sure {x : Sector} (h : x.doubt = none) : x.resolveDoubt scan k = x := by
  simp [Sector.resolveDoubt, h]

@[simp] theorem Sector.resolveErase_halfErased : (x.resolveErase scan k).halfErased = false := by
  unfold Sector.resolveErase
  split
  · simp_all
  · split <;> rfl

theorem Sector.resolveErase_of_whole {x : Sector} (h : x.halfErased = false) : x.resolveErase scan k = x := by
  simp [Sector.resolveErase, h]

/-- A sector with no erase in doubt keeps its header but for the amend in doubt, and its slots are read. -/
theorem Sector.resolve_of_whole {x : Sector} (h : x.halfErased = false) :
    x.resolve scan k = { x.resolveDoubt scan k with slots := x.slots.mapIdx (Slot.resolve scan k) } := by
  simp [Sector.resolve, Sector.resolveErase_of_whole scan k h]

/-- Reading the slots changes none of those that are blank. -/
theorem slots_resolve_of_blank {l : List Slot} (h : (l.all fun c => !c.used) = true) : l.mapIdx (Slot.resolve scan k) = l := by
  refine (List.mapIdx_eq_iff).mpr fun n => ?_
  cases hn : l[n]? with
  | none => rfl
  | some c =>
    have unused := List.all_eq_true.mp h c (List.mem_of_getElem? hn)
    cases c <;> simp_all [Slot.used, Slot.resolve]

theorem Sector.blank_of_erased {x : Sector} (h : x.state = .erased) : (x.slots.all fun c => !c.used) = true := by
  unfold Sector.state at h
  split_ifs at h
  assumption

theorem Sector.state_eq_retiring {x : Sector} : x.state = .retiring ↔ x.worn = false ∧ x.retiring = true := by
  unfold Sector.state
  split_ifs <;> simp_all

/-- The state of an ERASED or RETIRING sector does not change when its slots are read. -/
theorem Sector.state_resolve_slots {x : Sector} (h : x.state = .erased ∨ x.state = .retiring) :
    ({ x with halfErased := false, slots := x.slots.mapIdx (Slot.resolve scan k) } : Sector).state = x.state := by
  rcases h with h | h
  · rw [slots_resolve_of_blank scan k (Sector.blank_of_erased h)]
    rfl
  · have header := Sector.state_eq_retiring.mp h
    exact h ▸ Sector.state_eq_retiring.mpr header

/-- A sector whose erase was cut or failed, with a void slot, reads invalid unless it is WORN. -/
theorem Sector.state_halfErased {x : Sector} (hw : x.worn = false) (hs : x.slots ≠ []) :
    ({ Sector.erased with
        worn := x.worn, doubt := x.doubt, slots := (x.slots.set 0 .void).mapIdx (Slot.resolve scan k) } : Sector).state = .invalid := by
  obtain ⟨c, l, hl⟩ := List.exists_cons_of_ne_nil hs
  simp [Sector.state, Sector.erased, hw, hl, Slot.resolve, Slot.used]

theorem Sector.readsAs_resolve : x.ReadsAs (x.resolve scan k) := by
  refine ⟨by simp [Sector.resolve], by simp [Sector.resolve], fun hh => ?whole, fun hh hd hs hx => ?halfErased⟩
  case whole =>
    rw [Sector.resolve_of_whole scan k hh]
    refine ⟨forall₂_mapIdx (Slot.readsAs_resolve scan k) x.slots, fun hd => ?sure, fun q hd => ?opening, fun hd => ?full,
      fun hd => ?retiring, fun hd => ?worn⟩ <;> simp only [Sector.resolveDoubt, hd]
    case opening => cases Config.unknownReads scan (.sequence k) <;> cases Config.unknownReads scan (.mark k) <;> simp
    all_goals cases Config.unknownReads scan (.mark k) <;> simp
  case halfErased =>
    have notWorn : x.worn = false := by cases hw : x.worn <;> simp_all [Sector.state]
    cases hu : Config.unknownReads scan (.erase k) with
    | true =>
      left
      simpa [Sector.resolve, Sector.resolveErase, hh, hu, Sector.resolveDoubt_of_sure, hd] using Sector.state_resolve_slots scan k hx
    | false =>
      right
      simpa [Sector.resolve, Sector.resolveErase, hh, hu, Sector.resolveDoubt_of_sure, hd] using
        Sector.state_halfErased scan k notWorn hs
end

/-- What a scan finds is one of the readings of the array it is made on. -/
theorem NvArray.readsAs_resolve (scan : Nat) (a : NvArray) : a.ReadsAs (a.resolve scan) :=
  ⟨forall₂_mapIdx (Sector.readsAs_resolve scan) a.sectors, forall₂_mapIdx (ProvisioningSlot.readsAs_resolve scan) a.provisioning⟩

end Sys2Proof.Machine
end

section
/-!
PROOFS. The first part of the scan (R188): which sector it makes current and what it asks for, and all that it leaves as it was.
-/

namespace Sys2Proof.Machine

/-! ## Putting in order, where one element comes after all others -/

section
variable {α : Type} {before : α → α → Bool} {k : α}

theorem insertBefore_concat {x : α} (h : before k x = false) (l : List α) :
    insertBefore before x (l ++ [k]) = insertBefore before x l ++ [k] := by
  induction l with
  | nil => simp [insertBefore, h]
  | cons y ys ih => by_cases hy : before y x = true <;> simp [insertBefore, hy, ih]

theorem insertBefore_of_all_before {l : List α} (h : ∀ y ∈ l, before y k = true) : insertBefore before k l = l ++ [k] := by
  induction l with
  | nil => rfl
  | cons y ys ih => simp [insertBefore, h y, ih fun z hz => h z (List.mem_cons_of_mem y hz)]

/-- An element that comes after every other one ends the order, however the others compare. -/
theorem arrange_of_last [DecidableEq α] {l : List α} (hk : k ∈ l) (hn : l.Nodup)
    (h : ∀ j ∈ l, j ≠ k → before j k = true ∧ before k j = false) :
    arrange before l = arrange before (l.erase k) ++ [k] := by
  induction l with
  | nil => cases hk
  | cons x xs ih =>
    obtain ⟨hx, hn⟩ := List.nodup_cons.mp hn
    by_cases hxk : x = k
    · subst hxk
      have others : ∀ y ∈ arrange before xs, before y x = true := fun y hy =>
        have hy := (arrange_perm before xs).mem_iff.mp hy
        (h y (List.mem_cons_of_mem x hy) fun e => hx (e ▸ hy)).1
      simpa [arrange] using insertBefore_of_all_before others
    · have hk := (List.mem_cons.mp hk).resolve_left (Ne.symm hxk)
      have last := (h x List.mem_cons_self hxk).2
      rw [List.erase_cons_tail (by simpa using hxk), arrange, arrange, ih hk hn fun j hj => h j (List.mem_cons_of_mem x hj),
        insertBefore_concat last]
end

/-- In a list in increasing order a least element stands first. -/
theorem eq_cons_of_least {l : List Nat} {k : Nat} (hl : l.Pairwise (· < ·)) (hk : k ∈ l) (h : ∀ j ∈ l, k ≤ j) : l = k :: l.tail := by
  cases l with
  | nil => cases hk
  | cons x xs =>
    rcases List.mem_cons.mp hk with rfl | hk
    · rfl
    · have := List.rel_of_pairwise_cons hl hk
      have := h x List.mem_cons_self
      omega

/-! ## Sectors by state and by sequence -/

section
variable {s : State}

/-- While no sector has been taken as WORN, a sector of a state but WORN is usable. -/
theorem State.sectorsIn_eq (ht : s.store.takenWorn = []) {x : SectorState} (hx : x ≠ .worn) :
    s.sectorsIn x = sectorNumbers.filter fun k => (s.sector k).state = x := by
  simp only [State.sectorsIn, State.usableSectors, List.filter_filter]
  refine List.filter_congr fun k _ => ?_
  by_cases h : (s.sector k).state = x <;> simp [State.usable, ht, h, hx]

theorem State.mem_sectorsIn (ht : s.store.takenWorn = []) {x : SectorState} (hx : x ≠ .worn) {k : Nat} :
    k ∈ s.sectorsIn x ↔ k ∈ sectorNumbers ∧ (s.sector k).state = x := by
  simp [State.sectorsIn_eq ht hx]

theorem State.sectorsIn_sorted (s : State) (x : SectorState) : (s.sectorsIn x).Pairwise (· < ·) :=
  ((by decide : sectorNumbers.Pairwise (· < ·)).filter s.usable).filter _

theorem State.sectorsIn_nodup (s : State) (x : SectorState) : (s.sectorsIn x).Nodup :=
  (s.sectorsIn_sorted x).imp fun h => Nat.ne_of_lt h

theorem State.olderSector_of_newer {j k : Nat} (h : newerSequence (s.sequenceOf k) (s.sequenceOf j) = true) :
    s.olderSector j k = true ∧ s.olderSector k j = false := by
  have back : newerSequence (s.sequenceOf j) (s.sequenceOf k) = false := by
    simp only [newerSequence, Bool.and_eq_true, decide_eq_true_eq, BitVec.toNat_sub, Bool.and_eq_false_iff,
      decide_eq_false_iff_not] at h ⊢
    omega
  simp [State.olderSector, h, back]

/-- The newest of some sectors comes last of them. -/
theorem State.bySequence_of_newest {ks : List Nat} {k : Nat} (hk : k ∈ ks) (hn : ks.Nodup)
    (h : ∀ j ∈ ks, j ≠ k → newerSequence (s.sequenceOf k) (s.sequenceOf j) = true) :
    s.bySequence ks = s.bySequence (ks.erase k) ++ [k] :=
  arrange_of_last hk hn fun j hj hjk => State.olderSector_of_newer (h j hj hjk)

theorem State.mem_bySequence {ks : List Nat} {k : Nat} : k ∈ s.bySequence ks ↔ k ∈ ks := (arrange_perm _ ks).mem_iff

/-! ## What the choice of the current sector leaves -/

/-- Nothing runs on the array, no write or provisioning program waits, no clear is in progress, and no failure has been counted (R190). -/
structure Store.Quiet (x : Store) : Prop where
  running : x.running = none
  erase : x.erase = none
  writes : x.writes = []
  retry : x.retry = none
  job : x.job = none
  clear : x.clear = none
  failures : x.failures = [0, 0, 0, 0]

/-- The choice of the current sector has moved on the headers and the store's working state, and nothing else. -/
structure State.ChoosesIn (s t : State) : Prop where
  rest : t = { s with array := t.array, store := t.store }
  provisioning : t.array.provisioning = s.array.provisioning
  erases : t.store.erases = s.store.erases
  reclaims : t.store.reclaims = s.store.reclaims
  quiet : s.store.Quiet → t.store.Quiet

theorem State.ChoosesIn.refl (s : State) : s.ChoosesIn s := ⟨rfl, rfl, rfl, rfl, id⟩

theorem State.ChoosesIn.trans {s t u : State} (h : s.ChoosesIn t) (h' : t.ChoosesIn u) : s.ChoosesIn u where
  rest := by
    have := h'.rest
    rw [h.rest] at this
    exact this
  provisioning := h'.provisioning.trans h.provisioning
  erases := h'.erases.trans h.erases
  reclaims := h'.reclaims.trans h.reclaims
  quiet q := h'.quiet (h.quiet q)

theorem State.ChoosesIn.onSector (s : State) (k : Nat) (f : Sector → Sector) : s.ChoosesIn (s.onSector k f) :=
  ⟨rfl, rfl, rfl, rfl, id⟩

/-- An update of the store's amends and of what is current. -/
theorem State.ChoosesIn.onStore (s : State) {f : Store → Store}
    (h : f s.store =
      { s.store with
        amends := (f s.store).amends, current := (f s.store).current, lastSequence := (f s.store).lastSequence }) :
    s.ChoosesIn (s.onStore f) where
  rest := rfl
  provisioning := rfl
  erases := by rw [State.onStore_store, h]
  reclaims := by rw [State.onStore_store, h]
  quiet q := by
    rw [State.onStore_store, h]
    exact ⟨q.running, q.erase, q.writes, q.retry, q.job, q.clear, q.failures⟩

theorem State.ChoosesIn.checkRamOnly (s : State) : s.ChoosesIn s.checkRamOnly := by
  unfold State.checkRamOnly
  split
  · exact ⟨rfl, rfl, rfl, rfl, fun q => ⟨q.running, q.erase, rfl, rfl, q.job, q.clear, q.failures⟩⟩
  · exact .refl s

theorem State.ChoosesIn.retireForGood {k : Nat} (he : k ∉ s.store.erases) (hr : k ∉ s.store.reclaims) :
    s.ChoosesIn (s.onStore (Store.retireForGood k)) where
  rest := rfl
  provisioning := rfl
  erases := List.filter_eq_self.mpr fun j hj => by simpa using ne_of_mem_of_not_mem hj he
  reclaims := List.filter_eq_self.mpr fun j hj => by simpa using ne_of_mem_of_not_mem hj hr
  quiet q := ⟨q.running, q.erase, q.writes, q.retry, q.job, q.clear, q.failures⟩

theorem State.ChoosesIn.openSpare {ks : List Nat} (q : Half) (n : Nat) (he : ∀ k ∈ ks, k ∉ s.store.erases)
    (hr : ∀ k ∈ ks, k ∉ s.store.reclaims) : s.ChoosesIn (s.openSpare q n ks) := by
  induction ks generalizing s n with
  | nil => cases n <;> exact .refl s
  | cons k rest ih =>
    cases n with
    | zero => exact (State.ChoosesIn.onSector s k _).trans (.onStore _ rfl)
    | succ n =>
      have taken := ((State.ChoosesIn.onSector s k fun x => { x with doubt := some (.opening q) }).trans
        (.retireForGood (he k List.mem_cons_self) (hr k List.mem_cons_self))).trans (.checkRamOnly _)
      simp only [State.openSpare]
      split
      · exact taken
      · refine taken.trans (ih n ?_ ?_)
        · rw [taken.erases]
          exact fun j hj => he j (List.mem_cons_of_mem k hj)
        · rw [taken.reclaims]
          exact fun j hj => hr j (List.mem_cons_of_mem k hj)

theorem State.ChoosesIn.closeWhenUsed (s : State) (k : Nat) : s.ChoosesIn (s.closeWhenUsed k) := by
  unfold State.closeWhenUsed State.closeCurrent
  split
  · split
    · exact .onStore s rfl
    · exact .refl s
  · exact .refl s

/-- The choice of the current sector opens or retires no sector that is to be erased. -/
theorem State.ChoosesIn.chooseCurrent (worn : Nat) (ht : s.store.takenWorn = []) (he : s.store.erases = s.sectorsToReclaim)
    (hr : s.store.reclaims = s.sectorsToReclaim) : s.ChoosesIn (s.chooseCurrent worn) := by
  have spare : ∀ k ∈ s.sectorsIn .erased, k ∉ s.sectorsToReclaim := fun k hk => by
    simp [State.sectorsToReclaim, ((State.mem_sectorsIn ht (by decide)).mp hk).2]
  unfold State.chooseCurrent
  split
  · exact (State.ChoosesIn.onStore s rfl).trans (.closeWhenUsed _ _)
  · exact .openSpare _ _ (he ▸ spare) (hr ▸ spare)

/-! ## The choice of the current sector, case by case -/

/-- The FULL amends asked for where sector `k` is made current: those of the other OPEN sectors, oldest first. -/
def State.olderAmends (s : State) (k : Nat) : List AmendRequest :=
  (s.bySequence ((s.sectorsIn .opened).erase k)).map fun j => ⟨j, .full, false⟩

theorem State.mem_olderAmends {k : Nat} {r : AmendRequest} :
    r ∈ s.olderAmends k ↔ r.amend = .full ∧ r.again = false ∧ r.sector ∈ s.sectorsIn .opened ∧ r.sector ≠ k := by
  obtain ⟨j, a, again⟩ := r
  simp only [State.olderAmends, List.mem_map, State.mem_bySequence, (s.sectorsIn_nodup .opened).mem_erase_iff,
    AmendRequest.mk.injEq]
  constructor
  · rintro ⟨i, ⟨hik, hi⟩, rfl, rfl, rfl⟩
    exact ⟨rfl, rfl, hi, hik⟩
  · rintro ⟨ha, hg, hj, hjk⟩
    exact ⟨j, ⟨hjk, hj⟩, rfl, ha.symm, hg.symm⟩

/-- The newest OPEN sector is taken, and the older ones are asked for their FULL amend. -/
theorem State.chooseCurrent_of_newest {k : Nat} (worn : Nat) (hk : k ∈ s.sectorsIn .opened)
    (h : ∀ j ∈ s.sectorsIn .opened, j ≠ k → newerSequence (s.sequenceOf k) (s.sequenceOf j) = true) :
    s.chooseCurrent worn =
      (s.onStore fun x => { x.makeCurrent k (s.sequenceOf k) with amends := s.olderAmends k }).closeWhenUsed k := by
  simp [State.chooseCurrent, State.olderAmends, State.bySequence_of_newest hk (s.sectorsIn_nodup _) h]

theorem State.chooseCurrent_of_none_opened (worn : Nat) (h : s.sectorsIn .opened = []) :
    s.chooseCurrent worn = s.openSpare s.scanSequence worn (s.sectorsIn .erased) := by
  simp [State.chooseCurrent, h, State.bySequence, arrange]

theorem State.scanSequence_of_none_full (h : s.sectorsIn .full = []) : s.scanSequence = 0 := by
  simp [State.scanSequence, h, State.bySequence, arrange]

theorem State.scanSequence_of_newest_full {j : Nat} (hj : j ∈ s.sectorsIn .full)
    (h : ∀ i ∈ s.sectorsIn .full, i ≠ j → newerSequence (s.sequenceOf j) (s.sequenceOf i) = true) :
    s.scanSequence = s.sequenceOf j + 1 := by
  simp [State.scanSequence, State.bySequence_of_newest hj (s.sectorsIn_nodup _) h]

/-- A current OPEN sector whose FULL amend is not asked for is asked for it just where it has no next slot (R179). -/
theorem State.closeWhenUsed_of_current {k : Nat} (hc : s.store.current = some k) (hl : s.store.clear = none)
    (ho : (s.sector k).state = .opened) (ha : s.store.hasAmend k .full = false) :
    s.closeWhenUsed k = if (s.sector k).nextSlot = none then s.onStore (Store.requestAmend k .full) else s := by
  simp [State.closeWhenUsed, State.closeCurrent, hc, hl, ho, ha]

/-- The scan that finds no OPEN sector but a spare, which its opening does not fail. -/
theorem State.chooseCurrent_spare {k : Nat} (hn : s.sectorsIn .opened = []) (hk : k ∈ s.sectorsIn .erased)
    (h : ∀ j ∈ s.sectorsIn .erased, k ≤ j) :
    s.chooseCurrent 0 =
      (s.onSector k (Sector.program (.opening s.scanSequence))).onStore (Store.makeCurrent k s.scanSequence) := by
  rw [State.chooseCurrent_of_none_opened 0 hn, eq_cons_of_least (s.sectorsIn_sorted _) hk h]
  rfl

/-! ## The first part of the scan -/

/-- The store's working state when the choice of the current sector begins, with these sectors queued for erase. -/
def Store.scanned (queue : List Nat) : Store := { Store.idle with erases := queue, reclaims := queue }

theorem Store.scanned_quiet (queue : List Nat) : (Store.scanned queue).Quiet := ⟨rfl, rfl, rfl, rfl, rfl, rfl, rfl⟩

section
variable (hs : s.store = .scanned s.sectorsToReclaim) (worn : Nat)
include hs

theorem State.ChoosesIn.chooseCurrent_of_scanned : s.ChoosesIn (s.chooseCurrent worn) :=
  .chooseCurrent worn (by rw [hs]; rfl) (by rw [hs]; rfl) (by rw [hs]; rfl)

theorem State.mem_sectorsIn_of_scanned {x : SectorState} (hx : x ≠ .worn) {k : Nat} :
    k ∈ s.sectorsIn x ↔ k ∈ sectorNumbers ∧ (s.sector k).state = x :=
  State.mem_sectorsIn (by rw [hs]; rfl) hx

/-- The scan that finds a newest OPEN sector: the array stands, and the amends asked for are FULL amends. -/
theorem State.chooseCurrent_newest {k : Nat} (hk : k ∈ s.sectorsIn .opened)
    (h : ∀ j ∈ s.sectorsIn .opened, j ≠ k → newerSequence (s.sequenceOf k) (s.sequenceOf j) = true) :
    (s.chooseCurrent worn).array = s.array ∧ (s.chooseCurrent worn).store.current = some k ∧
      (s.chooseCurrent worn).store.lastSequence = some (s.sequenceOf k) ∧
      ∀ r : AmendRequest, r ∈ (s.chooseCurrent worn).store.amends ↔
        r.amend = .full ∧ r.again = false ∧ r.sector ∈ s.sectorsIn .opened ∧ (r.sector ≠ k ∨ (s.sector k).nextSlot = none) := by
  have hopen := ((State.mem_sectorsIn_of_scanned hs (by decide)).mp hk).2
  let u := s.onStore fun x => { x.makeCurrent k (s.sequenceOf k) with amends := s.olderAmends k }
  have notAsked : u.store.hasAmend k .full = false := by
    have : ∀ r ∈ s.olderAmends k, r.sector ≠ k := fun r hr => (State.mem_olderAmends.mp hr).2.2.2
    simpa [u, hs, Store.hasAmend, Store.outstanding, Store.makeCurrent, Store.scanned, Store.idle] using
      fun r hr e => absurd e (this r hr)
  have chosen : s.chooseCurrent worn = if (s.sector k).nextSlot = none then u.onStore (Store.requestAmend k .full) else u := by
    rw [State.chooseCurrent_of_newest worn hk h]
    exact State.closeWhenUsed_of_current rfl (by simp [hs, Store.makeCurrent, Store.scanned, Store.idle]) hopen notAsked
  rw [chosen]
  by_cases hslot : (s.sector k).nextSlot = none
  · rw [if_pos hslot]
    refine ⟨rfl, rfl, rfl, fun r => ?_⟩
    have current : r = ⟨k, .full, false⟩ ↔ r.amend = .full ∧ r.again = false ∧ r.sector = k := by
      obtain ⟨j, a, g⟩ := r
      simp only [AmendRequest.mk.injEq]
      tauto
    simp only [State.onStore_store, Store.requestAmend, u, List.mem_append, State.mem_olderAmends, List.mem_singleton, current, hslot,
      or_true, and_true]
    by_cases hr : r.sector = k
    · simp [hr, hk]
    · simp [hr]
  · rw [if_neg hslot]
    refine ⟨rfl, rfl, rfl, fun r => ?_⟩
    simp [u, State.mem_olderAmends, hslot]

/-- The choice of the current sector is what the statements say of the scan's first part. -/
theorem State.chooseCurrent_scanBegun : (s.chooseCurrent worn).ScanBegun s.array worn := by
  have chosen := State.ChoosesIn.chooseCurrent_of_scanned hs worn
  have inState {x : SectorState} (hx : x ≠ .worn) {k : Nat} := State.mem_sectorsIn_of_scanned hs hx (k := k)
  have noneIn {x : SectorState} (hx : x ≠ .worn) (h : ∀ k ∈ sectorNumbers, (s.sector k).state ≠ x) : s.sectorsIn x = [] :=
    List.eq_nil_iff_forall_not_mem.mpr fun k hk => h k ((inState hx).mp hk).1 ((inState hx).mp hk).2
  have newer {j k : Nat} (h : 1 ≤ (s.sequenceOf k - s.sequenceOf j).toNat ∧ (s.sequenceOf k - s.sequenceOf j).toNat ≤ 32767) :
      newerSequence (s.sequenceOf k) (s.sequenceOf j) = true := by simpa only [newerSequence, Bool.and_eq_true, decide_eq_true_eq]
  have queue : s.sectorsToReclaim =
      [0, 1, 2, 3].filter fun k => (s.sector k).state = .retiring || (s.sector k).state = .invalid := by
    simp only [State.sectorsToReclaim, sectorNumbers, beq_eq_decide]
  refine ⟨chosen.provisioning, chosen.erases.trans ((congrArg Store.erases hs).trans queue),
    chosen.reclaims.trans ((congrArg Store.reclaims hs).trans queue), fun k hk ho hnew => ?newest,
    fun hw hno k hk he hleast => ?spare, fun hneither => ?neither⟩
  case newest =>
    have opened := (inState (k := k) (x := .opened) (by decide)).mpr ⟨hk, ho⟩
    obtain ⟨harray, hcurrent, hlast, hamends⟩ := State.chooseCurrent_newest hs worn opened fun j hj hjk =>
      have hj := (inState (by decide)).mp hj
      newer (hnew j hj.1 hj.2 hjk)
    refine ⟨harray, hcurrent, hlast, fun r => (hamends r).trans ?_⟩
    rw [inState (by decide), and_assoc]
    rfl
  case spare =>
    subst hw
    rw [State.chooseCurrent_spare (noneIn (by decide) hno) ((inState (by decide)).mpr ⟨hk, he⟩) fun j hj =>
      have hj := (inState (by decide)).mp hj
      hleast j hj.1 hj.2]
    refine ⟨rfl, by rw [State.onStore_store, State.onSector, State.onArray_store, hs]; rfl, s.scanSequence, rfl, rfl, fun hfull => ?_,
      fun j hj hfull hnew => ?_⟩
    · exact State.scanSequence_of_none_full (noneIn (by decide) hfull)
    · exact State.scanSequence_of_newest_full ((inState (by decide)).mpr ⟨hj, hfull⟩) fun i hi hij =>
        have hi := (inState (by decide)).mp hi
        newer (hnew i hi.1 hi.2 hij)
  case neither =>
    have none : s.chooseCurrent worn = s := by
      rw [State.chooseCurrent_of_none_opened worn (noneIn (by decide) fun k hk => (hneither k hk).1),
        noneIn (by decide) fun k hk => (hneither k hk).2]
      cases worn <;> rfl
    rw [none, hs]
    exact ⟨rfl, rfl, rfl⟩
end
end

end Sys2Proof.Machine
end

section
/-!
PROOFS. The resets: what each leaves, as one equation on the state but for the array and the store's working state, on which the first part
of the scan was made.
-/

namespace Sys2Proof.Machine

/-! ## The scan a reset begins -/

/-- The state in which the scan of an idle store, having read the array, chooses the current sector. -/
def State.scanned (s : State) : State :=
  let t := { s with array := s.array.resolve s.scans }
  { t with store := .scanned t.sectorsToReclaim }

theorem State.startUpScan_of_idle (worn : Nat) {s : State} (h : s.store = .idle) :
    s.startUpScan worn = s.scanned.chooseCurrent worn := by
  simp only [State.startUpScan, State.onStore, State.onArray, State.scanned, h, Store.scanned]

/-! ## What a reset leaves -/

/-- The state a reset leaves, with this array and this working state of the store. -/
def State.afterReset (soft : Bool) (rate : BitVec 2) (a : NvArray) (x : Store) (s : State) : State :=
  { s.resetBlocks soft with rate := rate, array := a, store := x }

/-- All that a reset leaves before its outputs follow: the reset state of every block, and the first part of the scan made. -/
theorem State.endReset_cases (soft : Bool) (rate : BitVec 2) (worn : Nat) (s : State) :
    ∃ a x, s.endReset soft rate worn = s.afterReset soft rate a x ∧ x.Quiet ∧
      (s.afterReset soft rate a x).ScanBegun (s.array.resolve (s.scans + 1)) worn := by
  let u := State.scanned { s.resetBlocks soft with rate := rate }
  have chosen : u.ChoosesIn (u.chooseCurrent worn) := .chooseCurrent_of_scanned rfl worn
  have begun : (u.chooseCurrent worn).ScanBegun u.array worn := State.chooseCurrent_scanBegun rfl worn
  exact ⟨_, _, (State.startUpScan_of_idle worn rfl).trans chosen.rest, chosen.quiet (Store.scanned_quiet _), begun⟩

theorem PortState.settle_reset {marks : Marks} (h : 1 ≤ marks.high) (level : Bool) :
    (PortState.reset level).settle marks = .reset level := by
  have : ¬ marks.high ≤ 0 := by omega
  simp [PortState.settle, PortState.reset, holdLevel, Fifo.occupancy, framesSize, this]

/-- The marks that keep the outputs of a part in its reset state released. -/
def Settings.above (x : Settings) : Prop := 1 ≤ x.backlogMark ∧ 1 ≤ x.marksM.high ∧ 1 ≤ x.marksP.high

theorem Settings.reset_above : Settings.reset.above := by unfold Settings.above; decide

/-- A part in its reset state has no cause to raise WAKE. -/
theorem State.wakeLevel_afterReset (soft : Bool) (rate : BitVec 2) (a : NvArray) (x : Store) (s : State)
    (hb : 1 ≤ (s.resetBlocks soft).settings.backlogMark) : (s.afterReset soft rate a x).wakeLevel = false := by
  have noBacklog : (s.afterReset soft rate a x).backlog = false :=
    decide_eq_false (by change ¬ (s.resetBlocks soft).settings.backlogMark ≤ 0; omega)
  simp only [State.wakeLevel, State.causes, noBacklog]
  rfl

/-- The outputs stand where the reset puts them. -/
theorem State.settle_afterReset {soft : Bool} {rate : BitVec 2} {a : NvArray} {x : Store} {s : State}
    (hs : (s.resetBlocks soft).settings.above) (hx : x.erase = none) :
    (s.afterReset soft rate a x).settle = s.afterReset soft rate a x := by
  obtain ⟨hb, hm, hp⟩ := hs
  have store : { x with erase := none } = x := by rw [← hx]
  have link : { Link.reset s.link.m.holdIn s.link.p.holdIn with
      m := (PortState.reset s.link.m.holdIn).settle (s.resetBlocks soft).settings.marksM
      p := (PortState.reset s.link.p.holdIn).settle (s.resetBlocks soft).settings.marksP } =
      Link.reset s.link.m.holdIn s.link.p.holdIn := by
    rw [PortState.settle_reset hm, PortState.settle_reset hp]
    rfl
  simp only [State.settle, State.wakeLevel_afterReset _ _ _ _ _ hb]
  simp only [State.afterReset, hx, Option.map_none, store]
  exact congrArg (fun l => { s.resetBlocks soft with rate := rate, array := a, store := x, link := l }) link

/-- All that a reset leaves. -/
theorem State.settle_endReset {soft : Bool} (rate : BitVec 2) (worn : Nat) {s : State} (hs : (s.resetBlocks soft).settings.above) :
    ∃ a x, (s.endReset soft rate worn).settle = s.afterReset soft rate a x ∧ x.Quiet ∧
      (s.afterReset soft rate a x).ScanBegun (s.array.resolve (s.scans + 1)) worn := by
  obtain ⟨a, x, left, quiet, begun⟩ := s.endReset_cases soft rate worn
  exact ⟨a, x, left ▸ State.settle_afterReset hs quiet.erase, quiet, begun⟩

/-! ## Power-on reset and pin reset -/

/-- A power-on reset, and a pin reset of a powered part, are one event: the reset of the blocks over the array with what ran on it cut. -/
theorem exec_hardReset {s : State} {rate : BitVec 2} {worn : Nat} {c : Instr}
    (hc : c = .powerOnReset rate worn ∨ (c = .pinReset rate worn ∧ s.powered = true)) :
    exec c s = .next (({ s with array := s.arrayCut } : State).endReset false rate worn).settle := by
  rw [← State.cutErase_cutProgram]
  rcases hc with rfl | ⟨rfl, hp⟩
  · rfl
  · exact State.occur_of_ready hp rfl

/-- Settles O50: what a reset leaves (`State.settle_endReset`), over the array with what ran on it cut. -/
theorem hardResetsLeaveResetStates : Obligations.HardResetsLeaveResetStates := by
  intro s rate worn c hc
  obtain ⟨a, x, left, quiet, begun⟩ :=
    State.settle_endReset (soft := false) rate worn (s := { s with array := s.arrayCut }) Settings.reset_above
  exact ⟨_, (exec_hardReset hc).trans (congrArg _ left), rfl, rfl, rfl, rfl, rfl, rfl, rfl, rfl, rfl, rfl, rfl, rfl, rfl, rfl, rfl, rfl,
    rfl, quiet.running, quiet.erase, quiet.writes, quiet.retry, quiet.job, quiet.clear, quiet.failures, _,
    NvArray.readsAs_resolve _ _, begun⟩

/-! ## The RESET request -/

/-- A RESET without arguments resets the part, whatever places are free for a reply, over the array with what ran on it ended. -/
theorem exec_reset {s : State} {rate : BitVec 2} {verify : SlotVerify} {worn : Nat} {tag : Byte} {rest : List (List Byte)}
    (hp : s.powered = true) (hs : s.scanning = false) (hr : s.management.requests = [0x3F, tag] :: rest) :
    exec (.reset rate verify worn) s =
      .next (({ s.popRequest with array := s.arrayEnded verify } : State).endReset true rate worn).settle := by
  have passes : commonCheck .reset s.scanning [0x3F, tag] = none := by rw [hs]; rfl
  have ready : s.resetReady = true := by
    simp only [State.resetReady, hr, passes, Option.isNone_none, Bool.true_or, Bool.and_true]
    rfl
  have taken : s.carryOut .reset (fun _ => State.softReset rate verify worn) = s.popRequest.softReset rate verify worn := by
    simp only [State.carryOut, State.headRequest, hr, List.headD_cons, passes]
  rw [exec, execReset, State.occur_of_ready hp ready, taken, State.softReset, State.cutErase_finishProgram]
  rfl

/-- Settles O51: what a reset leaves (`State.settle_endReset`), over the array with what ran on it ended. -/
theorem resetRequestResetsSoftly : Obligations.ResetRequestResetsSoftly := by
  intro s tag rest rate verify worn hp hs hr hb hm hq
  obtain ⟨a, x, left, quiet, begun⟩ :=
    State.settle_endReset (soft := true) rate worn (s := { s.popRequest with array := s.arrayEnded verify }) ⟨hb, hm, hq⟩
  exact ⟨_, (exec_reset hp hs hr).trans (congrArg _ left), rfl, rfl, rfl, rfl, rfl, rfl, rfl, rfl, rfl, rfl, rfl, rfl, rfl, rfl, rfl, rfl,
    rfl, quiet.running, quiet.erase, quiet.writes, quiet.retry, quiet.job, quiet.clear, quiet.failures, _,
    NvArray.readsAs_resolve _ _, begun⟩

end Sys2Proof.Machine
end

section
/-!
PROOFS. The link path (R2 to R8, R11 to R13, R15): the check as its bit rule, the events on a receiver, the sorters, and the end of a sent
frame.
-/

namespace Sys2Proof.Machine

/-! ## The check (R2) -/

/-- One bit taken into the check: shift left, and add the polynomial where the bit shifted out and the bit taken in differ. -/
def checkBit (c : Half) (bit : Bool) : Half := if c.msb = bit then c <<< 1 else (c <<< 1) ^^^ 0x1021

/-- The check is linear: bits added at the top before a shift are bits taken in by it, and those below them stay to be taken. -/
theorem checkShift_xor (c w : Half) : checkShift (c ^^^ w) = checkBit c w.msb ^^^ (w <<< 1) := by
  have swap (x y z : Half) : x ^^^ y ^^^ z = x ^^^ z ^^^ y := by rw [BitVec.xor_assoc, BitVec.xor_comm y z, BitVec.xor_assoc]
  unfold checkShift checkBit
  rw [BitVec.msb_xor, BitVec.shiftLeft_xor_distrib]
  cases c.msb <;> cases w.msb <;> simp [swap]

/-- The bits of a byte set at the top of a check come to its top one after another. -/
theorem msb_shifted_byte (b : Byte) {i : Nat} (h : i < 8) : ((b ++ (0 : Byte) : Half) <<< i).msb = b.getLsbD (7 - i) := by
  have low : ¬ 15 - i < 8 := by omega
  have byteBit : 15 - i - 8 = 7 - i := by omega
  rw [BitVec.msb_eq_getLsbD_last, BitVec.getLsbD_shiftLeft, BitVec.getLsbD_append, if_neg low, byteBit]
  simp
  omega

theorem byte_shifted_out (b : Byte) : (b ++ (0 : Byte) : Half) <<< 8 = 0#16 := by
  refine BitVec.eq_of_getLsbD_eq fun i hi => ?_
  rw [BitVec.getLsbD_shiftLeft, BitVec.getLsbD_append, if_pos (by omega)]
  simp

theorem checkByte_eq_checkBits (c : Half) (b : Byte) :
    checkByte c b = [7, 6, 5, 4, 3, 2, 1, 0].foldl (fun x i => checkBit x (b.getLsbD i)) c := by
  have top (i : Nat) (h : i < 8) := msb_shifted_byte b h
  have top0 : (b ++ (0 : Byte) : Half).msb = b.getLsbD 7 := by simpa using top 0
  simp only [checkByte, checkShift_xor, ← BitVec.shiftLeft_add, top0, Nat.reduceAdd, byte_shifted_out, List.foldl_cons, List.foldl_nil,
    BitVec.xor_zero, top, Nat.reduceLT, Nat.reduceSub]

theorem checkOf_concat (p : List Byte) (b : Byte) : checkOf (p ++ [b]) = checkByte (checkOf p) b := by
  simp [checkOf]

/-! ## Frames of the shared updates -/

@[simp] theorem PortState.inner_fifo (p : PortState) : p.inner.fifo = p.fifo := rfl

/-- Two events in turn change what either changes. -/
theorem OnlyChanges.andThen {xs ys zs : List Piece} {s t u : State} (h : OnlyChanges xs s t) (h' : OnlyChanges ys t u)
    (hx : ∀ x ∈ xs, x ∈ zs) (hy : ∀ x ∈ ys, x ∈ zs) : OnlyChanges zs s u :=
  (h.mono hx).trans (h'.mono hy)

section
variable (s : State)

theorem OnlyChanges.onIntake (f : Intake → Intake) : OnlyChanges [.intake] s (s.onIntake f) := by
  intro x hx
  cases x <;> simp_all [Piece.same]

theorem OnlyChanges.onIndex (f : Index → Index) : OnlyChanges [.index] s (s.onIndex f) := by
  intro x hx
  cases x <;> simp_all [Piece.same]

theorem OnlyChanges.onArea (f : Area → Area) : OnlyChanges [.area] s (s.onArea f) := by
  intro x hx
  cases x <;> simp_all [Piece.same]

theorem OnlyChanges.onRecords (f : Records → Records) : OnlyChanges [.records] s (s.onRecords f) := by
  intro x hx
  cases x <;> simp_all [Piece.same]

theorem OnlyChanges.onAck (f : Acknowledgement → Acknowledgement) : OnlyChanges [.ack] s (s.onAck f) := by
  intro x hx
  cases x <;> simp_all [Piece.same]

theorem OnlyChanges.onReport (f : Report → Report) : OnlyChanges [.report] s (s.onReport f) := by
  intro x hx
  cases x <;> simp_all [Piece.same]

theorem OnlyChanges.onManagement (f : Management → Management) : OnlyChanges [.management] s (s.onManagement f) := by
  intro x hx
  cases x <;> simp_all [Piece.same]

/-- An update of the forward buffers. -/
theorem OnlyChanges.onForward {f : Link → Link} {toP toM : List Frame} (h : f s.link = { s.link with toP := toP, toM := toM }) :
    OnlyChanges [.forward] s (s.onLink f) := by
  intro x hx
  cases x <;> simp_all [Piece.same]
  case port side => cases side <;> rfl

/-- An update of the arbiters' flags. -/
theorem OnlyChanges.onArbiters {f : Link → Link} {lastForwarded lastReceipt : Bool}
    (h : f s.link = { s.link with lastForwarded := lastForwarded, lastReceipt := lastReceipt }) :
    OnlyChanges [.arbiters] s (s.onLink f) := by
  intro x hx
  cases x <;> simp_all [Piece.same]
  case port side => cases side <;> rfl

@[simp] theorem State.onPort_onPort (port : Port) (f g : PortState → PortState) :
    (s.onPort port f).onPort port g = s.onPort port fun p => g (f p) := by cases port <;> rfl
end

/-! ## Receivers (R3 to R8) -/

/-- An event on one port that takes place: what it changes, and what it leaves inside the port. -/
theorem State.occur_onPort {s : State} {ready : Bool} (port : Port) (f : PortState → PortState) (hp : s.powered = true)
    (hr : ready = true) :
    ∃ t, s.occur ready (State.onPort port f) = .next t ∧ OnlyChanges [.port port, .outputs] s t ∧
      (t.link.port port).inner = (f (s.link.port port)).inner :=
  ⟨_, State.occur_of_ready hp hr, (OnlyChanges.onPort s port f).settled (by simp), State.inner_onPort s port f⟩

theorem PortState.headerEnd_of_header {p : PortState} {channel high : Byte} (b : Byte) (h : p.receiver = .header [channel, high]) :
    p.headerEnd b =
      if (high ++ b : Half).toNat > 512 then
        { p with receiver := .hunt, counters := { p.counters with headerErrors := bump p.counters.headerErrors } }
      else if p.fifo.occupancy + ((high ++ b : Half).toNat + 6) ≤ 2048 then
        { p with
          receiver := .afterHeader channel (high ++ b : Half).toNat true (checkOf [channel, high, b])
          fifo := { p.fifo with reserved := (high ++ b : Half).toNat + 6 } }
      else { p with receiver := .afterHeader channel (high ++ b : Half).toNat false (checkOf [channel, high, b]) } := by
  unfold PortState.headerEnd
  rw [h]
  rfl

theorem PortState.frameEnd_of_check {p : PortState} {f : Incoming} {high : Byte} (b : Byte) (h : p.receiver = .check f (some high)) :
    p.frameEnd b =
      if high ++ b = f.check then
        if f.room then
          { p with
            receiver := .hunt
            fifo := { frames := p.fifo.frames ++ [⟨f.channel, f.kept⟩], reserved := 0 }
            counters := { p.counters with accepted := bump p.counters.accepted } }
        else { p with receiver := .hunt, counters := { p.counters with overruns := bump p.counters.overruns } }
      else
        { p with
          receiver := .hunt
          fifo := { p.fifo with reserved := 0 }
          counters := { p.counters with checkErrors := bump p.counters.checkErrors } } := by
  unfold PortState.frameEnd
  rw [h]
  rfl

/-- Settles O2: the bit rule of the check (`checkByte_eq_checkBits`), and the receiver state by state. -/
theorem byteReceivedMovesTheReceiver : Obligations.ByteReceivedMovesTheReceiver := by
  refine ⟨⟨rfl, checkOf_concat, fun c b => ?check⟩, fun s port b hp hr => ?receiver⟩
  case check =>
    simp only [checkByte_eq_checkBits, checkBit, BitVec.msb_eq_getLsbD_last]
  case receiver =>
    obtain ⟨t, ht, frame, inner⟩ := State.occur_onPort port (fun p => { p with receiver := p.receiver.byte b }) hp hr
    refine ⟨t, ht, frame, fun h => ?hunt, fun kept h => ?header, fun f h => ?payload, fun f h => ?check⟩
    all_goals change (s.link.port port).receiver = _ at h
    case hunt => simp only [inner, h, Receiver.byte]; rfl
    case header =>
      refine ⟨by simpa [Receiver.plain, h] using hr, ?_⟩
      simp only [inner, h, Receiver.byte]; rfl
    case payload => simp only [inner, h, Receiver.byte]; rfl
    case check => simp only [inner, h, Receiver.byte]; rfl

/-- Settles O3: the three outcomes of a second length byte (`PortState.headerEnd_of_header`). -/
theorem headerEndReservesRoom : Obligations.HeaderEndReservesRoom := by
  intro s port channel high b hp h
  obtain ⟨t, ht, frame, inner⟩ :=
    State.occur_onPort (ready := (s.link.port port).receiver.atHeaderEnd) port (PortState.headerEnd b) hp (by rw [h]; rfl)
  rw [PortState.headerEnd_of_header b h] at inner
  refine ⟨t, ht, frame, fun long => ?_, fun short room => ?_, fun short noRoom => ?_⟩
  · rw [inner, if_pos long]
    rfl
  · rw [PortState.inner_fifo] at room
    rw [inner, if_neg (Nat.not_lt.mpr short), if_pos room]
    rfl
  · rw [PortState.inner_fifo] at noRoom
    rw [inner, if_neg (Nat.not_lt.mpr short), if_neg (Nat.not_le.mpr noRoom)]
    rfl

/-- Settles O4: the three outcomes of a second check byte (`PortState.frameEnd_of_check`). -/
theorem frameEndAcceptsOrDiscards : Obligations.FrameEndAcceptsOrDiscards := by
  intro s port f high b hp h
  obtain ⟨t, ht, frame, inner⟩ :=
    State.occur_onPort (ready := (s.link.port port).receiver.atFrameEnd) port (PortState.frameEnd b) hp (by rw [h]; rfl)
  rw [PortState.frameEnd_of_check b h] at inner
  refine ⟨t, ht, frame, fun same room => ?_, fun same noRoom => ?_, fun other => ?_⟩
  · rw [inner, if_pos same, if_pos room]
    rfl
  · rw [inner, if_pos same, if_neg (by simp [noRoom])]
    rfl
  · rw [inner, if_neg other]
    rfl

/-- Settles O5: outside HUNT the gap is an event on its port; in HUNT its condition does not hold. -/
theorem gapDiscardsThePartialFrame : Obligations.GapDiscardsThePartialFrame := by
  refine fun s port hp => ⟨fun outside => ?_, fun hunting => State.occur_of_not_ready (by rw [hunting]; rfl)⟩
  exact State.occur_onPort port PortState.gapError hp (by simpa [Receiver.busy] using outside)

/-! ## Sorters (R11, R12) -/

section
variable {s : State} {f : Frame} {rest : List Frame}

theorem exec_mSorter (h : s.link.m.fifo.frames = f :: rest) : exec .mSorter s = s.occur (s.roomForM f) (State.sortM f) := by
  simp [exec, execMSorter, h]

theorem exec_pSorter (h : s.link.p.fifo.frames = f :: rest) : exec .pSorter s = s.occur (s.roomForP f) (State.sortP f) := by
  simp [exec, execPSorter, h]

theorem channel_ne_of_not_reserved {c d : Byte} (h : reservedChannel c = false) (hd : reservedChannel d = true) : c ≠ d :=
  fun e => by simp [e, hd] at h

theorem State.roomForM_fragment (s : State) (h : f.channel = 0xB0) : s.roomForM f = decide (s.intake.queue.length < 16) := if_pos h

theorem State.roomForM_misdirected (s : State) (hr : reservedChannel f.channel = true) (h : f.channel ≠ 0xB0) :
    s.roomForM f = true := (if_neg h).trans (if_pos hr)

theorem State.roomForM_forwarded (s : State) (hr : reservedChannel f.channel = false) :
    s.roomForM f = decide (framesSize s.link.toP + (f.payload.length + 6) ≤ 4096) :=
  (if_neg (channel_ne_of_not_reserved hr rfl)).trans (if_neg (by simp [hr]))

theorem State.roomForP_request (s : State) (h : f.channel = 0xB8) : s.roomForP f = decide (s.management.requests.length < 4) := if_pos h

theorem State.roomForP_misdirected (s : State) (hr : reservedChannel f.channel = true) (h : f.channel ≠ 0xB8) :
    s.roomForP f = true := (if_neg h).trans (if_pos hr)

theorem State.roomForP_forwarded (s : State) (hr : reservedChannel f.channel = false) :
    s.roomForP f = decide (framesSize s.link.toM + (f.payload.length + 6) ≤ 2048) :=
  (if_neg (channel_ne_of_not_reserved hr rfl)).trans (if_neg (by simp [hr]))

theorem State.sortM_fragment (s : State) (h : f.channel = 0xB0) :
    s.sortM f = (s.onPort .m PortState.dropHead).onIntake fun i => { i with queue := i.queue ++ [f.payload] } := if_pos h

theorem State.sortM_misdirected (s : State) (hr : reservedChannel f.channel = true) (h : f.channel ≠ 0xB0) :
    s.sortM f = s.onPort .m fun p => p.dropHead.count fun c => { c with misdirected := bump c.misdirected } :=
  (if_neg h).trans (if_pos hr)

theorem State.sortM_forwarded (s : State) (hr : reservedChannel f.channel = false) :
    s.sortM f =
      (s.onPort .m fun p => p.dropHead.count fun c => { c with forwarded := bump c.forwarded }).onLink fun l =>
        { l with toP := l.toP ++ [f] } :=
  (if_neg (channel_ne_of_not_reserved hr rfl)).trans (if_neg (by simp [hr]))

theorem State.sortP_request (s : State) (h : f.channel = 0xB8) :
    s.sortP f = (s.onPort .p PortState.dropHead).onManagement fun g => { g with requests := g.requests ++ [f.payload] } := if_pos h

theorem State.sortP_misdirected (s : State) (hr : reservedChannel f.channel = true) (h : f.channel ≠ 0xB8) :
    s.sortP f = s.onPort .p fun p => p.dropHead.count fun c => { c with misdirected := bump c.misdirected } :=
  (if_neg h).trans (if_pos hr)

theorem State.sortP_forwarded (s : State) (hr : reservedChannel f.channel = false) :
    s.sortP f =
      (s.onPort .p fun p => p.dropHead.count fun c => { c with forwarded := bump c.forwarded }).onLink fun l =>
        { l with toM := l.toM ++ [f] } :=
  (if_neg (channel_ne_of_not_reserved hr rfl)).trans (if_neg (by simp [hr]))
end

/-- Settles O6: the M sorter's three places, each with its frame, and the stall. -/
theorem mSorterPlacesTheHeadFrame : Obligations.MSorterPlacesTheHeadFrame := by
  intro s f rest hp h
  obtain rfl : s.link.m.fifo.frames.drop 1 = rest := by rw [h]; rfl
  refine ⟨fun hc room => ?fragment, fun hr hc => ?misdirected, fun hr room => ?forwarded, fun stall => ?stall⟩
  all_goals rw [exec_mSorter h]
  case fragment =>
    refine ⟨_, State.occur_of_ready hp (by simpa [State.roomForM_fragment s hc] using room), ?_, ?_, ?_⟩ <;>
      rw [State.sortM_fragment s hc]
    · exact ((OnlyChanges.onPort s .m _).andThen (.onIntake _ _) (by simp) (by simp)).settled (by simp)
    · rfl
    · rfl
  case misdirected =>
    refine ⟨_, State.occur_of_ready hp (s.roomForM_misdirected hr hc), ?_, ?_⟩ <;>
      rw [State.sortM_misdirected s hr hc]
    · exact (OnlyChanges.onPort s .m _).settled (by simp)
    · rfl
  case forwarded =>
    refine ⟨_, State.occur_of_ready hp (by simpa [State.roomForM_forwarded s hr] using room), ?_, ?_, ?_, ?_⟩ <;>
      rw [State.sortM_forwarded s hr]
    · exact ((OnlyChanges.onPort s .m _).andThen (.onForward _ rfl) (by simp) (by simp)).settled (by simp)
    · rfl
    · rfl
    · rfl
  case stall =>
    refine State.occur_of_not_ready ?_
    rcases stall with ⟨hc, full⟩ | ⟨hr, full⟩
    · simpa [State.roomForM_fragment s hc] using full
    · simpa [State.roomForM_forwarded s hr] using full

/-- Settles O7: the P sorter's three places, each with its frame, and the stall. -/
theorem pSorterPlacesTheHeadFrame : Obligations.PSorterPlacesTheHeadFrame := by
  intro s f rest hp h
  obtain rfl : s.link.p.fifo.frames.drop 1 = rest := by rw [h]; rfl
  refine ⟨fun hc room => ?request, fun hr hc => ?misdirected, fun hr room => ?forwarded, fun stall => ?stall⟩
  all_goals rw [exec_pSorter h]
  case request =>
    refine ⟨_, State.occur_of_ready hp (by simpa [State.roomForP_request s hc] using room), ?_, ?_, ?_⟩ <;>
      rw [State.sortP_request s hc]
    · exact ((OnlyChanges.onPort s .p _).andThen (.onManagement _ _) (by simp) (by simp)).settled (by simp)
    · rfl
    · rfl
  case misdirected =>
    refine ⟨_, State.occur_of_ready hp (s.roomForP_misdirected hr hc), ?_, ?_⟩ <;>
      rw [State.sortP_misdirected s hr hc]
    · exact (OnlyChanges.onPort s .p _).settled (by simp)
    · rfl
  case forwarded =>
    refine ⟨_, State.occur_of_ready hp (by simpa [State.roomForP_forwarded s hr] using room), ?_, ?_, ?_, ?_⟩ <;>
      rw [State.sortP_forwarded s hr]
    · exact ((OnlyChanges.onPort s .p _).andThen (.onForward _ rfl) (by simp) (by simp)).settled (by simp)
    · rfl
    · rfl
    · rfl
  case stall =>
    refine State.occur_of_not_ready ?_
    rcases stall with ⟨hc, full⟩ | ⟨hr, full⟩
    · simpa [State.roomForP_request s hc] using full
    · simpa [State.roomForP_forwarded s hr] using full

/-! ## Hold inputs and sent frames (R13, R15) -/

/-- Settles O8: the take of a level is one update of a port, and an arbiter of a held port is never ready. -/
theorem holdInputStopsNewFrames : Obligations.HoldInputStopsNewFrames := by
  refine ⟨fun s port level => ⟨_, rfl, ?frame, ?level⟩, fun s h => State.occur_of_not_ready ?_, fun s h => State.occur_of_not_ready ?_⟩
  case frame =>
    intro x hx
    cases x <;> simp_all [Piece.same, State.onPort]
    case outputs => cases port <;> exact ⟨rfl, rfl⟩
    case port side => rw [Link.port_onPort_other _ s.link hx]
  case level => cases port <;> rfl
  all_goals simp [PortState.canStart, h]

/-- The end of a sent frame, as the update of its port and of the place the frame came from (R13, R15). -/
theorem State.frameSent_of_sending {s : State} {port : Port} {x : Sending} (h : (s.link.port port).sending = some x) :
    s.frameSent port =
      (s.onPort port fun p => { p with sending := none, counters := { p.counters with sent := bump p.counters.sent } }).doneWith
        port x.source := by
  simp only [State.frameSent, h, State.countLink, State.onPort_onPort]
  rfl

theorem OnlyChanges.doneWith (s : State) (port : Port) (source : Source) :
    OnlyChanges [.forward, .management, .ack] s (s.doneWith port source) := by
  cases source
  case forwarded => cases port <;> exact (OnlyChanges.onForward s rfl).mono (by simp)
  case reply => exact (OnlyChanges.onManagement s _).mono (by simp)
  case receipt => exact (OnlyChanges.onAck s _).mono (by simp)
  case delivery => exact .refl _ s
  case report => exact .refl _ s

/-- Settles O9: the port, and the place of each source. -/
theorem frameSentIsDoneWith : Obligations.FrameSentIsDoneWith := by
  intro s port source f hp h
  refine ⟨_, State.occur_of_ready hp (by rw [h]; rfl), ?_, ?_⟩ <;> rw [State.frameSent_of_sending h]
  · exact ((OnlyChanges.onPort s port _).andThen (.doneWith _ port source) (by simp) (by simp)).settled (by simp)
  · cases source <;> cases port <;> exact ⟨rfl, rfl, rfl, rfl, rfl⟩

end Sys2Proof.Machine
end

section
/-!
PROOFS. The arbiters (R16, R18) and the payloads they send: receipts (R152), reports and their summaries (R130, R162, R163).
-/

namespace Sys2Proof.Machine

/-! ## Fields as bytes (section 1.9) -/

theorem toNat_append_eq {n m : Nat} (x : BitVec n) (y : BitVec m) : (x ++ y).toNat = x.toNat * 2 ^ m + y.toNat := by
  rw [BitVec.toNat_append, ← Nat.shiftLeft_add_eq_or_of_lt y.isLt, Nat.shiftLeft_eq]

theorem extractByte_eq {n : Nat} (x : BitVec n) (k : Nat) : x.extractLsb' k 8 = BitVec.ofNat 8 (x.toNat / 2 ^ k) := by
  apply BitVec.eq_of_toNat_eq
  simp [BitVec.extractLsb'_toNat, Nat.shiftRight_eq_div_pow]

theorem halfBytes_eq (h : Half) : halfBytes h = bigEndian 2 h.toNat := by
  simp [halfBytes, extractByte_eq, bigEndian]

theorem wordBytes_eq (w : Word) : wordBytes w = bigEndian 4 w.toNat := by
  simp [wordBytes, extractByte_eq, bigEndian, Nat.div_div_eq_div_mul]

theorem Key.issueWord_toNat (k : Key) (area : Bool) : (k.issueWord area).toNat = k.issueNumber area := by
  refine (toNat_append_eq (k.issue ++ k.scope.code ++ (0 : BitVec 1)) (if area then (1 : BitVec 1) else 0)).trans ?_
  rw [toNat_append_eq, toNat_append_eq, Key.issueNumber]
  cases k.scope <;> cases area <;> simp [Scope.code] <;> omega

/-! ## The M-port arbiter (R18) -/

theorem Receipt.payload_eq (x : Receipt) :
    x.payload =
      bigEndian 2 x.stream.toNat ++ bigEndian 2 x.issueWord.toNat ++ [BitVec.ofNat 8 x.revision.toNat] ++ bigEndian 2 x.language.toNat ++
        bigEndian 2 x.zone.toNat ++ bigEndian 4 x.cell.toNat ++ [x.kind.code] ++ bigEndian 4 x.wall.toNat := by
  simp only [Receipt.payload, halfBytes_eq, wordBytes_eq, BitVec.ofNat_toNat]

/-- A frame taken by an arbiter: its port sends it, and the arbiters' flags move. -/
theorem OnlyChanges.taken (s : State) (port : Port) (source : Source) (f : Frame) {flags : Link → Link} {a b : Bool}
    (h : flags (s.send port source f).link = { (s.send port source f).link with lastForwarded := a, lastReceipt := b }) :
    OnlyChanges [.port port, .arbiters, .outputs] s ((s.send port source f).onLink flags) :=
  (OnlyChanges.onPort s port _).andThen (.onArbiters _ h) (by simp) (by simp)

/-- Settles O10: the payload of a receipt, and the arbiter by whose turn it is. -/
theorem mPortArbiterAlternates : Obligations.MPortArbiterAlternates := by
  refine ⟨fun x => ?payload, fun s r kind => ⟨rfl, r.key.issueWord_toNat _, rfl, rfl, rfl, rfl, rfl, rfl⟩, fun s hp hs hi => ?arbiter⟩
  case payload =>
    rw [x.payload_eq]
    cases x.kind <;> rfl
  case arbiter =>
    refine ⟨fun r rest hr turn => ?receipt, fun f rest hf turn => ?forwarded, fun hr hf => ?idle⟩
    case receipt =>
      have taken :
          s.arbitrateM = (s.send .m .receipt ⟨receiptChannel, r.payload⟩).onLink fun l => { l with lastReceipt := true } := by
        simp [State.arbitrateM, State.receiptTurn, hr, turn]
      refine ⟨_, State.occur_of_ready hp (by simp [PortState.canStart, hs, hi, hr]), ?_, ?_⟩ <;> rw [taken]
      · exact (OnlyChanges.taken s .m .receipt _ rfl).settled (by simp)
      · exact ⟨rfl, rfl, rfl⟩
    case forwarded =>
      have taken : s.arbitrateM = (s.send .m .forwarded f).onLink fun l => { l with lastReceipt := false } := by
        simp only [State.arbitrateM, State.receiptTurn, hf]
        exact if_neg (by rcases turn with h | h <;> simp [h])
      refine ⟨_, State.occur_of_ready hp (by simp [PortState.canStart, hs, hi, hf]), ?_, ?_⟩ <;> rw [taken]
      · exact (OnlyChanges.taken s .m .forwarded _ rfl).settled (by simp)
      · exact ⟨rfl, rfl, rfl⟩
    case idle => exact State.occur_of_not_ready (by simp [hr, hf])

/-! ## The P-port arbiter (R16) -/

theorem Summary.bytes_eq (x : Summary) :
    x.bytes =
      bigEndian 2 x.handle.toNat ++ bigEndian 2 x.stream.toNat ++ bigEndian 2 x.issueWord.toNat ++
        [BitVec.ofNat 8 x.revision.toNat, x.code.code] ++ bigEndian 4 x.epoch.toNat := by
  simp only [Summary.bytes, halfBytes_eq, wordBytes_eq, BitVec.ofNat_toNat]

theorem State.reportStatus_toNat (s : State) :
    s.reportStatus.toNat =
      (if s.store.ramOnly then 1 else 0) + (if s.time.timeSet then 0 else 2) +
        (match s.area.position.state with
         | .none => 0
         | .fresh => 4
         | .stale => 8) := by
  unfold State.reportStatus
  cases s.store.ramOnly <;> cases s.time.timeSet <;> cases s.area.position.state <;> rfl

section
variable {s : State}

/-- Where no sequence is in progress, a waiting reply comes before all else (R16). -/
theorem State.arbitrateP_reply {r : List Byte} {rest : List (List Byte)} (hd : s.records.delivery = none)
    (hr : s.management.replies = r :: rest) :
    s.arbitrateP = (s.send .p .reply ⟨managementChannel, r⟩).setLastForwarded false := by
  simp [State.arbitrateP, hd, hr, State.takeReply]

theorem State.arbitrateP_forwarded {f : Frame} {rest : List Frame} (hd : s.records.delivery = none) (hr : s.management.replies = [])
    (hf : s.link.toP = f :: rest) (turn : s.link.lastForwarded = false ∨ (s.deliveryWork = false ∧ s.reportPending = false)) :
    s.arbitrateP = (s.send .p .forwarded f).setLastForwarded true := by
  have taken : s.takeForwarded = (s.send .p .forwarded f).setLastForwarded true := by simp [State.takeForwarded, hf]
  rcases turn with h | ⟨hw, hq⟩
  · simp [State.arbitrateP, hd, hr, hf, h, taken]
  · simp [State.arbitrateP, hd, hr, hw, hq, taken]

/-- Where neither a reply nor a forwarded frame has its turn, the delivery engine's work comes before a pending report (R16). -/
theorem State.arbitrateP_engine (hd : s.records.delivery = none) (hr : s.management.replies = [])
    (turn : s.link.toP = [] ∨ s.link.lastForwarded = true) :
    s.arbitrateP =
      if s.deliveryWork then s.takeDeliveryWork.setLastForwarded false
      else if s.reportPending then s.takeReport.setLastForwarded false
      else s.takeForwarded := by
  have yields : ¬ (!s.link.toP.isEmpty && !s.link.lastForwarded) = true := by rcases turn with h | h <;> simp [h]
  simp only [State.arbitrateP, hd, hr, if_neg yields]
  rfl
end

/-- Settles O11: the payloads, and the arbiter's choice by choice (`State.arbitrateP_reply`, `_forwarded`, `_engine`). -/
theorem pPortArbiterChooses : Obligations.PPortArbiterChooses := by
  refine ⟨fun status xs => ?payload, State.reportStatus_toNat, fun s r code => ?summary, fun s hp hs hi hd => ?arbiter⟩
  case payload =>
    refine congrArg (fun f => [status, byteOf xs.length] ++ xs.flatMap f) (funext fun x => ?_)
    rw [x.bytes_eq]
    cases x.code <;> rfl
  case summary =>
    refine ⟨fun h hh => ?_, fun hh => ?_, rfl, r.key.issueWord_toNat _, rfl, rfl, rfl⟩ <;>
      simp [State.summaryOf, Record.handleValue, hh, Handle.value, byteOf]
  case arbiter =>
    refine ⟨fun r rest hr => ?reply, fun f rest hr hf turn => ?forwarded, fun hr turn hw hq hc => ?report, fun hr hf hw hq => ?idle⟩
    case reply =>
      refine ⟨_, State.occur_of_ready hp (by simp [PortState.canStart, State.frameForP, hs, hi, hr]), ?_, ?_⟩ <;>
        rw [State.arbitrateP_reply hd hr]
      · exact (OnlyChanges.taken s .p .reply _ rfl).settled (by simp)
      · exact ⟨rfl, rfl, rfl⟩
    case forwarded =>
      refine ⟨_, State.occur_of_ready hp (by simp [PortState.canStart, State.frameForP, hs, hi, hf]), ?_, ?_⟩ <;>
        rw [State.arbitrateP_forwarded hd hr hf turn]
      · exact (OnlyChanges.taken s .p .forwarded _ rfl).settled (by simp)
      · exact ⟨rfl, rfl, rfl⟩
    case report =>
      have pending : s.reportPending = true := by simp [State.reportPending, hq, hc]
      have taken : s.arbitrateP = s.takeReport.setLastForwarded false := by
        simp [State.arbitrateP_engine hd hr turn, hw, pending]
      refine ⟨_, State.occur_of_ready hp (by simp [PortState.canStart, State.frameForP, hs, hi, pending]), ?_, ?_⟩ <;> rw [taken]
      · have sent := (OnlyChanges.onPort s .p _).andThen (zs := [.port .p, .arbiters, .report, .outputs])
          (.onReport (s.send .p .report s.reportFrame) fun _ => { queue := [], countdown := none }) (by simp) (by simp)
        exact (sent.andThen (.onArbiters _ rfl) (by simp) (by simp)).settled (by simp)
      · exact ⟨rfl, rfl, rfl, rfl⟩
    case idle => exact State.occur_of_not_ready (by simp [State.frameForP, hd, hr, hf, hw, hq])

end Sys2Proof.Machine
end

section
/-!
PROOFS. Requests (R192 to R195) and two of them: GET COUNTERS (R197) and CONFIGURE (R201).
-/

namespace Sys2Proof.Machine

/-! ## The execution of a request -/

/-- A request that passes the common checks is taken off its queue and carried out by its own meaning. -/
theorem State.occur_request {s : State} {p : List Byte} {rest : List (List Byte)} {r : Request} (own : List Byte → State → State)
    (h : s.asked p rest) (hr : requestOf p = some r) (passes : commonCheck r s.scanning p = none) :
    s.occur (s.requestReady r) (State.carryOut r own) = .next (own p s.popRequest).settle := by
  obtain ⟨hp, hq, place⟩ := h
  have free : s.management.placeFree = true := decide_eq_true place
  have ready : s.requestReady r = true := by simp [State.requestReady, hq, hr, free]
  have taken : s.carryOut r own = own p s.popRequest := by simp only [State.carryOut, State.headRequest, hq, List.headD_cons, passes]
  rw [State.occur_of_ready hp ready, taken]

/-- What a reply to the oldest request leaves of the management unit. -/
theorem State.answersAtOnce {s : State} {p : List Byte} {rest : List (List Byte)} (h : s.asked p rest) (result : Result)
    (data : List Byte) :
    AnswersAtOnce s (s.popRequest.answer p result data) rest (replyPayload (byteAt p 0) (byteAt p 1) result data) := by
  obtain ⟨_, hq, _⟩ := h
  have left : s.management.requests.drop 1 = rest := by rw [hq]; rfl
  exact congrArg (fun q => Management.mk q _ _) left

theorem OnlyChanges.answered (s : State) (p : List Byte) (result : Result) (data : List Byte) :
    OnlyChanges [.management] s (s.popRequest.answer p result data) :=
  (OnlyChanges.onManagement s _).trans (.onManagement _ _)

theorem flagOfCode_eq_none {n : Nat} (h : 1 < n) : flagOfCode n = none := by
  obtain ⟨n, rfl⟩ := Nat.exists_eq_add_of_lt h
  rw [show 1 + n + 1 = n + 2 by omega]
  rfl

/-! ## GET COUNTERS (R197) -/

theorem OnlyChanges.clearGroup (s : State) (group : Nat) :
    OnlyChanges [.port .m, .port .p, .intake, .records, .area, .index, .outputs] s (s.clearGroup group) := by
  match group with
  | 0 => exact (OnlyChanges.onPort s .m _).mono (by simp)
  | 1 => exact (OnlyChanges.onPort s .p _).mono (by simp)
  | 2 => exact (OnlyChanges.onIntake s _).mono (by simp)
  | 3 => exact (OnlyChanges.onRecords s _).andThen (.onArea _ _) (by simp) (by simp)
  | 4 => exact (OnlyChanges.onIndex s _).mono (by simp)
  | _ + 5 => exact .refl _ s

theorem countersData_eq (group : Byte) (counters : List Half) :
    countersData group counters =
      [group, BitVec.ofNat 8 counters.length] ++ counters.flatMap fun c => bigEndian 2 c.toNat := by
  simp only [countersData, funext halfBytes_eq, byteOf]

theorem byte_eq_of_le_four {b : Byte} (h : b.toNat ≤ 4) : b = 0 ∨ b = 1 ∨ b = 2 ∨ b = 3 ∨ b = 4 := by
  have cases : b.toNat = 0 ∨ b.toNat = 1 ∨ b.toNat = 2 ∨ b.toNat = 3 ∨ b.toNat = 4 := by omega
  simpa [← BitVec.toNat_inj] using cases

theorem byte_eq_of_le_one {b : Byte} (h : b.toNat ≤ 1) : b = 0 ∨ b = 1 := by
  have cases : b.toNat = 0 ∨ b.toNat = 1 := by omega
  simpa [← BitVec.toNat_inj] using cases

section
variable {s : State} {tag group flag : Byte} {rest : List (List Byte)}

theorem exec_getCounters (h : s.asked [0x02, tag, group, flag] rest) (hs : s.scanning = false) :
    exec .getCounters s = .next (s.popRequest.getCounters [0x02, tag, group, flag]).settle :=
  State.occur_request _ h rfl (by rw [hs]; rfl)

theorem State.getCounters_refused (s : State) (h : 4 < group.toNat ∨ 1 < flag.toNat) :
    s.getCounters [0x02, tag, group, flag] = s.answer [0x02, tag, group, flag] .badArgument [] := by
  unfold State.getCounters
  split
  · rfl
  · next clear hf =>
    have named : ¬ 1 < flag.toNat := fun h => Option.some_ne_none clear (hf.symm.trans (flagOfCode_eq_none h))
    exact if_pos (h.resolve_right named)

theorem State.getCounters_accepted (s : State) (hg : group.toNat ≤ 4) (hf : flag.toNat ≤ 1) :
    s.getCounters [0x02, tag, group, flag] =
      let answered := s.answer [0x02, tag, group, flag] .done (countersData group (s.counterGroup group.toNat))
      if flag = 1 then answered.clearGroup group.toNat else answered := by
  rcases byte_eq_of_le_one hf with rfl | rfl <;> exact if_neg (Nat.not_lt.mpr hg)
end

/-- Settles O31: the reply is made of the counters as they stood, and the clear of one group is then seen group by group. -/
theorem getCountersReadsThenClears : Obligations.GetCountersReadsThenClears := by
  intro s tag group flag rest h hs
  refine ⟨fun bad => ⟨_, exec_getCounters h hs, ?_⟩, fun hg hf => ⟨_, exec_getCounters h hs, ?_⟩⟩
  · rw [State.getCounters_refused _ bad]
    exact ⟨((OnlyChanges.answered s _ _ _).mono (by simp)).settled (by simp), State.answersAtOnce h _ _⟩
  · rw [State.getCounters_accepted _ hg hf]
    have reply := State.answersAtOnce h .done (countersData group (s.popRequest.counterGroup group.toNat))
    refine ⟨?frame, ?_⟩
    case frame =>
      refine OnlyChanges.settled ?_ (by simp)
      have answered := OnlyChanges.answered s [0x02, tag, group, flag] .done (countersData group (s.popRequest.counterGroup group.toNat))
      by_cases clear : flag = 1
      · exact (if_pos clear).symm ▸ answered.andThen (.clearGroup _ _) (by simp) (by simp)
      · exact (if_neg clear).symm ▸ answered.mono (by simp)
    rw [countersData_eq] at *
    rcases byte_eq_of_le_one hf with rfl | rfl <;> rcases byte_eq_of_le_four hg with rfl | rfl | rfl | rfl | rfl <;>
      exact ⟨reply, rfl, rfl, rfl, rfl, rfl, rfl⟩

/-! ## CONFIGURE (R201) -/

theorem high_nibble_eq_zero {b : Byte} : b.extractLsb' 4 4 = (0 : BitVec 4) ↔ b.toNat ≤ 15 := by
  have := b.isLt
  rw [← BitVec.toNat_inj, BitVec.extractLsb'_toNat, Nat.shiftRight_eq_div_pow]
  simp
  omega

section
variable {s : State} {tag mh ml ph pl bk ct a1 a0 un we : Byte} {rest : List (List Byte)}

/-- A configuration block with a refused byte (R201). -/
theorem readSettings_refused (h : 1 < un.toNat ∨ 15 < we.toNat) : readSettings [mh, ml, ph, pl, bk, ct, a1, a0, un, we] = none := by
  by_cases hu : un ≠ 0 ∧ un ≠ 1
  · exact if_pos (by simpa [byteAt] using hu)
  · have few : un.toNat ≤ 1 := by
      rcases Classical.not_and_iff_not_or_not.mp hu with h | h <;> rw [not_not.mp h] <;> decide
    have wide : 15 < we.toNat := h.resolve_left (Nat.not_lt.mpr few)
    refine (if_neg (by simpa [byteAt] using hu)).trans (if_pos fun low => ?_)
    exact absurd (high_nibble_eq_zero.mp low) (Nat.not_le.mpr wide)

/-- The items a configuration block without a refused byte gives (R201). -/
theorem readSettings_accepted (hu : un.toNat ≤ 1) (hw : we.toNat ≤ 15) :
    readSettings [mh, ml, ph, pl, bk, ct, a1, a0, un, we] =
      some
        { marksM := readMarks mh ml, marksP := readMarks ph pl, backlogMark := min (max (bk.toNat * 256) 256) 4096
          contextTimeout := max ct.toNat 5, positionMaxAge := min (max (a1.toNat * 256 + a0.toNat) 1) 3600
          unlistedAction := if un = 1 then .forward else .discard
          wakeEnables :=
            { alert := we.toNat.testBit 0, report := we.toNat.testBit 1, reply := we.toNat.testBit 2,
              backlog := we.toNat.testBit 3 } } := by
  have age : (halfAt [mh, ml, ph, pl, bk, ct, a1, a0, un, we] 6).toNat = a1.toNat * 256 + a0.toNat := toNat_append_eq a1 a0
  have flag : ¬ (un ≠ 0 && un ≠ 1) = true := by rcases byte_eq_of_le_one hu with rfl | rfl <;> decide
  refine (if_neg flag).trans ((if_neg (not_not.mpr (high_nibble_eq_zero.mpr hw))).trans ?_)
  rw [age]
  rfl

theorem exec_configure (h : s.asked [0x30, tag, mh, ml, ph, pl, bk, ct, a1, a0, un, we] rest) (hs : s.scanning = false) :
    exec .configure s = .next (s.popRequest.configure [0x30, tag, mh, ml, ph, pl, bk, ct, a1, a0, un, we]).settle :=
  State.occur_request _ h rfl (by rw [hs]; rfl)

theorem State.configure_eq (s : State) :
    s.configure [0x30, tag, mh, ml, ph, pl, bk, ct, a1, a0, un, we] =
      match readSettings [mh, ml, ph, pl, bk, ct, a1, a0, un, we] with
      | none => s.answer [0x30, tag, mh, ml, ph, pl, bk, ct, a1, a0, un, we] .badArgument []
      | some x => { s with settings := x }.answer [0x30, tag, mh, ml, ph, pl, bk, ct, a1, a0, un, we] .done [] := rfl
end

theorem OnlyChanges.configured (s : State) (x : Settings) (p : List Byte) :
    OnlyChanges [.settings, .management] s ({ s.popRequest with settings := x }.answer p .done []) := by
  intro y hy
  cases y <;> simp_all [Piece.same, State.popRequest, State.answer]

/-- Settles O42: what the block is read as (`readSettings_refused`, `readSettings_accepted`) is what the items become. -/
theorem configureSetsEveryItem : Obligations.ConfigureSetsEveryItem := by
  intro s tag mh ml ph pl bk ct a1 a0 un we rest h hs
  refine ⟨fun bad => ⟨_, exec_configure h hs, ?_⟩, fun hu hw => ⟨_, exec_configure h hs, ?_⟩⟩ <;> rw [State.configure_eq]
  · rw [readSettings_refused bad]
    exact ⟨((OnlyChanges.answered s _ _ _).mono (by simp)).settled (by simp), State.answersAtOnce h _ _⟩
  · rw [readSettings_accepted hu hw]
    exact ⟨((OnlyChanges.configured s _ _).mono (by simp)).settled (by simp), State.answersAtOnce h .done [], rfl⟩

end Sys2Proof.Machine
end

section
/-!
PROOFS. The loss of power (R9, R166, R190), and the state after reset, which meets every invariant (R21, R188, R204).
-/

namespace Sys2Proof.Machine

/-! ## The loss of power -/

/-- Settles O52: what a loss of power leaves of the array is the array with what ran on it cut (`State.cutErase_cutProgram`). -/
theorem powerLossCutsTheArray : Obligations.PowerLossCutsTheArray := by
  intro s hp
  let t := ({ s with array := s.arrayCut } : State).resetBlocks false
  have lost : exec .powerLoss s =
      .next { t with powered := false, scanning := false, scans := s.scans, link := t.link.unpowered } := by
    simp only [exec, execPowerLoss, hp, State.losePower, State.cutErase_cutProgram]
    rfl
  refine ⟨_, lost, rfl, rfl, rfl, rfl, rfl, rfl, rfl, rfl, rfl, rfl, rfl, rfl, rfl, rfl, rfl, rfl, rfl, ?_⟩
  change (_ → s.arrayCut = _) ∧ (∀ w, _ → s.arrayCut = _) ∧ (∀ r, _ → s.arrayCut = _) ∧
    (∀ j, _ → _ → (∀ n b, _ → s.arrayCut = _) ∧ (∀ again, _ → s.arrayCut = _)) ∧ (_ → s.arrayCut.provisioning = _)
  refine ⟨fun hr => ?idle, fun w hr => ?slot, fun r hr => ?amend, fun j hr hj => ⟨fun n b ht => ?copy, fun again ht => ?lock⟩,
    fun hj => ?noJob⟩
  case idle => simp only [State.arrayCut, hr]; rfl
  case slot => simp only [State.arrayCut, hr]; rfl
  case amend => simp only [State.arrayCut, hr]; rfl
  case copy =>
    obtain ⟨tag, slot, target⟩ := j
    obtain rfl : target = .copy n b := ht
    simp only [State.arrayCut, hr, hj]; rfl
  case lock =>
    obtain ⟨tag, slot, target⟩ := j
    obtain rfl : target = .lock again := ht
    simp only [State.arrayCut, hr, hj]; rfl
  case noJob =>
    simp only [State.arrayCut, hj]
    rcases s.store.running with _ | w | r | _ <;> rfl

/-! ## The state after reset -/

theorem State.reset_outputsFollow : State.reset.OutputsFollow where
  marks port := by cases port <;> decide
  hold _ port := by cases port <;> decide
  wake _ := by decide
  erase _ _ h := by cases h

theorem State.reset_bounded : State.reset.Bounded where
  intake := Nat.zero_le 16
  contexts := ⟨rfl, fun _ h => by cases List.eq_of_mem_replicate h⟩
  completing _ h := by cases h
  held := Nat.zero_le 8
  receipts := Nat.zero_le 16
  report := ⟨Nat.zero_le 32, iff_of_true rfl rfl⟩
  writes := ⟨Nat.zero_le 16, List.nodup_nil⟩
  requests := Nat.zero_le 4
  replies := Nat.zero_le 4
  reserved := rfl
  oneDeferred := .inl rfl
  reminderStep _ := ⟨rfl, fun h => by cases h⟩

theorem Link.reset_fits (mhi phi : Bool) : (Link.reset mhi phi).fits :=
  ⟨⟨Nat.zero_le 2048, rfl⟩, ⟨Nat.zero_le 2048, rfl⟩, Nat.zero_le 4096, Nat.zero_le 2048⟩

theorem Records.reset_ordered : Records.reset.Ordered where
  handles _ h := by cases h
  slots := List.append_nil _ ▸ .refl _
  generations := ⟨rfl, fun _ h => by cases h⟩
  active := Nat.zero_le 16
  held := Nat.zero_le 8
  order := .nil
  entered _ h := by cases h
  heldStates _ h := by cases h
  activeStates _ h := by cases h
  latchedState _ h := by cases h
  sequence := ⟨rfl, fun _ h => by cases h⟩

theorem State.reset_indexLaw : State.reset.indexLaw := ⟨fun _ => ⟨rfl, rfl⟩, List.nodup_nil, fun _ h => by cases h⟩

theorem State.reset_provisioningSound : State.reset.provisioningSound := by
  refine ⟨fun _ h => (by cases h), fun n _ x hx => ?_⟩
  have blank : ∀ p ∈ State.reset.array.provisioning, ∀ c ∈ p.copies, c = .blank := fun p hp c hc => by
    rw [List.eq_of_mem_replicate hp] at hc
    exact List.eq_of_mem_replicate hc
  by_cases hn : n < State.reset.array.provisioning.length
  · have slot : State.reset.provisioningSlot n = State.reset.array.provisioning[n] := List.getD_eq_getElem _ _ hn
    rw [blank _ (List.getElem_mem hn) x (slot ▸ hx)]
    rfl
  · have slot : State.reset.provisioningSlot n = ⟨[], .clear⟩ := List.getD_eq_default _ _ (Nat.not_lt.mp hn)
    rw [slot] at hx
    cases hx

theorem Sector.resolve_erased (scan k : Nat) : Sector.erased.resolve scan k = .erased := by
  rw [Sector.resolve_of_whole scan k rfl, Sector.resolveDoubt_of_sure scan k rfl, slots_resolve_of_blank scan k (by decide)]

/-- The scan of an array as made finds it as made: there is no location left unknown. -/
theorem NvArray.resolve_made (scan : Nat) : NvArray.made.resolve scan = .made := by
  have sectors : List.mapIdx (Sector.resolve scan) (List.replicate 4 .erased) = List.replicate 4 .erased := by
    simp [List.replicate, Sector.resolve_erased]
  exact congrArg (fun x => NvArray.mk x _) sectors

/-- The first power-on of a part finds nothing running, and its array as made. -/
theorem exec_powerOnReset_made {s : State} (rate : BitVec 2) (ha : s.array = .made) (hs : s.store = .idle) :
    exec (.powerOnReset rate 0) s = .next (((s.afterReset false rate .made (.scanned [])).chooseCurrent 0).settle) := by
  have uncut : s.arrayCut = .made := by simp only [State.arrayCut, State.eraseCut, hs, ha]; rfl
  have read : State.scanned { ({ s with array := .made } : State).resetBlocks false with rate := rate } =
      s.afterReset false rate .made (.scanned []) := by
    simp only [State.scanned, State.resetBlocks, NvArray.resolve_made]
    rfl
  rw [exec_hardReset (.inl rfl), uncut, State.endReset, State.startUpScan_of_idle 0 rfl, read]

/-- Settles O60: each invariant of the state after reset, and the first scan of an array as made. -/
theorem resetMeetsTheInvariants : Obligations.ResetMeetsTheInvariants := by
  refine ⟨State.reset_outputsFollow, Nat.zero_le 160, State.reset_bounded, Link.reset_fits _ _, Records.reset_ordered,
    State.reset_indexLaw, State.reset_provisioningSound, fun s rate ha hs hp => ⟨_, exec_powerOnReset_made rate ha hs, ?_, ?_⟩⟩
  · rfl
  · rfl

end Sys2Proof.Machine
end

section
/-!
PROOFS. What no event but those of the link path, a configuration and a reset touches: the link path and the configuration items. One
lemma for each operation, in the order of the chapters.
-/

namespace Sys2Proof.Machine

/-- The link path with the configuration items its hold outputs follow. -/
def State.path (s : State) : Link × Settings := (s.link, s.settings)

/-- A fold of operations that leave the link path leaves it. -/
theorem State.foldl_path {α : Type} {f : State → α → State} (h : ∀ s a, (f s a).path = s.path) (l : List α) (s : State) :
    (l.foldl f s).path = s.path := by
  induction l generalizing s with
  | nil => rfl
  | cons a l ih => exact (ih _).trans (h s a)

section
variable (s : State)

/-! ## Updates of one block -/

@[simp] theorem State.onWindows_path (f : Windows → Windows) : (s.onWindows f).path = s.path := rfl
@[simp] theorem State.onIntake_path (f : Intake → Intake) : (s.onIntake f).path = s.path := rfl
@[simp] theorem State.onIndex_path (f : Index → Index) : (s.onIndex f).path = s.path := rfl
@[simp] theorem State.onArea_path (f : Area → Area) : (s.onArea f).path = s.path := rfl
@[simp] theorem State.onRecords_path (f : Records → Records) : (s.onRecords f).path = s.path := rfl
@[simp] theorem State.onAck_path (f : Acknowledgement → Acknowledgement) : (s.onAck f).path = s.path := rfl
@[simp] theorem State.onReport_path (f : Report → Report) : (s.onReport f).path = s.path := rfl
@[simp] theorem State.onArray_path (f : NvArray → NvArray) : (s.onArray f).path = s.path := rfl
@[simp] theorem State.onStore_path (f : Store → Store) : (s.onStore f).path = s.path := rfl
@[simp] theorem State.onManagement_path (f : Management → Management) : (s.onManagement f).path = s.path := rfl
@[simp] theorem State.onTime_path (f : Timebase → Timebase) : (s.onTime f).path = s.path := rfl
@[simp] theorem State.onDue_path (f : EpochDue → EpochDue) : (s.onDue f).path = s.path := rfl
@[simp] theorem State.countIntake_path (f : IntakeCounters → IntakeCounters) : (s.countIntake f).path = s.path := rfl
@[simp] theorem State.countHistory_path (f : HistoryCounters → HistoryCounters) : (s.countHistory f).path = s.path := rfl
@[simp] theorem State.countArea_path (f : AreaCounters → AreaCounters) : (s.countArea f).path = s.path := rfl
@[simp] theorem State.countRecords_path (f : RecordCounters → RecordCounters) : (s.countRecords f).path = s.path := rfl
@[simp] theorem State.onSector_path (k : Nat) (f : Sector → Sector) : (s.onSector k f).path = s.path := rfl
@[simp] theorem State.onProvisioningSlot_path (n : Nat) (f : ProvisioningSlot → ProvisioningSlot) :
    (s.onProvisioningSlot n f).path = s.path := rfl

/-! ## Records, reports and receipts -/

@[simp] theorem State.joinReport_path (x : Summary) (d : Nat) : (s.joinReport x d).path = s.path := by
  rcases s.joinReport_cases x d with ⟨_, h⟩ | ⟨_, h⟩ <;> rw [h] <;> rfl

@[simp] theorem State.queueReceipt_path (r : Record) (k : ReceiptKind) : (s.queueReceipt r k).path = s.path := by
  rcases s.queueReceipt_cases r k with ⟨_, h⟩ | ⟨_, h⟩ <;> rw [h] <;> rfl

@[simp] theorem State.finish_path (code : Code) (r : Record) : (s.finish code r).path = s.path := by
  unfold State.finish
  cases r.handle <;> split_ifs <;> simp

@[simp] theorem State.complete_path (code : Code) (r : Record) : (s.complete code r).path = s.path := by simp [State.complete]

@[simp] theorem State.endRecord_path (code : Code) (r : Record) : (s.endRecord code r).path = s.path := by
  unfold State.endRecord State.latch
  split <;> simp

@[simp] theorem State.endAll_path (code : Code) (rs : List Record) : (s.endAll code rs).path = s.path :=
  foldl_path (fun s r => s.endRecord_path code r) rs s

@[simp] theorem State.endKey_path (code : Code) (k : Key) : (s.endKey code k).path = s.path := s.endAll_path code _

@[simp] theorem State.latch_path (code : Code) (r : Record) : (s.latch code r).path = s.path := rfl

@[simp] theorem State.displace_path : s.displace.path = s.path := by
  unfold State.displace
  split
  · split <;> simp
  · rfl

@[simp] theorem State.enterActive_path (r : Record) : (s.enterActive r).path = s.path := by simp [State.enterActive]

@[simp] theorem State.joinHeld_path (r : Record) : (s.joinHeld r).path = s.path := rfl

@[simp] theorem State.hold_path (r : Record) : (s.hold r).path = s.path := by
  unfold State.hold
  split
  · simp
  · split
    · split <;> simp
    · simp

@[simp] theorem State.create_path (a : Alert) : (s.create a).path = s.path := by
  unfold State.create State.judgeNew
  dsimp only
  split_ifs <;> simp

/-! ## The history index -/

@[simp] theorem State.offer_path (k : Key) : (s.offer k).path = s.path := by
  rcases s.offer_cases k with ⟨_, h⟩ | ⟨_, _, h⟩ | ⟨_, h⟩ <;> rw [h] <;> rfl

@[simp] theorem State.offerAll_path (ks : List Key) : (s.offerAll ks).path = s.path := foldl_path State.offer_path ks s

@[simp] theorem State.putEntry_path (f : EntryFields) : (s.putEntry f).path = s.path := by simp [State.putEntry]

@[simp] theorem State.removeEntry_path (k : Key) : (s.removeEntry k).path = s.path := rfl

@[simp] theorem State.sweepUnpersisted_path : s.sweepUnpersisted.path = s.path := by
  rcases s.sweepUnpersisted_cases with h | ⟨_, _, _, _, _, _, h⟩ <;> rw [h]
  rfl

@[simp] theorem State.afterRemovals_path (due : Option Key) : (s.afterRemovals due).path = s.path := by
  rcases s.afterRemovals_cases due with ⟨_, _, h⟩ | ⟨_, h⟩ <;> simp [h]

@[simp] theorem State.makeRoom_path : s.makeRoom.path = s.path := by
  unfold State.makeRoom
  split
  · rfl
  · split <;> simp

@[simp] theorem State.takeNotice_path (k : Key) (r : BitVec 4) (horizon : Nat) : (s.takeNotice k r horizon).path = s.path := by
  unfold State.takeNotice
  split <;> simp

@[simp] theorem State.takeWithdrawal_path (k : Key) (r : BitVec 4) (horizon : Nat) :
    (s.takeWithdrawal k r horizon).path = s.path := by
  unfold State.takeWithdrawal
  split <;> simp

@[simp] theorem State.sweepExpired_path : s.sweepExpired.path = s.path := by
  unfold State.sweepExpired
  split
  · rw [State.afterRemovals_path]
    refine foldl_path (fun u k => ?_) _ s
    rfl
  · rfl

@[simp] theorem State.restamp_path : s.restamp.path = s.path := foldl_path (fun s _ => s.putEntry_path _) _ s

@[simp] theorem State.refillIndex_path : s.refillIndex.path = s.path := foldl_path (fun s _ => s.putEntry_path _) _ _

/-! ## The history store -/

@[simp] theorem State.deferredReply_path (r : Request) (tag : Byte) (result : Result) : (s.deferredReply r tag result).path = s.path := rfl

@[simp] theorem State.checkRamOnly_path : s.checkRamOnly.path = s.path := by
  unfold State.checkRamOnly
  split <;> rfl

@[simp] theorem State.openSuccessor_path : s.openSuccessor.path = s.path := by
  unfold State.openSuccessor
  split
  · split <;> rfl
  · rfl

@[simp] theorem State.closeCurrent_path (k : Nat) : (s.closeCurrent k).path = s.path := by
  unfold State.closeCurrent
  split <;> rfl

@[simp] theorem State.closeWhenUsed_path (k : Nat) : (s.closeWhenUsed k).path = s.path := by
  unfold State.closeWhenUsed
  split <;> simp

@[simp] theorem State.examineReclaim_path : s.examineReclaim.path = s.path := by
  unfold State.examineReclaim
  split
  · split <;> simp [State.startReclaim]
  · rfl

@[simp] theorem State.finishClear_path (tag : Byte) : (s.finishClear tag).path = s.path := rfl

@[simp] theorem State.settleClear_path : s.settleClear.path = s.path := by
  unfold State.settleClear
  cases s.store.clear with
  | none => rfl
  | some c =>
    dsimp only
    cases (s.sectorsIn .erased).head? <;> split_ifs <;> simp

@[simp] theorem State.beginClear_path (tag : Byte) : (s.beginClear tag).path = s.path := by simp [State.beginClear]

@[simp] theorem State.startWrite_path : s.startWrite.path = s.path := by
  unfold State.startWrite
  split
  · split <;> rfl
  · rfl

@[simp] theorem State.slotProgramEnd_path (verify : SlotVerify) (w : SlotProgram) : (s.slotProgramEnd verify w).path = s.path := by
  have failed (u : State) (x : Slot) : (u.writeFailed w x).path = u.path := by
    simp [State.writeFailed, apply_ite State.path]
  have committed (u : State) : (u.writeCommitted w).path = u.path := by
    simp [State.writeCommitted, apply_ite State.path]
  cases verify <;> simp [State.slotProgramEnd, State.slotUsed, failed, committed]

@[simp] theorem State.startAmend_path : s.startAmend.path = s.path := by
  unfold State.startAmend
  split <;> rfl

@[simp] theorem State.opened_path (k : Nat) (q : Half) : (s.opened k q).path = s.path := by
  unfold State.opened
  split
  · split <;> simp
  · rfl

@[simp] theorem State.amendEnd_path (passed : Bool) (r : AmendRequest) : (s.amendEnd passed r).path = s.path := by
  cases passed with
  | true => cases h : r.amend <;> simp [State.amendEnd, State.amendPassed, h]
  | false =>
    simp only [State.amendEnd, State.amendFailed, Bool.false_eq_true, if_false]
    split_ifs <;> simp

@[simp] theorem State.startErase_path : s.startErase.path = s.path := by
  unfold State.startErase
  split <;> rfl

@[simp] theorem State.endErase_path (passed : Bool) (k : Nat) : (s.endErase passed k).path = s.path := by
  cases passed <;> simp [State.endErase, State.erasePassed, State.eraseFailed]

@[simp] theorem State.endJob_path (j : ProvisioningJob) (result : Result) : (s.endJob j result).path = s.path := rfl

@[simp] theorem State.loadOverride_path (n : Nat) : (s.loadOverride n).path = s.path := rfl

@[simp] theorem State.provisioningEnd_path (passed : Bool) (j : ProvisioningJob) : (s.provisioningEnd passed j).path = s.path := by
  cases passed with
  | true => cases h : j.target <;> simp [State.provisioningEnd, State.provisioningPassed, h]
  | false =>
    simp only [State.provisioningEnd, State.provisioningFailed, Bool.false_eq_true, if_false]
    cases j.target with
    | copy n b =>
      dsimp only
      split <;> simp
    | lock again => cases again <;> simp

@[simp] theorem State.loadOverrides_path : s.loadOverrides.path = s.path := rfl

@[simp] theorem State.rebuildIndex_path : s.rebuildIndex.path = s.path := by simp [State.rebuildIndex]

@[simp] theorem State.endScan_path : s.endScan.path = s.path := by
  have scanned (u : State) : ({ u with scanning := false } : State).path = u.path := rfl
  simp [State.endScan, scanned]

/-! ## Requests -/

@[simp] theorem State.popRequest_path : s.popRequest.path = s.path := rfl
@[simp] theorem State.answer_path (p : List Byte) (result : Result) (data : List Byte) : (s.answer p result data).path = s.path := rfl
@[simp] theorem State.reserve_path : s.reserve.path = s.path := rfl

/-- A request whose own meaning leaves the link path leaves it. -/
theorem State.carryOut_path (r : Request) {own : List Byte → State → State} (h : ∀ p u, (own p u).path = u.path) :
    (s.carryOut r own).path = s.path := by
  unfold State.carryOut
  dsimp only
  split
  · rfl
  · exact h _ _

@[simp] theorem State.setTime_path (p : List Byte) : (s.setTime p).path = s.path := by simp [State.setTime]

@[simp] theorem State.judgeHeld_path (r : Record) : (s.judgeHeld r).path = s.path := by
  unfold State.judgeHeld
  dsimp only
  split <;> simp

@[simp] theorem State.setPosition_path (p : List Byte) : (s.setPosition p).path = s.path := by
  unfold State.setPosition State.acceptPosition
  split
  · exact foldl_path State.judgeHeld_path _ _
  · rfl

@[simp] theorem State.loadWindow_path (p : List Byte) : (s.loadWindow p).path = s.path := by
  unfold State.loadWindow
  cases readBlock (p.drop 3) <;> simp [apply_ite State.path]

@[simp] theorem State.muteWindow_path (p : List Byte) : (s.muteWindow p).path = s.path := by
  unfold State.muteWindow
  cases flagOfCode (argAt p 1).toNat <;> simp [apply_ite State.path]

@[simp] theorem State.readWindow_path (p : List Byte) : (s.readWindow p).path = s.path := by
  unfold State.readWindow
  dsimp only
  split <;> rfl

@[simp] theorem State.provision_path (p : List Byte) : (s.provision p).path = s.path := by
  unfold State.provision
  cases readBlock (p.drop 3) with
  | none => rfl
  | some block =>
    dsimp only
    cases (s.provisioningSlot (argAt p 0).toNat).nextCopy <;> split_ifs <;> rfl

@[simp] theorem State.lockProvision_path (p : List Byte) : (s.lockProvision p).path = s.path := by
  unfold State.lockProvision
  dsimp only
  split_ifs <;> rfl

@[simp] theorem State.acknowledge_path (p : List Byte) : (s.acknowledge p).path = s.path := by
  unfold State.acknowledge
  cases s.records.find (halfAt p 2) with
  | none => rfl
  | some r =>
    dsimp only
    cases r.state <;> split_ifs <;> simp

@[simp] theorem State.fetchRecord_path (p : List Byte) : (s.fetchRecord p).path = s.path := by
  unfold State.fetchRecord
  cases s.records.find (halfAt p 2) with
  | none => rfl
  | some r =>
    dsimp only
    cases r.state <;> rfl

@[simp] theorem State.flushAlerts_path (p : List Byte) : (s.flushAlerts p).path = s.path := by simp [State.flushAlerts]

@[simp] theorem State.clearHistory_path (p : List Byte) : (s.clearHistory p).path = s.path := by
  unfold State.clearHistory
  split <;> simp

/-! ## The reassembly unit, but for the fragments it forwards -/

@[simp] theorem State.setContext_path (n : Nat) (c : Option Context) : (s.setContext n c).path = s.path := rfl

@[simp] theorem State.finishCompletion_path : s.finishCompletion.path = s.path := by
  have settled (n : Nat) (c : Context) (u : State) : (u.settleCompletion n c).path = u.path := by
    unfold State.settleCompletion
    split
    · rfl
    · split <;> simp
  unfold State.finishCompletion
  split
  · rfl
  · dsimp only
    split <;> simp [settled]

@[simp] theorem State.contextError_path (n : Nat) (c : Context) : (s.contextError n c).path = s.path := by
  unfold State.contextError
  split <;> rfl

@[simp] theorem State.afterAccept_path (n : Nat) (c : Context) : (s.afterAccept n c).path = s.path := by
  unfold State.afterAccept State.awaitCompletion
  split_ifs <;> simp

@[simp] theorem State.allocateFor_path (f : Fragment) (rank : Nat) : (s.allocateFor f rank).path = s.path := by
  unfold State.allocateFor State.allocate
  split
  · simp
  · split <;> simp

@[simp] theorem State.join_path (n : Nat) (c : Context) (f : Fragment) : (s.join n c f).path = s.path := by
  unfold State.join
  dsimp only
  split_ifs <;> simp

@[simp] theorem State.takeNoticeFragment_path (f : Fragment) (w : Window) : (s.takeNoticeFragment f w).path = s.path := by
  unfold State.takeNoticeFragment
  split
  · rfl
  · split <;> simp

@[simp] theorem State.sweepContexts_path : s.sweepContexts.path = s.path := by
  refine foldl_path (fun s n => ?_) _ s
  unfold State.sweepContext
  split
  · split <;> rfl
  · rfl

/-! ## The events of an epoch -/

@[simp] theorem State.takeDecrement_path : s.takeDecrement.path = s.path := rfl
@[simp] theorem State.takeStep_path : s.takeStep.path = s.path := rfl

@[simp] theorem State.advanceEpoch_path : s.advanceEpoch.path = s.path := by
  rw [State.advanceEpoch_eq]
  rfl

@[simp] theorem State.checkPosition_path : s.checkPosition.path = s.path := by
  unfold State.checkPosition
  split <;> rfl

@[simp] theorem State.examineHeld_path : s.examineHeld.path = s.path := foldl_path (fun s r => by simp) _ s

@[simp] theorem State.expireActive_path : s.expireActive.path = s.path := s.endAll_path _ _

end

end Sys2Proof.Machine
end

section
/-!
PROOFS. What a step can do to the link path (`exec_moves`), and the two invariants that follow from it: the outputs follow the rest of the
state (R9, R10, R164, R166, R174), and the FIFOs and forward buffers stay within their capacities (R3, R7, R13).
-/

namespace Sys2Proof.Machine

/-! ## Events that leave the levels of the hold outputs -/

/-- The configuration items and the hold outputs are as they were, and buffers within their capacities are so still. -/
structure State.Steady (s t : State) : Prop where
  settings : t.settings = s.settings
  holdOut : ∀ port, (t.link.port port).holdOut = (s.link.port port).holdOut
  fits : s.link.fits → t.link.fits

/-- A port keeps its hold output, and its FIFO within its capacity. -/
structure PortState.Steady (p q : PortState) : Prop where
  holdOut : q.holdOut = p.holdOut
  fits : p.fits → q.fits

theorem State.Steady.trans {s t u : State} (h : s.Steady t) (h' : t.Steady u) : s.Steady u :=
  ⟨h'.settings.trans h.settings, fun port => (h'.holdOut port).trans (h.holdOut port), fun f => h'.fits (h.fits f)⟩

theorem State.Steady.of_path {s t : State} (h : t.path = s.path) : s.Steady t := by
  obtain ⟨link, settings⟩ := Prod.mk.inj h
  exact ⟨settings, fun _ => by rw [link], fun f => by rwa [link]⟩

theorem State.Steady.after_path {s t u : State} (h : t.path = s.path) (h' : t.Steady u) : s.Steady u :=
  (State.Steady.of_path h).trans h'

theorem State.Steady.refl (s : State) : s.Steady s := .of_path rfl

theorem State.Steady.onPort (s : State) (port : Port) {f : PortState → PortState}
    (h : (s.link.port port).Steady (f (s.link.port port))) : s.Steady (s.onPort port f) where
  settings := rfl
  holdOut other := by
    by_cases e : other = port
    · subst e
      exact (congrArg PortState.holdOut (Link.port_onPort_same other f s.link)).trans h.holdOut
    · exact congrArg PortState.holdOut (Link.port_onPort_other f s.link e)
  fits := by
    rintro ⟨hm, hp, htoP, htoM⟩
    cases port
    · exact ⟨h.fits hm, hp, htoP, htoM⟩
    · exact ⟨hm, h.fits hp, htoP, htoM⟩

/-- An update of a port but for its receiver, FIFO and hold output. -/
theorem PortState.Steady.of_same {p q : PortState} (hr : q.receiver = p.receiver) (hf : q.fifo = p.fifo) (ho : q.holdOut = p.holdOut) :
    p.Steady q :=
  ⟨ho, fun h => by unfold PortState.fits at h ⊢; rwa [hr, hf]⟩

/-! ## Receivers and sorters -/

theorem framesSize_append (fs gs : List Frame) : framesSize (fs ++ gs) = framesSize fs + framesSize gs := by
  simp [framesSize]

theorem framesSize_singleton (f : Frame) : framesSize [f] = f.payload.length + 6 := by simp [framesSize, Frame.size]

theorem framesSize_drop_le (fs : List Frame) : framesSize (fs.drop 1) ≤ framesSize fs := by
  cases fs <;> simp [framesSize]

/-- What a receiver asks of the room reserved in its FIFO (R3, R7, R8). -/
def Receiver.Within (r : Receiver) (reserved : Nat) : Prop :=
  match r with
  | .hunt => reserved = 0
  | .header _ => reserved = 0
  | .payload f => f.count < f.length ∧ reserved = (if f.room then f.length + 6 else 0) ∧ (f.room = true → f.kept.length = f.count)
  | .check f _ => reserved = (if f.room then f.length + 6 else 0) ∧ (f.room = true → f.kept.length = f.length)

theorem PortState.fits_iff {p : PortState} : p.fits ↔ p.fifo.occupancy ≤ 2048 ∧ p.receiver.Within p.fifo.reserved := by
  unfold PortState.fits Receiver.Within
  cases p.receiver <;> rfl

theorem Receiver.Within.byte {r : Receiver} {reserved : Nat} (h : r.Within reserved) (b : Byte) : (r.byte b).Within reserved := by
  cases r with
  | hunt =>
    rw [Receiver.byte]
    split <;> exact h
  | header kept => exact h
  | payload f =>
    obtain ⟨more, room, kept⟩ := h
    have taken (hroom : f.room = true) : (f.take b).kept.length = f.count + 1 := by simp [Incoming.take, hroom, kept hroom]
    rw [Receiver.byte]
    split
    · next hmore => exact ⟨hmore, room, taken⟩
    · next hlast => exact ⟨room, fun hroom => (taken hroom).trans (by change f.count + 1 = f.length; omega)⟩
  | check f first => exact h

/-- A frame whose header has just been taken in, with its room or without. -/
theorem Receiver.Within.afterHeader (channel : Byte) (length : Nat) (room : Bool) (check : Half) :
    (Receiver.afterHeader channel length room check).Within (if room then length + 6 else 0) := by
  rw [Receiver.afterHeader]
  split
  · next empty => exact ⟨rfl, fun _ => empty.symm⟩
  · next some => exact ⟨Nat.pos_of_ne_zero some, rfl, fun _ => rfl⟩

theorem PortState.Steady.byte (p : PortState) (b : Byte) : p.Steady { p with receiver := p.receiver.byte b } :=
  ⟨rfl, fun h =>
    have ⟨occupied, within⟩ := PortState.fits_iff.mp h
    PortState.fits_iff.mpr ⟨occupied, within.byte b⟩⟩

theorem PortState.Steady.headerEnd {p : PortState} (b : Byte) (h : p.receiver.atHeaderEnd = true) : p.Steady (p.headerEnd b) := by
  obtain ⟨channel, high, hr⟩ : ∃ channel high, p.receiver = .header [channel, high] := by
    cases hr : p.receiver with
    | header kept =>
      rw [hr] at h
      obtain ⟨channel, high, rfl⟩ := List.length_eq_two.mp (beq_iff_eq.mp h)
      exact ⟨channel, high, rfl⟩
    | _ => rw [hr] at h; cases h
  rw [PortState.headerEnd_of_header b hr]
  have unreserved (hp : p.fits) : p.fifo.occupancy ≤ 2048 ∧ p.fifo.reserved = 0 := by
    have ⟨occupied, within⟩ := PortState.fits_iff.mp hp
    exact ⟨occupied, by rwa [hr] at within⟩
  split_ifs with long room
  · exact ⟨rfl, fun hp => PortState.fits_iff.mpr (unreserved hp)⟩
  · refine ⟨rfl, fun hp => PortState.fits_iff.mpr ⟨?_, .afterHeader channel _ true _⟩⟩
    have free := (unreserved hp).2
    simp only [Fifo.occupancy] at room ⊢
    omega
  · refine ⟨rfl, fun hp => PortState.fits_iff.mpr ⟨(unreserved hp).1, ?_⟩⟩
    exact (unreserved hp).2 ▸ Receiver.Within.afterHeader channel _ false _

/-- The end of a partial frame, its room released. -/
theorem PortState.Steady.released {p q : PortState} (hr : q.receiver = .hunt) (hf : q.fifo = { p.fifo with reserved := 0 })
    (ho : q.holdOut = p.holdOut) : p.Steady q := by
  refine ⟨ho, fun h => PortState.fits_iff.mpr ?_⟩
  have occupied := (PortState.fits_iff.mp h).1
  rw [hr, hf]
  exact ⟨Nat.le_trans (Nat.le_add_right _ _) occupied, rfl⟩

theorem PortState.Steady.frameEnd {p : PortState} (b : Byte) (h : p.receiver.atFrameEnd = true) : p.Steady (p.frameEnd b) := by
  obtain ⟨f, high, hr⟩ : ∃ f high, p.receiver = .check f (some high) := by
    cases hr : p.receiver with
    | check f first =>
      rw [hr] at h
      cases first with
      | none => cases h
      | some high => exact ⟨f, high, rfl⟩
    | _ => rw [hr] at h; cases h
  rw [PortState.frameEnd_of_check b hr]
  have within (hp : p.fits) : p.fifo.occupancy ≤ 2048 ∧ p.fifo.reserved = (if f.room then f.length + 6 else 0) ∧
      (f.room = true → f.kept.length = f.length) := by
    have ⟨occupied, within⟩ := PortState.fits_iff.mp hp
    exact ⟨occupied, by rwa [hr] at within⟩
  split_ifs with same room
  · refine ⟨rfl, fun hp => PortState.fits_iff.mpr ⟨?_, rfl⟩⟩
    obtain ⟨occupied, reserved, kept⟩ := within hp
    rw [if_pos room] at reserved
    simp only [Fifo.occupancy, framesSize_append, framesSize_singleton, kept room] at occupied ⊢
    omega
  · refine ⟨rfl, fun hp => PortState.fits_iff.mpr ⟨(within hp).1, ?_⟩⟩
    exact (within hp).2.1.trans (if_neg room)
  · exact .released rfl rfl rfl

theorem PortState.Steady.dropHead (p : PortState) : p.Steady p.dropHead := by
  refine ⟨rfl, fun h => PortState.fits_iff.mpr ?_⟩
  obtain ⟨occupied, within⟩ := PortState.fits_iff.mp h
  exact ⟨Nat.le_trans (Nat.add_le_add_right (framesSize_drop_le _) _) occupied, within⟩

/-! ## Forward buffers -/

section
variable (s : State)

theorem State.Steady.forwardToP {f : Frame} (h : framesSize s.link.toP + (f.payload.length + 6) ≤ 4096) :
    s.Steady (s.onLink fun l => { l with toP := l.toP ++ [f] }) where
  settings := rfl
  holdOut port := by cases port <;> rfl
  fits := fun ⟨hm, hp, _, htoM⟩ => ⟨hm, hp, by rwa [← framesSize_singleton, ← framesSize_append] at h, htoM⟩

theorem State.Steady.forwardToM {f : Frame} (h : framesSize s.link.toM + (f.payload.length + 6) ≤ 2048) :
    s.Steady (s.onLink fun l => { l with toM := l.toM ++ [f] }) where
  settings := rfl
  holdOut port := by cases port <;> rfl
  fits := fun ⟨hm, hp, htoP, _⟩ => ⟨hm, hp, htoP, by rwa [← framesSize_singleton, ← framesSize_append] at h⟩

theorem State.Steady.dropForwarded (port : Port) : s.Steady (s.onLink (Link.dropForwarded port)) where
  settings := by cases port <;> rfl
  holdOut side := by cases port <;> cases side <;> rfl
  fits := by
    rintro ⟨hm, hp, htoP, htoM⟩
    cases port
    · exact ⟨hm, hp, htoP, Nat.le_trans (framesSize_drop_le _) htoM⟩
    · exact ⟨hm, hp, Nat.le_trans (framesSize_drop_le _) htoP, htoM⟩

/-- An update of the arbiters' flags. -/
theorem State.Steady.flags {f : Link → Link} {a b : Bool} (h : f s.link = { s.link with lastForwarded := a, lastReceipt := b }) :
    s.Steady (s.onLink f) where
  settings := rfl
  holdOut port := by rw [State.onLink_link, h]; cases port <;> rfl
  fits hf := by rw [State.onLink_link, h]; exact hf

theorem State.Steady.countLink (port : Port) (f : LinkCounters → LinkCounters) : s.Steady (s.countLink port f) :=
  .onPort s port (.of_same rfl rfl rfl)

theorem State.Steady.send (port : Port) (source : Source) (f : Frame) : s.Steady (s.send port source f) :=
  .onPort s port (.of_same rfl rfl rfl)

theorem State.Steady.sortM {f : Frame} (room : s.roomForM f = true) : s.Steady (s.sortM f) := by
  by_cases hc : f.channel = 0xB0
  · rw [State.sortM_fragment s hc]
    exact (State.Steady.onPort s .m (.dropHead _)).trans (.of_path rfl)
  · cases hr : reservedChannel f.channel with
    | true =>
      rw [State.sortM_misdirected s hr hc]
      exact (State.Steady.onPort s .m (.dropHead _)).trans (.countLink _ .m _)
    | false =>
      rw [State.sortM_forwarded s hr]
      rw [State.roomForM_forwarded s hr] at room
      exact ((State.Steady.onPort s .m (.dropHead _)).trans (.countLink _ .m _)).trans (.forwardToP _ (of_decide_eq_true room))

theorem State.Steady.sortP {f : Frame} (room : s.roomForP f = true) : s.Steady (s.sortP f) := by
  by_cases hc : f.channel = 0xB8
  · rw [State.sortP_request s hc]
    exact (State.Steady.onPort s .p (.dropHead _)).trans (.of_path rfl)
  · cases hr : reservedChannel f.channel with
    | true =>
      rw [State.sortP_misdirected s hr hc]
      exact (State.Steady.onPort s .p (.dropHead _)).trans (.countLink _ .p _)
    | false =>
      rw [State.sortP_forwarded s hr]
      rw [State.roomForP_forwarded s hr] at room
      exact ((State.Steady.onPort s .p (.dropHead _)).trans (.countLink _ .p _)).trans (.forwardToM _ (of_decide_eq_true room))

/-! ## Transmitters -/

theorem State.Steady.doneWith (port : Port) (source : Source) : s.Steady (s.doneWith port source) := by
  cases source
  case forwarded => exact .dropForwarded s port
  all_goals exact .of_path rfl

theorem State.Steady.frameSent (port : Port) : s.Steady (s.frameSent port) := by
  cases h : (s.link.port port).sending with
  | none =>
    simp only [State.frameSent, h]
    exact .refl s
  | some x =>
    rw [State.frameSent_of_sending h]
    exact (State.Steady.onPort s port (.of_same rfl rfl rfl)).trans (.doneWith _ port x.source)

theorem State.Steady.arbitrateM : s.Steady s.arbitrateM := by
  unfold State.arbitrateM
  split
  · split
    · exact (State.Steady.send s _ _ _).trans (.flags _ rfl)
    · exact .refl s
  · split
    · exact (State.Steady.send s _ _ _).trans (.flags _ rfl)
    · exact .refl s

@[simp] theorem State.lastFrame_path (r : Record) : (s.lastFrame r).path = s.path := by
  have counted : (s.countDelivery r).path = s.path := by
    unfold State.countDelivery
    dsimp only
    split_ifs <;> simp
  unfold State.lastFrame
  cases r.latched <;> simp [counted]

theorem State.Steady.takeSequenceFrame (d : Delivery) : s.Steady (s.takeSequenceFrame d) := by
  unfold State.takeSequenceFrame
  split
  · dsimp only
    split
    · exact (State.Steady.send s _ _ _).trans (.of_path (State.lastFrame_path _ _))
    · exact (State.Steady.send s _ _ _).trans (.of_path (State.onRecords_path _ _))
  · exact .of_path rfl

theorem State.Steady.takeDeliveryWork : s.Steady s.takeDeliveryWork := by
  unfold State.takeDeliveryWork
  split
  · unfold State.beginDelivery
    split
    · exact .after_path (State.onRecords_path s _) (.takeSequenceFrame _ _)
    · exact .refl s
  · split
    · exact (State.Steady.send s _ _ _).trans
        (.of_path ((State.countRecords_path _ _).trans (State.onRecords_path _ _)))
    · exact .refl s

theorem State.Steady.setLastForwarded (b : Bool) : s.Steady (s.setLastForwarded b) := .flags s rfl

theorem State.Steady.takeForwarded : s.Steady s.takeForwarded := by
  unfold State.takeForwarded
  split
  · exact (State.Steady.send s _ _ _).trans (.setLastForwarded _ _)
  · exact .refl s

theorem State.Steady.takeReply : s.Steady s.takeReply := by
  unfold State.takeReply
  split
  · exact .send s _ _ _
  · exact .refl s

theorem State.Steady.arbitrateP : s.Steady s.arbitrateP := by
  unfold State.arbitrateP
  split
  · exact (State.Steady.takeSequenceFrame s _).trans (.setLastForwarded _ _)
  · split_ifs
    · exact (State.Steady.takeReply s).trans (.setLastForwarded _ _)
    · exact .takeForwarded s
    · exact (State.Steady.takeDeliveryWork s).trans (.setLastForwarded _ _)
    · exact ((State.Steady.send s _ _ _).trans (.of_path (State.onReport_path _ _))).trans (.setLastForwarded _ _)
    · exact .takeForwarded s

/-! ## Fragments and counters -/

theorem State.Steady.takePayload (p : List Byte) : s.Steady (s.takePayload p) := by
  unfold State.takePayload
  split
  · exact .of_path rfl
  · split
    · unfold State.takeUnlisted
      split
      · exact .of_path rfl
      · split
        · next room => exact (State.Steady.forwardToP s (of_decide_eq_true room)).trans (.of_path rfl)
        · exact .of_path rfl
    · split
      · exact .of_path (by simp)
      · exact .of_path (by simp)

theorem State.Steady.takeOldest (interrupted : Bool) (p : List Byte) : s.Steady (s.takeOldest interrupted p) := by
  have taken : s.Steady (s.popFragment.takePayload p) := .after_path (State.onIntake_path s _) (.takePayload _ p)
  cases interrupted
  · exact taken.trans (.of_path (by simp [State.takeOldest]))
  · exact taken

theorem State.Steady.clearGroup (group : Nat) : s.Steady (s.clearGroup group) := by
  match group with
  | 0 => exact .countLink s .m _
  | 1 => exact .countLink s .p _
  | 2 | 3 | 4 | _ + 5 => exact .of_path rfl

theorem State.Steady.getCounters (p : List Byte) : s.Steady (s.getCounters p) := by
  unfold State.getCounters
  dsimp only
  split
  · exact .of_path rfl
  · split_ifs
    · exact .of_path rfl
    · exact .after_path (State.answer_path s _ _ _) (.clearGroup _ _)
    · exact .of_path rfl

/-- A request whose own meaning is steady is so. -/
theorem State.Steady.carryOut (r : Request) {own : List Byte → State → State} (h : ∀ p (u : State), u.Steady (own p u)) :
    s.Steady (s.carryOut r own) := by
  unfold State.carryOut
  dsimp only
  split
  · exact .of_path rfl
  · exact .after_path s.popRequest_path (h _ _)
end

/-! ## What a step can do to the link path -/

/-- All that a command can do to the hold outputs, the configuration items and the buffers. -/
inductive State.Moves (s : State) : State → Prop
  | stays : s.Moves s
  | event {u : State} (h : s.Steady u) : s.Moves u.settle
  | configured {u : State} (hl : u.link = s.link) (hm : ∀ port, (u.settings.marks port).low < (u.settings.marks port).high) :
    s.Moves u.settle
  | reset {u : State} (mhi phi : Bool) (hl : u.link = .reset mhi phi) (hs : u.settings = .reset ∨ u.settings = s.settings) :
    s.Moves u.settle
  | lost {t : State} (mhi phi : Bool) (hl : t.link = (Link.reset mhi phi).unpowered) (hp : t.powered = false)
    (hs : t.settings = .reset) : s.Moves t
  | held (port : Port) (level : Bool) : s.Moves (s.onPort port fun p => { p with holdIn := level })

section
variable {s t : State}

theorem State.Moves.of_occur {ready : Bool} {effect : State → State} (h : s.occur ready effect = .next t)
    (hu : ready = true → s.Moves (effect s).settle) : s.Moves t := by
  rcases State.occur_cases h with ⟨_, hr, rfl⟩ | ⟨_, rfl⟩
  · exact hu hr
  · exact .stays

theorem State.Moves.of_steady {ready : Bool} {effect : State → State} (h : s.occur ready effect = .next t)
    (hu : ready = true → s.Steady (effect s)) : s.Moves t :=
  .of_occur h fun hr => .event (hu hr)

theorem State.Moves.of_path {ready : Bool} {effect : State → State} (h : s.occur ready effect = .next t)
    (hu : (effect s).path = s.path) : s.Moves t :=
  .of_steady h fun _ => .of_path hu

/-- A request whose own meaning leaves the link path. -/
theorem State.Moves.of_request {ready : Bool} {r : Request} {own : List Byte → State → State}
    (h : s.occur ready (State.carryOut r own) = .next t) (ho : ∀ p (u : State), (own p u).path = u.path) : s.Moves t :=
  .of_path h (s.carryOut_path r ho)

theorem State.endReset_link (soft : Bool) (rate : BitVec 2) (worn : Nat) (u : State) :
    (u.endReset soft rate worn).link = .reset u.link.m.holdIn u.link.p.holdIn ∧
      (u.endReset soft rate worn).settings = if soft then u.settings else .reset := by
  obtain ⟨a, x, left, _⟩ := u.endReset_cases soft rate worn
  rw [left]
  exact ⟨rfl, rfl⟩

theorem State.Moves.hardReset (rate : BitVec 2) (worn : Nat) : s.Moves (s.hardReset rate worn).settle := by
  obtain ⟨link, settings⟩ := State.endReset_link false rate worn s.cutProgram.cutErase
  exact .reset _ _ link (.inl settings)

theorem State.Moves.reset_request (rate : BitVec 2) (verify : SlotVerify) (worn : Nat) :
    s.Moves (s.carryOut .reset fun _ => State.softReset rate verify worn).settle := by
  unfold State.carryOut
  dsimp only
  split
  · exact .event (.of_path rfl)
  · obtain ⟨link, settings⟩ := State.endReset_link true rate worn (s.popRequest.finishProgram verify).cutErase
    have kept : (s.popRequest.finishProgram verify).cutErase.settings = s.settings := by rw [State.cutErase_finishProgram]; rfl
    exact .reset _ _ link (.inr (settings.trans kept))

theorem readMarks_low_lt_high (high low : Byte) : (readMarks high low).low < (readMarks high low).high := by
  simp only [readMarks]
  split <;> omega

/-- A configuration block gives low marks below the high ones (R10). -/
theorem readSettings_marks {b : List Byte} {x : Settings} (h : readSettings b = some x) (port : Port) :
    (x.marks port).low < (x.marks port).high := by
  unfold readSettings at h
  split at h
  · cases h
  · split at h
    · cases h
    · cases h
      cases port <;> exact readMarks_low_lt_high _ _

theorem State.Moves.configure : s.Moves (s.carryOut .configure State.configure).settle := by
  unfold State.carryOut State.configure
  dsimp only
  split
  · exact .event (.of_path rfl)
  · split
    · exact .event (.of_path rfl)
    · next x hx => exact .configured rfl (readSettings_marks hx)

theorem exec_moves (c : Instr) (h : exec c s = .next t) : s.Moves t := by
  cases c with
  | powerOnReset rate worn => cases h; exact .hardReset rate worn
  | pinReset rate worn => exact .of_occur h fun _ => .hardReset rate worn
  | scanEnd => exact .of_path h s.endScan_path
  | epoch => exact .of_path h s.advanceEpoch_path
  | contextTimeout =>
    rw [exec, execContextTimeout] at h
    exact .of_path h (State.sweepContexts_path _)
  | expirySweep =>
    rw [exec, execExpirySweep] at h
    exact .of_path h (State.sweepExpired_path _)
  | positionStale =>
    rw [exec, execPositionStale] at h
    exact .of_path h (State.checkPosition_path _)
  | heldLifetimeEnd =>
    rw [exec, execHeldLifetimeEnd] at h
    exact .of_path h (State.examineHeld_path _)
  | recordExpiry =>
    rw [exec, execRecordExpiry] at h
    exact .of_path h (State.expireActive_path _)
  | flushCountdown => exact .of_path h s.takeDecrement_path
  | reminderStep => exact .of_path h s.takeStep_path
  | headerEnd port b => exact .of_steady h fun ready => .onPort s port (.headerEnd b ready)
  | frameEnd port b => exact .of_steady h fun ready => .onPort s port (.frameEnd b ready)
  | gapError port => exact .of_steady h fun _ => .onPort s port (.released rfl rfl rfl)
  | mSorter =>
    rw [exec, execMSorter] at h
    split at h
    · exact .of_steady h fun room => .sortM s room
    · exact .of_path h rfl
  | pSorter =>
    rw [exec, execPSorter] at h
    split at h
    · exact .of_steady h fun room => .sortP s room
    · exact .of_path h rfl
  | holdInput port level => cases h; exact .held port level
  | pPortArbiter => exact .of_steady h fun _ => .arbitrateP s
  | mPortArbiter => exact .of_steady h fun _ => .arbitrateM s
  | frameSent port => exact .of_steady h fun _ => .frameSent s port
  | takeFragment interrupted =>
    rw [exec, execTakeFragment] at h
    split at h
    · exact .of_path h s.finishCompletion_path
    · exact .of_steady h fun _ => .takeOldest s interrupted _
    · exact .of_path h rfl
  | getStatus => exact .of_request h fun _ _ => rfl
  | getCounters => exact .of_steady h fun _ => .carryOut s _ fun p u => .getCounters u p
  | setTime => exact .of_request h fun p u => u.setTime_path p
  | setPosition => exact .of_request h fun p u => u.setPosition_path p
  | loadWindow => exact .of_request h fun p u => u.loadWindow_path p
  | muteWindow => exact .of_request h fun p u => u.muteWindow_path p
  | readWindow => exact .of_request h fun p u => u.readWindow_path p
  | provision => exact .of_request h fun p u => u.provision_path p
  | lockProvision => exact .of_request h fun p u => u.lockProvision_path p
  | acknowledge => exact .of_request h fun p u => u.acknowledge_path p
  | fetchRecord => exact .of_request h fun p u => u.fetchRecord_path p
  | flushAlerts => exact .of_request h fun p u => u.flushAlerts_path p
  | configure => exact .of_occur h fun _ => .configure
  | clearHistory => exact .of_request h fun p u => u.clearHistory_path p
  | reset rate verify worn => exact .of_occur h fun _ => .reset_request rate verify worn
  | unknownRequest => exact .of_path h rfl
  | historyWrite => exact .of_path h s.startWrite_path
  | slotProgramEnd verify =>
    rw [exec, execSlotProgramEnd] at h
    split at h
    · exact .of_path h (s.slotProgramEnd_path _ _)
    · exact .of_path h rfl
  | headerAmend => exact .of_path h s.startAmend_path
  | headerAmendEnd passed =>
    rw [exec, execHeaderAmendEnd] at h
    split at h
    · exact .of_path h (s.amendEnd_path _ _)
    · exact .of_path h rfl
  | eraseStart => exact .of_path h s.startErase_path
  | eraseSuspend ran => exact .of_path h rfl
  | eraseResume => exact .of_path h rfl
  | minimumRunEnd => exact .of_path h rfl
  | eraseEnd passed =>
    rw [exec, execEraseEnd] at h
    split at h
    · exact .of_path h (s.endErase_path _ _)
    · exact .of_path h rfl
  | provisioningProgram => exact .of_path h rfl
  | provisioningProgramEnd passed =>
    rw [exec, execProvisioningProgramEnd] at h
    split at h
    · exact .of_path h (s.provisioningEnd_path _ _)
    · exact .of_path h rfl
  | byteReceived port b => exact .of_steady h fun _ => .onPort s port (.byte _ b)
  | powerLoss =>
    rw [exec, execPowerLoss] at h
    cases h
    split
    · exact .lost _ _ rfl rfl rfl
    · exact .stays
end

/-- A step is the execution of a command, or nothing, on the state but for its queue. -/
theorem step_moves {s t : State} (h : step s = .next t) : ∃ rest, ({ s with pending := rest } : State).Moves t := by
  cases hq : s.pending with
  | nil =>
    simp only [step, hq] at h
    cases h
    exact ⟨s.pending, .stays⟩
  | cons c rest =>
    simp only [step, hq] at h
    exact ⟨rest, exec_moves c h⟩

/-! ## The buffers (R3, R7, R13) -/

theorem State.Moves.fits {s t : State} (h : s.Moves t) (hf : s.link.fits) : t.link.fits := by
  cases h with
  | stays => exact hf
  | event h => exact h.fits hf
  | configured hl _ => exact (hl ▸ hf : Link.fits _)
  | reset mhi phi hl _ => exact (hl ▸ Link.reset_fits mhi phi : Link.fits _)
  | lost mhi phi hl _ _ => exact hl ▸ Link.reset_fits mhi phi
  | held port level => cases port <;> exact hf

/-- Settles O56, from what a step can do to the link path (`step_moves`). -/
theorem buffersStayWithinCapacity : Obligations.BuffersStayWithinCapacity := by
  intro s t hf h
  obtain ⟨rest, moves⟩ := step_moves h
  exact moves.fits hf

/-! ## The outputs (R9, R164, R166, R174) -/

theorem holdLevel_between {marks : Marks} {occupancy : Nat} (level : Bool) (hl : marks.low < occupancy) (hh : occupancy < marks.high) :
    holdLevel marks occupancy level = level := by
  rw [holdLevel, if_neg (Nat.not_le.mpr hh), if_neg (Nat.not_le.mpr hl)]

theorem holdLevel_high {marks : Marks} {occupancy : Nat} (level : Bool) (h : marks.high ≤ occupancy) :
    holdLevel marks occupancy level = true := if_pos h

theorem holdLevel_low {marks : Marks} {occupancy : Nat} (level : Bool) (hm : marks.low < marks.high) (h : occupancy ≤ marks.low) :
    holdLevel marks occupancy level = false := by
  rw [holdLevel, if_neg (by omega), if_pos h]

theorem State.settle_port (u : State) (port : Port) :
    u.settle.link.port port = (u.link.port port).settle (u.settings.marks port) := by cases port <;> rfl

/-- The causes of WAKE, cause by cause (R164, R166). -/
theorem State.wakeLevel_iff (u : State) :
    u.wakeLevel = true ↔
      (u.settings.wakeEnables.alert = true ∧
        ((∃ r ∈ u.records.active, r.undelivered = true ∨ r.redeliver ≠ none ∨ r.reminder ≠ none) ∨ u.records.delivery ≠ none)) ∨
      (u.settings.wakeEnables.report = true ∧ u.report.queue ≠ [] ∧ u.report.countdown = some 0) ∨
      (u.settings.wakeEnables.reply = true ∧ u.management.replies ≠ []) ∨
      (u.settings.wakeEnables.backlog = true ∧
        u.settings.backlogMark ≤ (u.link.toP.map fun f => f.payload.length + 6).sum) := by
  have work : u.deliveryWork = true ↔
      ∃ r ∈ u.records.active, r.undelivered = true ∨ r.redeliver ≠ none ∨ r.reminder ≠ none := by
    simp [State.deliveryWork, Record.wantsDelivery, Option.isSome_iff_ne_none, or_assoc]
  have alert : u.alertFlag = true ↔
      (∃ r ∈ u.records.active, r.undelivered = true ∨ r.redeliver ≠ none ∨ r.reminder ≠ none) ∨ u.records.delivery ≠ none := by
    simp [State.alertFlag, work, Option.isSome_iff_ne_none]
  have report : u.reportPending = true ↔ u.report.queue ≠ [] ∧ u.report.countdown = some 0 := by simp [State.reportPending]
  have backlog : u.backlog = true ↔ u.settings.backlogMark ≤ (u.link.toP.map fun f => f.payload.length + 6).sum := decide_eq_true_iff
  have reply : (!u.management.replies.isEmpty) = true ↔ u.management.replies ≠ [] := by simp
  simp only [State.wakeLevel, State.causes, Bool.or_eq_true, Bool.and_eq_true, alert, report, backlog, reply, or_assoc]
  exact or_congr and_comm (or_congr and_comm (or_congr and_comm and_comm))

/-- No program or amend waits (R173), cause by cause. -/
theorem State.programWaiting_eq_false {u : State} (h : u.programWaiting = false) :
    (u.store.job = none ∨ u.store.running = some .provisioning) ∧ u.store.amends = [] ∧
      ∀ k, u.store.writes ≠ [] ∨ u.store.retry ≠ none → u.store.current = some k → (u.sector k).state = .opened →
        (u.sector k).nextSlot ≠ none → u.store.clear = none → u.store.ramOnly = true := by
  simp only [State.programWaiting, Bool.or_eq_false_iff] at h
  obtain ⟨⟨provisioning, amends⟩, write⟩ := h
  refine ⟨?_, by simpa using amends, fun k hw hc hs hn hl => ?_⟩
  · simpa [State.provisioningWaiting, or_iff_not_imp_left, Option.isSome_iff_ne_none] using provisioning
  · have writable : u.writable = true := by simp [State.writable, hc, hs, Option.isSome_iff_ne_none, hn]
    have waits : (!u.store.writes.isEmpty || u.store.retry.isSome) = true := by simpa [Option.isSome_iff_ne_none] using hw
    simpa [State.writeWaiting, writable, waits, hl] using write

theorem Erase.askedToStop_stays {e : Erase} {waiting : Bool} (hc : (e.askedToStop waiting).condition = .running)
    (hm : (e.askedToStop waiting).minimumRun = false) : waiting = false := by
  unfold Erase.askedToStop at hc hm
  split at hc
  · cases hc
  · next h =>
    rw [if_neg h] at hm
    cases waiting
    · rfl
    · exact absurd ⟨hc, by simp [hm], rfl⟩ h

/-- The outputs follow once they are settled. -/
theorem State.settle_outputsFollow {u : State} (hm : ∀ port, (u.settings.marks port).low < (u.settings.marks port).high) :
    u.settle.OutputsFollow where
  marks := hm
  hold _ port := by
    rw [State.settle_port]
    exact ⟨fun h => holdLevel_high _ h, fun h => holdLevel_low _ (hm port) h⟩
  wake _ := u.wakeLevel_iff
  erase _ e he hc hr := by
    obtain ⟨e, _, rfl⟩ := Option.map_eq_some_iff.mp he
    exact State.programWaiting_eq_false (Erase.askedToStop_stays hc hr)

/-- Where the occupancy of a powered part's FIFO lies strictly between the marks, its hold output is as in the state before (R9). -/
def State.HoldsBetween (s t : State) : Prop :=
  t.powered = true → ∀ port,
    (t.settings.marks port).low < (t.link.port port).fifo.occupancy →
    (t.link.port port).fifo.occupancy < (t.settings.marks port).high →
    (t.link.port port).holdOut = (s.link.port port).holdOut

theorem State.HoldsBetween.settle {s u : State} (h : ∀ port, (u.link.port port).holdOut = (s.link.port port).holdOut) :
    s.HoldsBetween u.settle := by
  intro _ port low high
  rw [State.settle_port] at low high ⊢
  exact (holdLevel_between _ low high).trans (h port)

theorem State.OutputsFollow.moves {s t : State} (hs : s.OutputsFollow) (h : s.Moves t) : t.OutputsFollow ∧ s.HoldsBetween t := by
  cases h with
  | stays => exact ⟨hs, fun _ _ _ _ => rfl⟩
  | event h => exact ⟨State.settle_outputsFollow (h.settings ▸ hs.marks), .settle h.holdOut⟩
  | configured hl hm => exact ⟨State.settle_outputsFollow hm, .settle fun port => by rw [hl]⟩
  | @reset u mhi phi hl hx =>
    refine ⟨State.settle_outputsFollow ?_, fun _ port low _ => ?_⟩
    · rcases hx with hx | hx <;> rw [hx]
      · exact State.reset_outputsFollow.marks
      · exact hs.marks
    · rw [State.settle_port, hl] at low
      cases port <;> cases low
  | lost mhi phi hl hp hx =>
    have off (h : t.powered = true) : False := by rw [hp] at h; cases h
    refine ⟨⟨?_, fun h => (off h).elim, fun h => (off h).elim, fun h => (off h).elim⟩, fun h => (off h).elim⟩
    rw [hx]
    exact State.reset_outputsFollow.marks
  | held port level =>
    cases port <;>
      exact ⟨⟨hs.marks, fun hp side => by cases side; exacts [hs.hold hp .m, hs.hold hp .p], hs.wake, hs.erase⟩,
        fun _ side _ _ => by cases side <;> rfl⟩

/-- Settles O54, from what a step can do to the link path (`step_moves`) and the settling of the outputs after every event. -/
theorem outputsFollowAtEveryStep : Obligations.OutputsFollowAtEveryStep := by
  intro s t hs h
  obtain ⟨rest, moves⟩ := step_moves h
  have queued : ({ s with pending := rest } : State).OutputsFollow := ⟨hs.marks, hs.hold, hs.wake, hs.erase⟩
  exact queued.moves moves

end Sys2Proof.Machine
end

section
/-!
PROOFS. A sequence in progress (R17, R123 to R126): which record it carries, and what the take of its last frame leaves, as one equation on
the state for each of its two ends: the record DELIVERED (R126) or its latched completion carried out (R130, R131).
-/

namespace Sys2Proof.Machine

/-! ## Receipts and summaries, each as one equation -/

/-- The receipt queue after a receipt, where one is wanted (R154). -/
def receiptsAfter (wanted : Bool) (x : Receipt) (q : List Receipt) : List Receipt :=
  if wanted = true ∧ q.length < 16 then q ++ [x] else q

/-- The counter of dropped receipts after a receipt, where one is wanted (R154). -/
def droppedAfter (wanted : Bool) (q : List Receipt) (c : Half) : Half := if wanted = true ∧ 16 ≤ q.length then bump c else c

theorem bumpBy_one (c : Half) : bumpBy 1 c = bump c := by rw [bumpBy_succ, bumpBy_zero]

section
variable (s : State)

theorem State.queueReceipt_eq (r : Record) (k : ReceiptKind) (wanted : Bool) :
    (if wanted then s.queueReceipt r k else s) =
      { s with
        ack := { s.ack with receipts := receiptsAfter wanted (s.receiptOf r k) s.ack.receipts }
        records :=
          { s.records with
            counters :=
              { s.records.counters with
                receiptsDropped := droppedAfter wanted s.ack.receipts s.records.counters.receiptsDropped } } } := by
  cases wanted with
  | false => simp [receiptsAfter, droppedAfter]
  | true =>
    rcases s.queueReceipt_cases r k with ⟨room, h⟩ | ⟨full, h⟩ <;> rw [if_pos rfl, h]
    · simp [receiptsAfter, droppedAfter, room, Nat.not_le.mpr room, State.onAck]
    · simp [receiptsAfter, droppedAfter, full, Nat.not_lt.mpr full, State.countRecords, State.onRecords]

theorem Report.countdownAfter_eq (q : Report) (d : Nat) (h : q.queue.length < 32) :
    q.countdownAfter d =
      if q.queue.length = 0 then some d else if q.queue.length = 31 then some 0 else some (min (q.countdown.getD d) d) := by
  have last : q.queue.length + 1 ≥ Config.reportCapacity ↔ q.queue.length = 31 := by unfold Config.reportCapacity; omega
  simp only [Report.countdownAfter, last, List.isEmpty_iff_length_eq_zero]

/-- A summary comes to the report queue as the statements say it does (R158, R159). -/
theorem State.joinReport_eq (x : Summary) (d : Nat) :
    s.joinReport x d =
      { s with
        report := s.report.after ⟨x, d⟩
        records :=
          { s.records with
            counters :=
              { s.records.counters with
                reportOverflow := bumpBy (1 - (32 - s.report.queue.length)) s.records.counters.reportOverflow } } } := by
  rcases s.joinReport_cases x d with ⟨room, h⟩ | ⟨full, h⟩ <;> rw [h]
  · have none : 1 - (32 - s.report.queue.length) = 0 := by omega
    simp [Report.after, Nat.not_le.mpr room, none, State.onReport, Report.countdownAfter_eq _ d room]
  · have one : 1 - (32 - s.report.queue.length) = 1 := by omega
    rw [one, bumpBy_one, Report.after, if_pos full]
    rfl

/-! ## The ends of a sequence -/

/-- Whether the last frame of a sequence asks for a DELIVERED receipt (R126, R150, R153). -/
def Record.wantsDeliveredReceipt (r : Record) : Bool :=
  r.undelivered && ((r.latched.isNone || r.ackDeferred) && r.attrs.receiptMode.wantsDelivered)

/-- What the last frame of a sequence counts and queues (R126). -/
theorem State.countDelivery_eq (r : Record) :
    s.countDelivery r =
      { s with
        ack := { s.ack with receipts := receiptsAfter r.wantsDeliveredReceipt (s.receiptOf r .delivered) s.ack.receipts }
        records :=
          { s.records with
            counters :=
              { s.records.counters with
                firstDeliveries :=
                  if r.undelivered then bump s.records.counters.firstDeliveries else s.records.counters.firstDeliveries
                redeliveries := if r.undelivered then s.records.counters.redeliveries else bump s.records.counters.redeliveries
                receiptsDropped :=
                  droppedAfter r.wantsDeliveredReceipt s.ack.receipts s.records.counters.receiptsDropped } } } := by
  unfold State.countDelivery Record.wantsDeliveredReceipt
  cases r.undelivered with
  | false => simp [receiptsAfter, droppedAfter, State.countRecords, State.onRecords]
  | true =>
    simp only [if_true, Bool.true_and]
    exact State.queueReceipt_eq _ r .delivered _

/-- What a completion leaves where its record has a slot (R130). -/
theorem State.finish_eq (code : Code) (r : Record) {h : Handle} (hh : r.handle = some h) :
    s.finish code r =
      { s with
        ack :=
          { s.ack with
            receipts :=
              receiptsAfter (code = .acknowledged && r.attrs.receiptMode.wantsAcknowledged) (s.receiptOf r .acknowledged)
                s.ack.receipts }
        report := s.report.after ⟨s.summaryOf r code, r.summaryDelay code⟩
        records :=
          Records.freeSlot h
            { s.records with
              counters :=
                RecordCounters.countCode code
                  { s.records.counters with
                    reportOverflow := bumpBy (1 - (32 - s.report.queue.length)) s.records.counters.reportOverflow
                    receiptsDropped :=
                      droppedAfter (code = .acknowledged && r.attrs.receiptMode.wantsAcknowledged) s.ack.receipts
                        s.records.counters.receiptsDropped } } } := by
  unfold State.finish
  simp only [hh, State.joinReport_eq, State.queueReceipt_eq]
  rfl

/-- What the last frame of a sequence leaves where no completion is latched: the record DELIVERED in its place (R126). -/
theorem State.lastFrame_delivered {r : Record} (hl : r.latched = none) :
    s.lastFrame r =
      { s.countDelivery r with
        records :=
          { (s.countDelivery r).records with
            delivery := none
            active := s.records.active.map fun y =>
              if y.handle == r.handle then { y.afterSequence s.ack.step with state := .delivered } else y } } := by
  simp only [State.lastFrame, hl, State.countDelivery_eq]
  rfl

/-- What the last frame of a sequence leaves of a latched record: its completion carried out, as one of the record it was (R131). -/
theorem State.lastFrame_latched {r : Record} {code : Code} (hl : r.latched = some code) :
    s.lastFrame r =
      State.finish code (r.afterSequence s.ack.step)
        { s.countDelivery r with records := { (s.countDelivery r).records with delivery := none, latched := none } } := by
  simp only [State.lastFrame, hl, State.countDelivery_eq]
  rfl

/-- The last frame of a sequence changes the record, acknowledgement and report units. -/
theorem OnlyChanges.lastFrame {r : Record} {h : Handle} (hh : r.handle = some h) :
    OnlyChanges [.records, .ack, .report] s (s.lastFrame r) := by
  intro x hx
  cases hl : r.latched with
  | none =>
    rw [State.lastFrame_delivered s hl, State.countDelivery_eq]
    cases x <;> simp_all [Piece.same]
  | some code =>
    rw [State.lastFrame_latched s hl, State.finish_eq _ code (r.afterSequence s.ack.step) (h := h) hh, State.countDelivery_eq]
    cases x <;> simp_all [Piece.same]
end

/-! ## The record of a sequence -/

section
variable {u : Records} {r : Record}

/-- In an ordered record unit no two live records have one handle (R115). -/
theorem Records.Ordered.eq_of_handle (hu : u.Ordered) {x y : Record} (hx : x ∈ u.live) (hy : y ∈ u.live) (h : x.handle = y.handle) :
    x = y := by
  have slots : (u.live.filterMap fun z => z.handle.map Handle.slot).Nodup :=
    (hu.slots.nodup_iff.mpr List.nodup_range).of_append_right
  have named : (u.live.filterMap fun z => z.handle.map Handle.slot).map some = u.live.map fun z => z.handle.map Handle.slot := by
    rw [List.map_filterMap_some_eq_filter_map_isSome, List.filter_eq_self]
    simpa using hu.handles
  exact List.inj_on_of_nodup_map (named ▸ slots.map (Option.some_injective Nat)) hx hy (congrArg (Option.map Handle.slot) h)

variable {d : Delivery} (hu : u.Ordered) (hd : u.delivery = some d) (hr : r ∈ u.active ++ u.latched.toList)
  (hs : r.state = .delivering)
include hu hd hr hs

/-- The record a sequence carries is the one that is DELIVERING (R119, R123). -/
theorem Records.Ordered.filter_delivering :
    (u.active ++ u.latched.toList).filter (fun y => y.state == .delivering) = [r] ∧ r.handle.map Handle.slot = some d.slot := by
  have sequence := hu.sequence
  rw [hd] at sequence
  obtain ⟨_, x, only, slot⟩ := sequence
  have same : r ∈ (u.active ++ u.latched.toList).filter fun y => y.state == .delivering := List.mem_filter.mpr ⟨hr, by simp [hs]⟩
  rw [only] at same
  obtain rfl := List.mem_singleton.mp same
  exact ⟨only, slot⟩

theorem Records.Ordered.delivering_eq : u.delivering d.slot = some r := by
  obtain ⟨only, slot⟩ := hu.filter_delivering hd hr hs
  have both : (u.active ++ u.latched.toList).filter (fun x => x.state == .delivering && (x.handle.map Handle.slot) == some d.slot) =
      [r] := by
    rw [← List.filter_filter, List.filter_comm, only]
    simp [slot]
  rw [Records.delivering, ← List.head?_filter, both]
  rfl

/-- A latched record is the one of the sequence, and a record without a latched code is on the active list (R131). -/
theorem Records.Ordered.latched_eq : u.latched = if r.latched.isSome then some r else none := by
  obtain ⟨only, _⟩ := hu.filter_delivering hd hr hs
  cases hl : u.latched with
  | none =>
    have active : r ∈ u.active := by simpa [hl] using hr
    simp [(hu.activeStates r active).2]
  | some x =>
    obtain ⟨state, code⟩ := hu.latchedState x hl
    have same : x ∈ (u.active ++ u.latched.toList).filter fun y => y.state == .delivering :=
      List.mem_filter.mpr ⟨by simp [hl], by simp [state]⟩
    rw [only] at same
    obtain rfl := List.mem_singleton.mp same
    simp [code]

end

/-! ## The receipts the last frame asks for -/

theorem ReceiptMode.wantsDelivered_iff {m : ReceiptMode} : m.wantsDelivered = true ↔ m = .delivered ∨ m = .both := by cases m <;> decide

theorem ReceiptMode.wantsAcknowledged_iff {m : ReceiptMode} : m.wantsAcknowledged = true ↔ m = .acked ∨ m = .both := by
  cases m <;> decide

/-- A first delivery asks for its DELIVERED receipt by the mode, but for a latched code that is no acknowledgement's (R151). -/
theorem Record.wantsDeliveredReceipt_iff {r : Record} (h : r.latched = none ∨ r.ackDeferred = true) :
    r.wantsDeliveredReceipt = true ↔ r.undelivered = true ∧ (r.attrs.receiptMode = .delivered ∨ r.attrs.receiptMode = .both) := by
  rcases h with h | h <;> simp [Record.wantsDeliveredReceipt, h, ReceiptMode.wantsDelivered_iff]

theorem receiptsAfter_eq {wanted : Bool} {p : Prop} [Decidable p] (h : wanted = true ↔ p) (x : Receipt) (q : List Receipt) :
    receiptsAfter wanted x q = if p ∧ q.length < 16 then q ++ [x] else q := by simp only [receiptsAfter, h]

theorem droppedAfter_eq {wanted : Bool} {p : Prop} [Decidable p] (h : wanted = true ↔ p) (q : List Receipt) (c : Half) :
    droppedAfter wanted q c = bumpBy (if p ∧ 16 ≤ q.length then 1 else 0) c := by
  simp only [droppedAfter, h]
  split
  · rw [bumpBy_one]
  · rw [bumpBy_zero]

theorem bumpBy_bumpBy (m n : Nat) (c : Half) : bumpBy m (bumpBy n c) = bumpBy (n + m) c := by
  apply BitVec.eq_of_toNat_eq
  simp only [bumpBy_toNat]
  omega

/-! ## What the last frame leaves -/

/-- The counter of a completion code (R137). -/
def RecordCounters.ofCode (code : Code) (c : RecordCounters) : Half :=
  match code with
  | .acknowledged => c.acknowledged
  | .expired => c.expired
  | .superseded => c.superseded
  | .withdrawn => c.withdrawn
  | .outOfArea => c.outOfArea
  | .muted => c.muted
  | .displaced => c.displaced
  | .flushed => c.flushed

section
variable {s : State} {r : Record}

/-- The last frame counts its delivery, whatever becomes of the record (R126). -/
theorem State.lastFrame_counts {h : Handle} (hh : r.handle = some h) :
    (s.lastFrame r).records.counters.firstDeliveries =
        (if r.undelivered then bump s.records.counters.firstDeliveries else s.records.counters.firstDeliveries) ∧
      (s.lastFrame r).records.counters.redeliveries =
        (if r.undelivered then s.records.counters.redeliveries else bump s.records.counters.redeliveries) := by
  cases hl : r.latched with
  | none =>
    rw [State.lastFrame_delivered s hl, State.countDelivery_eq]
    exact ⟨rfl, rfl⟩
  | some code =>
    rw [State.lastFrame_latched s hl, State.finish_eq _ code (r.afterSequence s.ack.step) (h := h) hh, State.countDelivery_eq]
    cases code <;> exact ⟨rfl, rfl⟩

/-- The last frame of a record without a latched code (R126, R150, R154). -/
theorem State.lastFrame_delivers (hl : r.latched = none) (hn : s.records.latched = none)
    (same : ∀ x ∈ s.records.active, x.handle = r.handle → x = r) :
    let t := s.lastFrame r
    t.report = s.report ∧ t.records.delivery = none ∧ t.records.latched = none ∧ t.records.held = s.records.held ∧
      t.records.free = s.records.free ∧ t.records.generations = s.records.generations ∧
      t.records.active = s.records.active.map (fun x =>
        if x.handle = r.handle then
          { x with
            state := .delivered, undelivered := false, redeliver := none
            deliveryStep := if r.undelivered then s.ack.step else r.deliveryStep }
        else x) ∧
      t.ack.receipts =
        (if r.undelivered ∧ (r.attrs.receiptMode = .delivered ∨ r.attrs.receiptMode = .both) ∧ s.ack.receipts.length < 16 then
          s.ack.receipts ++ [s.receiptOf r .delivered]
         else s.ack.receipts) ∧
      t.records.counters.receiptsDropped =
        (if r.undelivered ∧ (r.attrs.receiptMode = .delivered ∨ r.attrs.receiptMode = .both) ∧ 16 ≤ s.ack.receipts.length then
          bump s.records.counters.receiptsDropped
         else s.records.counters.receiptsDropped) := by
  have asks := Record.wantsDeliveredReceipt_iff (.inl hl)
  dsimp only
  rw [State.lastFrame_delivered s hl, State.countDelivery_eq]
  refine ⟨rfl, rfl, hn, rfl, rfl, rfl, ?active, ?receipts, ?dropped⟩
  case active =>
    refine List.map_congr_left fun x hx => ?_
    by_cases hx' : x.handle = r.handle
    · obtain rfl := same x hx hx'
      simp [Record.afterSequence]
    · simp [hx']
  case receipts => simp only [receiptsAfter, asks, and_assoc]
  case dropped => simp only [droppedAfter, asks, and_assoc]

/-- The last frame of a latched record, whose completion is carried out (R130, R131). -/
theorem State.lastFrame_completes {code : Code} {h : Handle} (hl : r.latched = some code) (hn : s.records.latched = some r)
    (hh : r.handle = some h) :
    let t := s.lastFrame r
    t.records.delivery = none ∧ t.records.latched = none ∧ t.records.active = s.records.active ∧ t.records.held = s.records.held ∧
      t.records.live.length + 1 = s.records.live.length ∧ t.records.free = s.records.free ++ [h.slot] ∧
      t.records.generations = s.records.generations.modify h.slot (· + 1) ∧
      SummariesJoin s t [⟨s.summaryOf r code, if code = .flushed then 0 else r.attrs.reportDelay⟩] ∧
      t.ack.step = s.ack.step ∧ t.records.counters.ofCode code = bump (s.records.counters.ofCode code) := by
  dsimp only
  rw [State.lastFrame_latched s hl, State.finish_eq _ code (r.afterSequence s.ack.step) (h := h) hh, State.countDelivery_eq]
  refine ⟨rfl, rfl, rfl, rfl, ?live, rfl, rfl, ?summary, rfl, ?counted⟩
  case live =>
    simp [Records.live, hn, Records.freeSlot]
    omega
  case summary => cases code <;> exact ⟨rfl, rfl⟩
  case counted => cases code <;> rfl

/-- The receipts that the last frame of a latched record queues or drops: its DELIVERED one and then its completion's (R150, R151, R154). -/
theorem State.lastFrame_receipts {code : Code} {h : Handle} (hl : r.latched = some code) (hh : r.handle = some h) :
    let t := s.lastFrame r
    let first := receiptsAfter r.wantsDeliveredReceipt (s.receiptOf r .delivered) s.ack.receipts
    let wanted := code = .acknowledged && r.attrs.receiptMode.wantsAcknowledged
    t.ack.receipts = receiptsAfter wanted (s.receiptOf r .acknowledged) first ∧
      t.records.counters.receiptsDropped =
        droppedAfter wanted first
          (droppedAfter r.wantsDeliveredReceipt s.ack.receipts s.records.counters.receiptsDropped) := by
  dsimp only
  rw [State.lastFrame_latched s hl, State.finish_eq _ code (r.afterSequence s.ack.step) (h := h) hh, State.countDelivery_eq]
  cases code <;> exact ⟨rfl, rfl⟩

/-- The frame of a sequence in progress that the arbiter takes (R17). -/
theorem State.arbitrateP_sequence {d : Delivery} {i : Nat} {rest : List Nat} (hd : s.records.delivery = some d) (hl : d.left = i :: rest)
    (hr : s.records.delivering d.slot = some r) :
    s.arbitrateP =
      State.setLastForwarded false
        (let u := s.send .p .delivery ⟨deliveryChannel, r.partPayload s.time.epoch d.count i⟩
         if rest.isEmpty then u.lastFrame r else u.onRecords fun x => { x with delivery := some { d with left := rest } }) := by
  simp only [State.arbitrateP, hd, State.takeSequenceFrame, hl, hr]
end

/-- Settles O13: the record of the sequence is the one DELIVERING (`Records.Ordered.delivering_eq`), and its last frame leaves what
`State.lastFrame_delivered` or `State.lastFrame_latched` says. -/
theorem sequenceRunsWhole : Obligations.SequenceRunsWhole := by
  intro s d r i rest hp hsend hin hu hd hl hr hstate
  have current := hu.delivering_eq hd hr hstate
  have latched := hu.latched_eq hd hr hstate
  have live : r ∈ s.records.live := by
    simp only [Records.live, List.mem_append] at hr ⊢
    tauto
  obtain ⟨h, hh⟩ := Option.isSome_iff_exists.mp (hu.handles r live)
  have ht : exec .pPortArbiter s = .next s.arbitrateP.settle :=
    State.occur_of_ready hp (by simp [PortState.canStart, State.frameForP, hsend, hin, hd])
  rw [State.arbitrateP_sequence hd hl current] at ht
  let u := s.send .p .delivery ⟨deliveryChannel, r.partPayload s.time.epoch d.count i⟩
  have sent : OnlyChanges [.port .p, .outputs] s u := .onPort s .p _
  cases rest with
  | cons j rest =>
    refine ⟨_, ht, ?frame, rfl, rfl, rfl, fun _ => ⟨rfl, rfl, rfl⟩, fun h => ?_, fun h => ?_, fun h => ?_⟩
    case frame =>
      have moved := sent.andThen (zs := [.port .p, .records, .outputs])
        (.onRecords u fun x => { x with delivery := some { d with left := j :: rest } }) (by simp) (by simp)
      exact (moved.andThen (.onArbiters _ rfl) (by simp) (by simp)).settled (by simp)
    all_goals cases h
  | nil =>
    have link : (u.lastFrame r).link = u.link := congrArg Prod.fst (u.lastFrame_path r)
    refine ⟨_, ht, ?frame, ?inner, ?forwarded, ?receiptFlag, fun h => absurd rfl h, fun _ => State.lastFrame_counts hh, fun _ hn => ?delivered,
      fun _ code hc => ?completed⟩
    case frame =>
      have moved := sent.andThen (zs := [.port .p, .records, .ack, .report, .outputs]) (.lastFrame u hh) (by simp) (by simp)
      exact (moved.andThen (.onArbiters _ rfl) (by simp) (by simp)).settled (by simp)
    case inner => exact congrArg (fun l : Link => l.p.inner) link
    case forwarded => rfl
    case receiptFlag =>
      have flag : (u.lastFrame r).link.lastReceipt = u.link.lastReceipt := congrArg Link.lastReceipt link
      exact flag
    case delivered =>
      rw [hn] at latched
      exact State.lastFrame_delivers (s := u) hn latched fun x hx =>
        hu.eq_of_handle (List.mem_append_left _ (List.mem_append_left _ hx)) live
    case completed =>
      rw [hc] at latched
      obtain ⟨hdelivery, hlatched, hactive, hheld, hlive, hfree, hgenerations, hsummary, hstep, hcount⟩ :=
        State.lastFrame_completes (s := u) hc latched hh
      obtain ⟨hreceipts, hdropped⟩ := State.lastFrame_receipts (s := u) hc hh
      refine ⟨hdelivery, hlatched, hactive, hheld, hlive, fun h' hh' => ?slot, hsummary, hstep, fun ha hdef => ?acknowledged,
        fun ha hdef => ?other, ?counted⟩
      case slot =>
        obtain rfl := Option.some.inj (hh.symm.trans hh')
        exact ⟨hfree, hgenerations⟩
      case acknowledged =>
        subst ha
        have asks := Record.wantsDeliveredReceipt_iff (r := r) (.inr hdef)
        have also : (decide (Code.acknowledged = .acknowledged) && r.attrs.receiptMode.wantsAcknowledged) = true ↔
            r.attrs.receiptMode = .acked ∨ r.attrs.receiptMode = .both := by simp [ReceiptMode.wantsAcknowledged_iff]
        rw [receiptsAfter_eq also, receiptsAfter_eq asks] at hreceipts
        rw [droppedAfter_eq asks, droppedAfter_eq also, bumpBy_bumpBy, receiptsAfter_eq asks] at hdropped
        simp only [and_assoc] at hreceipts hdropped
        exact ⟨hreceipts, hdropped⟩
      case other =>
        have unasked : r.wantsDeliveredReceipt = false := by simp [Record.wantsDeliveredReceipt, hc, hdef]
        simp only [unasked, decide_eq_false ha, receiptsAfter] at hreceipts
        exact hreceipts
      case counted => cases code <;> exact hcount

end Sys2Proof.Machine
end

section
/-!
PROOFS. Windows (R29, R32 to R34): a block whose receipt mode should be refused, and the three requests on the window table.
-/

namespace Sys2Proof.Machine

/-! ## Window blocks (R29) -/

/-- The model reads a receipt mode above 3 as NONE: in the name space of `ReceiptMode` its last arm's `none` is `ReceiptMode.none`. -/
theorem ReceiptMode.ofCode_above (n : Nat) : ReceiptMode.ofCode (n + 4) = some ReceiptMode.none := rfl

/-- A block of zeros but for its receipt mode, 4. -/
def blockOfModeFour : List Byte := [0, 0, 0, 0, 0, 0, 0, 0, 0, 0, 0, 0, 4, 0, 0]

/-- It is stored as the cleared window of class NATIONAL. -/
theorem readBlock_modeFour :
    readBlock blockOfModeFour = some { Window.cleared with attrs := { Window.cleared.attrs with cls := .national } } := rfl

/-- Refutes O35: a block whose receipt mode is 4 is accepted, its mode stored as NONE (`ReceiptMode.ofCode_above`). -/
theorem not_windowBlocksAreCheckedAndClamped : ¬ Obligations.WindowBlocksAreCheckedAndClamped := by
  intro h
  obtain ⟨refused, -⟩ := h blockOfModeFour rfl
  have unread : readBlock blockOfModeFour = none := refused.mpr (by decide)
  rw [readBlock_modeFour] at unread
  cases unread

/-! ## Requests answered at once -/

/-- A request whose meaning is to answer it, and nothing else. -/
theorem State.asked.answered {s t : State} {p : List Byte} {rest : List (List Byte)} {c : Instr} {result : Result} {data : List Byte}
    (h : s.asked p rest) (he : exec c s = .next t) (ht : t = (s.popRequest.answer p result data).settle) :
    ∃ t, exec c s = .next t ∧ OnlyChanges [.management, .outputs] s t ∧
      AnswersAtOnce s t rest (replyPayload (byteAt p 0) (byteAt p 1) result data) :=
  ⟨t, he, ht ▸ ((OnlyChanges.answered s p result data).mono (by simp)).settled (by simp), ht ▸ State.answersAtOnce h result data⟩

theorem OnlyChanges.onWindows (s : State) (f : Windows → Windows) : OnlyChanges [.windows] s (s.onWindows f) := by
  intro x hx
  cases x <;> simp_all [Piece.same]

/-- A request whose meaning is to change the windows and answer DONE. -/
theorem State.asked.windowsChanged {s t : State} {p : List Byte} {rest : List (List Byte)} {c : Instr} (f : Windows → Windows)
    (h : s.asked p rest) (he : exec c s = .next t) (ht : t = ((s.popRequest.onWindows f).answer p .done []).settle) :
    ∃ t, exec c s = .next t ∧ OnlyChanges [.windows, .management, .outputs] s t ∧
      AnswersAtOnce s t rest [byteAt p 0, byteAt p 1, 0] ∧ t.windows = f s.windows := by
  subst ht
  have changed := (OnlyChanges.onManagement s _).andThen (zs := [.windows, .management, .outputs])
    (.onWindows s.popRequest f) (by simp) (by simp)
  exact ⟨_, he, (changed.andThen (.onManagement _ _) (by simp) (by simp)).settled (by simp), State.answersAtOnce h .done [], rfl⟩

/-! ## LOAD WINDOW (R32) -/

section
variable {s : State} {tag index : Byte} {block : List Byte} {rest : List (List Byte)}

theorem exec_loadWindow (h : s.asked (0x10 :: tag :: index :: block) rest) (hb : block.length = 15) (hs : s.scanning = false) :
    exec .loadWindow s = .next (s.popRequest.loadWindow (0x10 :: tag :: index :: block)).settle :=
  State.occur_request _ h rfl (by simp [commonCheck, hs, hb, Request.arguments])

/-- The checks of LOAD WINDOW and what it does (R32). -/
theorem State.loadWindow_eq (s : State) :
    s.loadWindow (0x10 :: tag :: index :: block) =
      match readBlock block with
      | none => s.answer (0x10 :: tag :: index :: block) .badArgument []
      | some w =>
        if 15 < index.toNat then s.answer (0x10 :: tag :: index :: block) .badArgument []
        else if w.attrs.cls = .national ∧ w.attrs.muted = true then s.answer (0x10 :: tag :: index :: block) .locked []
        else (s.onWindows (Windows.setOrdinary index.toNat w)).answer (0x10 :: tag :: index :: block) .done [] := by
  have p : (0x10 :: tag :: index :: block).drop 3 = block := rfl
  unfold State.loadWindow
  rw [p]
  cases readBlock block with
  | none => rfl
  | some w => simp [argAt, byteAt]
end

/-- Settles O34: the checks in the order of `State.loadWindow_eq`. -/
theorem loadWindowTakesTheBlock : Obligations.LoadWindowTakesTheBlock := by
  intro s tag index block rest h hb hs
  have he := exec_loadWindow h hb hs
  rw [State.loadWindow_eq] at he
  refine ⟨fun bad => ?badArgument, fun w hi hw national muted => ?locked, fun w hi hw allowed => ?done⟩
  case badArgument =>
    refine h.answered he (congrArg State.settle ?_) (result := .badArgument) (data := [])
    cases hw : readBlock block with
    | none => rfl
    | some w => exact if_pos (bad.resolve_right (by simp [hw]))
  case locked =>
    refine h.answered he (congrArg State.settle ?_) (result := .locked) (data := [])
    rw [hw]
    exact (if_neg (Nat.not_lt.mpr hi)).trans (if_pos ⟨national, muted⟩)
  case done =>
    refine h.windowsChanged (Windows.setOrdinary index.toNat w) he (congrArg State.settle ?_)
    rw [hw]
    refine (if_neg (Nat.not_lt.mpr hi)).trans (if_neg fun refused => ?_)
    rcases allowed with other | clear
    · exact other refused.1
    · simp [clear] at refused

/-! ## MUTE WINDOW (R33) -/

section
variable {s : State} {tag index onOff : Byte} {rest : List (List Byte)}

theorem exec_muteWindow (h : s.asked [0x11, tag, index, onOff] rest) (hs : s.scanning = false) :
    exec .muteWindow s = .next (s.popRequest.muteWindow [0x11, tag, index, onOff]).settle :=
  State.occur_request _ h rfl (by rw [hs]; rfl)

theorem State.muteWindow_refused (s : State) (bad : 19 < index.toNat ∨ 1 < onOff.toNat) :
    s.muteWindow [0x11, tag, index, onOff] = s.answer [0x11, tag, index, onOff] .badArgument [] := by
  unfold State.muteWindow
  split
  · rfl
  · next muted hf =>
    have named : ¬ 1 < onOff.toNat := fun h => Option.some_ne_none muted (hf.symm.trans (flagOfCode_eq_none h))
    exact if_pos (bad.resolve_right named)

/-- The checks of MUTE WINDOW, of arguments in range, and what it does (R33). -/
theorem State.muteWindow_eq (s : State) (hi : index.toNat ≤ 19) (ho : onOff.toNat ≤ 1) :
    s.muteWindow [0x11, tag, index, onOff] =
      if 16 ≤ index.toNat then s.answer [0x11, tag, index, onOff] .locked []
      else if (s.windows.at index.toNat).attrs.cls = .national then s.answer [0x11, tag, index, onOff] .locked []
      else (s.onWindows (Windows.setMuted index.toNat (onOff == 1))).answer [0x11, tag, index, onOff] .done [] := by
  rcases byte_eq_of_le_one ho with rfl | rfl <;> exact if_neg (Nat.not_lt.mpr hi)

theorem Windows.at_ordinary {ws : Windows} {i : Nat} {w : Window} (h : ws.ordinary[i]? = some w) : ws.at i = w := by
  rw [Windows.at, List.getD_eq_getElem?_getD, List.getElem?_append_left (List.getElem?_eq_some_iff.mp h).1, h]
  rfl

theorem Windows.setMuted_eq {ws : Windows} {i : Nat} {w : Window} (h : ws.ordinary[i]? = some w) (muted : Bool) :
    ws.setMuted i muted =
      { ws with ordinary := ws.ordinary.set i { w with attrs := { w.attrs with muted := muted } } } := by
  simp [Windows.setMuted, List.modify_eq_set_getElem?, h]
end

/-- Settles O36: the checks in the order of `State.muteWindow_eq`. -/
theorem muteWindowChangesOneAttribute : Obligations.MuteWindowChangesOneAttribute := by
  intro s tag index onOff rest h hs
  have he := exec_muteWindow h hs
  refine ⟨fun bad => ?badArgument, fun override hi ho => ?override, fun w hi ho hw => ⟨fun national => ?national, fun other => ?done⟩⟩
  case badArgument => exact h.answered he (congrArg State.settle (State.muteWindow_refused _ bad))
  case override =>
    exact h.answered he (congrArg State.settle ((State.muteWindow_eq _ hi ho).trans (if_pos override)))
  all_goals
    have low : ¬ 16 ≤ index.toNat := by omega
    have eq := (s.popRequest.muteWindow_eq (tag := tag) (by omega) ho).trans (if_neg low)
    have named : (s.popRequest.windows.at index.toNat) = w := Windows.at_ordinary hw
    rw [named] at eq
  case national => exact h.answered he (congrArg State.settle (eq.trans (if_pos national)))
  case done =>
    have changed := h.windowsChanged _ he (congrArg State.settle (eq.trans (if_neg other)))
    rwa [Windows.setMuted_eq hw] at changed

/-! ## READ WINDOW (R34) -/

theorem exec_readWindow {s : State} {tag index : Byte} {rest : List (List Byte)} (h : s.asked [0x12, tag, index] rest)
    (hs : s.scanning = false) : exec .readWindow s = .next (s.popRequest.readWindow [0x12, tag, index]).settle :=
  State.occur_request _ h rfl (by rw [hs]; rfl)

theorem Windows.at_override {ws : Windows} {i : Nat} {w : Window} (hi : 16 ≤ i) (hl : ws.ordinary.length = 16)
    (h : ws.override[i - 16]? = some w) : ws.at i = w := by
  rw [Windows.at, List.getD_eq_getElem?_getD, List.getElem?_append_right (by omega), hl, h]
  rfl

/-- Settles O37: a window read is answered with its block, whichever of the twenty it is. -/
theorem readWindowReturnsTheBlock : Obligations.ReadWindowReturnsTheBlock := by
  intro s tag index rest h hs
  have he := exec_readWindow h hs
  have read (w : Window) (hi : index.toNat ≤ 19) (hw : s.windows.at index.toNat = w) :=
    h.answered (result := .done) (data := w.block) he
      (congrArg State.settle ((if_neg (Nat.not_lt.mpr hi)).trans (hw ▸ rfl)))
  exact ⟨fun bad => h.answered he (congrArg State.settle (if_pos bad)), fun w hi hw => read w (by omega) (Windows.at_ordinary hw),
    fun w hi hl hw top => read w top (Windows.at_override hi hl hw)⟩

end Sys2Proof.Machine
end

section
/-!
PROOFS. Provisioning (R39, R184 to R186, R200): the two requests, and the program they ask for.
-/

namespace Sys2Proof.Machine

/-! ## The requests (R185, R186) -/

/-- An update of the history store. `Piece.outputs` is named for the condition of its erase. -/
theorem OnlyChanges.onStore (s : State) (f : Store → Store) : OnlyChanges [.store, .outputs] s (s.onStore f) := by
  intro x hx
  cases x <;> simp_all [Piece.same]

/-- The update of the outputs changes nothing in the store but the difference between a RUNNING and a SUSPENDING erase. -/
theorem State.settle_store_inner (s : State) : s.settle.store.inner = s.store.inner := OnlyChanges.settle s .store (by simp)

theorem ProvisioningSlot.locked_iff {p : ProvisioningSlot} : p.locked = true ↔ p.lock = .set := by
  simp [ProvisioningSlot.locked]

theorem Store.occupied_iff {x : Store} : x.occupied = true ↔ x.job ≠ none ∨ x.clear ≠ none := by
  simp [Store.occupied, Option.isSome_iff_ne_none]

theorem Store.not_occupied {x : Store} (hj : x.job = none) (hc : x.clear = none) : ¬ x.occupied = true := by
  simp [Store.occupied, hj, hc]

/-- A request whose meaning is to ask for a provisioning program (R200). -/
theorem State.asked.programRequested {s t : State} {p : List Byte} {rest : List (List Byte)} {c : Instr} (target : ProvisioningTarget)
    (h : s.asked p rest) (he : exec c s = .next t) (ht : t = (s.popRequest.requestProgram p target).settle) :
    ∃ t, exec c s = .next t ∧ OnlyChanges [.store, .management, .outputs] s t ∧
      t.management = { s.management with requests := rest, reserved := true } ∧
      t.store.inner =
        { s.store.inner with job := some { tag := byteAt p 1, slot := (argAt p 0).toNat, target := target } } := by
  subst ht
  obtain ⟨_, hq, _⟩ := h
  have left : s.management.requests.drop 1 = rest := by rw [hq]; rfl
  have changed : OnlyChanges [.store, .management, .outputs] s (s.popRequest.requestProgram p target) :=
    ((OnlyChanges.onManagement s _).andThen (.onStore _ _) (by simp) (by simp)).andThen (.onManagement _ _) (fun _ => id) (by simp)
  exact ⟨_, he, changed.settled (by simp), congrArg (fun q => Management.mk q s.management.replies true) left,
    State.settle_store_inner _⟩

section
variable {s : State} {tag slot : Byte} {block : List Byte} {rest : List (List Byte)}

theorem exec_provision (h : s.asked (0x18 :: tag :: slot :: block) rest) (hb : block.length = 15) (hs : s.scanning = false) :
    exec .provision s = .next (s.popRequest.provision (0x18 :: tag :: slot :: block)).settle :=
  State.occur_request _ h rfl (by simp [commonCheck, hs, hb, Request.arguments])

/-- The checks of PROVISION and what it asks for (R185). -/
theorem State.provision_eq (s : State) :
    s.provision (0x18 :: tag :: slot :: block) =
      match readBlock block with
      | none => s.answer (0x18 :: tag :: slot :: block) .badArgument []
      | some w =>
        if 3 < slot.toNat then s.answer (0x18 :: tag :: slot :: block) .badArgument []
        else if s.store.occupied = true then s.answer (0x18 :: tag :: slot :: block) .busy []
        else if (s.provisioningSlot slot.toNat).locked = true then s.answer (0x18 :: tag :: slot :: block) .locked []
        else
          match (s.provisioningSlot slot.toNat).nextCopy with
          | none => s.answer (0x18 :: tag :: slot :: block) .exhausted []
          | some n => s.requestProgram (0x18 :: tag :: slot :: block) (.copy n w) := rfl

theorem exec_lockProvision (h : s.asked [0x19, tag, slot] rest) (hs : s.scanning = false) :
    exec .lockProvision s = .next (s.popRequest.lockProvision [0x19, tag, slot]).settle :=
  State.occur_request _ h rfl (by rw [hs]; rfl)

/-- The checks of LOCK PROVISION and what it asks for (R186). -/
theorem State.lockProvision_eq (s : State) :
    s.lockProvision [0x19, tag, slot] =
      if 3 < slot.toNat then s.answer [0x19, tag, slot] .badArgument []
      else if s.store.occupied = true then s.answer [0x19, tag, slot] .busy []
      else if (s.provisioningSlot slot.toNat).locked = true then s.answer [0x19, tag, slot] .done []
      else s.requestProgram [0x19, tag, slot] (.lock false) := rfl
end

/-- Settles O38: the checks in the orders of `State.provision_eq` and `State.lockProvision_eq`. -/
theorem provisioningIsRequestedOrRefused : Obligations.ProvisioningIsRequestedOrRefused := by
  refine ⟨fun s tag slot block rest h hb hs => ?provision, fun s tag slot rest h hs => ?lock⟩
  case provision =>
    have he := exec_provision h hb hs
    rw [State.provision_eq] at he
    refine ⟨fun bad => h.answered (result := .badArgument) (data := []) he (congrArg State.settle ?_), fun w hw hi => ?_⟩
    · cases hw : readBlock block with
      | none => rfl
      | some w => exact if_pos (bad.resolve_left (by simp [hw]))
    rw [hw] at he
    dsimp only at he
    rw [if_neg (Nat.not_lt.mpr hi)] at he
    refine ⟨fun busy => ?busy, fun hj hc locked => ?locked, fun hj hc unlocked hn => ?exhausted, fun n hj hc unlocked hn => ?requested⟩
    case busy =>
      have occupied : s.popRequest.store.occupied = true := Store.occupied_iff.mpr busy
      rw [if_pos occupied] at he
      exact h.answered he rfl
    all_goals
      have idle : ¬ s.popRequest.store.occupied = true := Store.not_occupied hj hc
      rw [if_neg idle] at he
    case locked =>
      have lock : (s.popRequest.provisioningSlot slot.toNat).locked = true := ProvisioningSlot.locked_iff.mpr locked
      rw [if_pos lock] at he
      exact h.answered he rfl
    all_goals
      have noLock : ¬ (s.popRequest.provisioningSlot slot.toNat).locked = true := mt ProvisioningSlot.locked_iff.mp unlocked
      have next : (s.popRequest.provisioningSlot slot.toNat).nextCopy = _ := hn
      rw [if_neg noLock, next] at he
    case exhausted => exact h.answered he rfl
    case requested => exact h.programRequested (.copy n w) he rfl
  case lock =>
    have he := exec_lockProvision h hs
    rw [State.lockProvision_eq] at he
    refine ⟨fun bad => h.answered he (congrArg State.settle (if_pos bad)), fun hi busy => ?busy, fun hi hj hc locked => ?locked,
      fun hi hj hc unlocked => ?requested⟩
    all_goals rw [if_neg (Nat.not_lt.mpr hi)] at he
    case busy =>
      have occupied : s.popRequest.store.occupied = true := Store.occupied_iff.mpr busy
      rw [if_pos occupied] at he
      exact h.answered he rfl
    all_goals
      have idle : ¬ s.popRequest.store.occupied = true := Store.not_occupied hj hc
      rw [if_neg idle] at he
    case locked =>
      have lock : (s.popRequest.provisioningSlot slot.toNat).locked = true := ProvisioningSlot.locked_iff.mpr locked
      rw [if_pos lock] at he
      exact h.answered he rfl
    case requested =>
      have noLock : ¬ (s.popRequest.provisioningSlot slot.toNat).locked = true := mt ProvisioningSlot.locked_iff.mp unlocked
      rw [if_neg noLock] at he
      exact h.programRequested (.lock false) he rfl

/-! ## The program in flight (R173, R185, R186) -/

/-- An update of the blocks a provisioning program can reach. -/
theorem OnlyChanges.programmed (s : State) (i : Index) (a : NvArray) (w : Windows) (x : Store) (g : Management) :
    OnlyChanges [.index, .array, .windows, .store, .management, .outputs] s
      { s with index := i, array := a, windows := w, store := x, management := g } := by
  intro y hy
  cases y <;> simp_all [Piece.same]

/-- The same without the windows. -/
theorem OnlyChanges.programmedOnly (s : State) (i : Index) (a : NvArray) (x : Store) (g : Management) :
    OnlyChanges [.index, .array, .store, .management, .outputs] s
      { s with index := i, array := a, store := x, management := g } := by
  intro y hy
  cases y <;> simp_all [Piece.same]

/-- A slot's content is its highest-numbered committed copy (R184). -/
theorem ProvisioningSlot.content_of_last {p : ProvisioningSlot} {n : Nat} {b : Window} (hn : p.copies[n]? = some (.committed b))
    (last : ∀ m x, n < m → p.copies[m]? ≠ some (.committed x)) : p.content = some b := by
  obtain ⟨hlt, hb⟩ := List.getElem?_eq_some_iff.mp hn
  have none_after : (p.copies.drop (n + 1)).reverse.filterMap Copy.block? = [] := by
    refine List.filterMap_eq_nil_iff.mpr fun c hc => ?_
    obtain ⟨i, hi⟩ := List.mem_iff_getElem?.mp (List.mem_reverse.mp hc)
    rw [List.getElem?_drop] at hi
    cases c with
    | committed x => exact absurd hi (last _ x (by omega))
    | _ => rfl
  have split : p.copies = p.copies.take n ++ .committed b :: p.copies.drop (n + 1) := by
    rw [← hb, List.cons_getElem_drop_succ, List.take_append_drop]
  rw [ProvisioningSlot.content, split]
  simp [none_after, Copy.block?]

section
variable {s : State} {j : ProvisioningJob} {p : ProvisioningSlot} (hp : s.powered = true) (hr : s.store.running = some .provisioning)
  (hj : s.store.job = some j)
include hp hr hj

theorem exec_provisioningProgramEnd (passed : Bool) :
    exec (.provisioningProgramEnd passed) s = .next (s.provisioningEnd passed j).settle := by
  have he : exec (.provisioningProgramEnd passed) s = s.occur true (State.provisioningEnd passed j) := by
    simp [exec, execProvisioningProgramEnd, hr, hj]
  rw [he, State.occur_of_ready hp rfl]
end

/-- An update of one provisioning slot (R184). -/
theorem State.onProvisioningSlot_eq {s : State} {n : Nat} {p : ProvisioningSlot} (h : s.array.provisioning[n]? = some p)
    (f : ProvisioningSlot → ProvisioningSlot) :
    s.onProvisioningSlot n f = { s with array := { s.array with provisioning := s.array.provisioning.set n (f p) } } := by
  simp [State.onProvisioningSlot, State.onArray, List.modify_eq_set_getElem?, h]

section
variable {s : State} {j : ProvisioningJob} {p : ProvisioningSlot} {n : Nat} {b : Window}
  (h : s.array.provisioning[j.slot]? = some p)
include h

/-- A provisioning slot that has been written is read as it was written. -/
theorem getD_set_provisioning (q : ProvisioningSlot) : (s.array.provisioning.set j.slot q).getD j.slot ⟨[], .clear⟩ = q := by
  have within := (List.getElem?_eq_some_iff.mp h).1
  rw [List.getD_eq_getElem?_getD, List.getElem?_set_self within]
  rfl

/-- A copy that passes its verify is committed, its window reloaded, and DONE answered (R185). -/
theorem State.copyPassed_eq (ht : j.target = .copy n b) :
    let q : ProvisioningSlot := { p with copies := p.copies.set n (.committed b) }
    s.provisioningEnd true j =
      { s with
        index :=
          { s.index with
            counters := { s.index.counters with provisioningPrograms := bump s.index.counters.provisioningPrograms } }
        array := { s.array with provisioning := s.array.provisioning.set j.slot q }
        windows := { s.windows with override := s.windows.override.set j.slot q.window }
        store := { s.store with running := none, job := none }
        management :=
          { s.management with replies := s.management.replies ++ [[0x18, j.tag, 0]], reserved := false } } := by
  intro q
  let counted := (s.onStore fun x => { x with running := none }).countHistory fun c =>
    { c with provisioningPrograms := bump c.provisioningPrograms }
  have written := State.onProvisioningSlot_eq (s := counted) h fun p => { p with copies := p.copies.set n (.committed b) }
  simp only [State.provisioningEnd, State.provisioningPassed, ht, if_true]
  rw [written]
  simp only [State.loadOverride, State.provisioningSlot, counted, State.countHistory, State.onIndex_array, State.onStore_array,
    getD_set_provisioning h]
  simp only [State.endJob, ht]
  rfl

/-- A copy that fails its verify is void, and the next copy is tried, or EXHAUSTED answered (R185). -/
theorem State.copyFailed_eq (ht : j.target = .copy n b) :
    let q : ProvisioningSlot := { p with copies := p.copies.set n .void }
    s.provisioningEnd false j =
      { s with
        index :=
          { s.index with
            counters := { s.index.counters with provisioningFailures := bump s.index.counters.provisioningFailures } }
        array := { s.array with provisioning := s.array.provisioning.set j.slot q }
        store := { s.store with running := none, job := q.nextCopy.map fun m => { j with target := .copy m b } }
        management :=
          if q.nextCopy.isSome then s.management
          else { s.management with replies := s.management.replies ++ [[0x18, j.tag, 4]], reserved := false } } := by
  intro q
  let counted := (s.onStore fun x => { x with running := none }).countHistory fun c =>
    { c with provisioningFailures := bump c.provisioningFailures }
  have written := State.onProvisioningSlot_eq (s := counted) h fun p => { p with copies := p.copies.set n .void }
  have read : State.provisioningSlot (counted.onProvisioningSlot j.slot fun p => { p with copies := p.copies.set n .void }) j.slot = q :=
    (congrArg (State.provisioningSlot · j.slot) written).trans (getD_set_provisioning h q)
  simp only [State.provisioningEnd, State.provisioningFailed, ht, Bool.false_eq_true, if_false]
  rw [read, written]
  cases q.nextCopy with
  | none => simp only [State.endJob, ht]; rfl
  | some m => rfl

/-- A lock mark that passes its verify locks the slot, and DONE is answered (R186). -/
theorem State.lockPassed_eq {again : Bool} (ht : j.target = .lock again) :
    s.provisioningEnd true j =
      { s with
        index :=
          { s.index with
            counters := { s.index.counters with provisioningPrograms := bump s.index.counters.provisioningPrograms } }
        array := { s.array with provisioning := s.array.provisioning.set j.slot { p with lock := .set } }
        store := { s.store with running := none, job := none }
        management :=
          { s.management with replies := s.management.replies ++ [[0x19, j.tag, 0]], reserved := false } } := by
  let counted := (s.onStore fun x => { x with running := none }).countHistory fun c =>
    { c with provisioningPrograms := bump c.provisioningPrograms }
  simp only [State.provisioningEnd, State.provisioningPassed, ht, if_true]
  rw [State.onProvisioningSlot_eq (s := counted) h fun p => { p with lock := .set }]
  simp only [State.endJob, ht]
  rfl

/-- A lock mark that fails its verify is in doubt, and is tried once more, or EXHAUSTED answered (R186). -/
theorem State.lockFailed_eq {again : Bool} (ht : j.target = .lock again) :
    s.provisioningEnd false j =
      { s with
        index :=
          { s.index with
            counters := { s.index.counters with provisioningFailures := bump s.index.counters.provisioningFailures } }
        array := { s.array with provisioning := s.array.provisioning.set j.slot { p with lock := .doubtful } }
        store := { s.store with running := none, job := if again then none else some { j with target := .lock true } }
        management :=
          if again then { s.management with replies := s.management.replies ++ [[0x19, j.tag, 4]], reserved := false }
          else s.management } := by
  let counted := (s.onStore fun x => { x with running := none }).countHistory fun c =>
    { c with provisioningFailures := bump c.provisioningFailures }
  simp only [State.provisioningEnd, State.provisioningFailed, ht, Bool.false_eq_true, if_false]
  rw [State.onProvisioningSlot_eq (s := counted) h fun p => { p with lock := .doubtful }]
  cases again with
  | true => simp only [State.endJob, ht]; rfl
  | false => rfl
end

/-- Settles O49: the start, and the two ends of each target, each as one equation on the state. -/
theorem provisioningProgramsRun : Obligations.ProvisioningProgramsRun := by
  refine ⟨fun s j hp hr he hj => ?start, fun s j p hp hr hj h =>
    ⟨fun n b ht => ⟨?copyPassed, ?copyFailed⟩, fun again ht => ⟨?lockPassed, ?lockFailed⟩⟩⟩
  case start =>
    have free : s.controllerFree = true := by
      unfold State.controllerFree
      cases hx : s.store.erase with
      | none => simp [hr]
      | some x => simp [hr, he x hx]
    have ready : (s.controllerFree && s.provisioningWaiting) = true := by simp [free, State.provisioningWaiting, hj, hr]
    refine ⟨_, State.occur_of_ready hp ready, (OnlyChanges.onStore s _).settled (by simp), ?_⟩
    have stays (waiting : Bool) : (s.store.erase.map fun e => e.askedToStop waiting) = s.store.erase := by
      cases hx : s.store.erase with
      | none => rfl
      | some x => simp [Erase.askedToStop, he x hx]
    simp only [State.settle_store, State.onStore_store, stays]
  case copyPassed =>
    refine ⟨_, exec_provisioningProgramEnd hp hr hj true, ?_⟩
    rw [State.copyPassed_eq h ht]
    refine ⟨(OnlyChanges.programmed s _ _ _ _ _).settled (by simp), ⟨rfl, rfl⟩, rfl, rfl, fun k hk => List.getElem?_set_ne hk.symm,
      fun hn last within => ?window, rfl⟩
    have content := ProvisioningSlot.content_of_last (p := { p with copies := p.copies.set n (.committed b) })
      (List.getElem?_set_self hn) fun m x hm => (List.getElem?_set_ne (Nat.ne_of_lt hm)).symm ▸ last m x hm
    simp [within, ProvisioningSlot.window, content]
  case copyFailed =>
    refine ⟨_, exec_provisioningProgramEnd hp hr hj false, ?_⟩
    rw [State.copyFailed_eq h ht]
    refine ⟨(OnlyChanges.programmedOnly s _ _ _ _).settled (by simp), ⟨rfl, fun m hm => ?_, fun hm => ?_⟩, rfl⟩
    · simp [hm]
    · simp [hm]
  case lockPassed =>
    refine ⟨_, exec_provisioningProgramEnd hp hr hj true, ?_⟩
    rw [State.lockPassed_eq h ht]
    exact ⟨(OnlyChanges.programmedOnly s _ _ _ _).settled (by simp), ⟨rfl, rfl⟩, rfl, rfl⟩
  case lockFailed =>
    refine ⟨_, exec_provisioningProgramEnd hp hr hj false, ?_⟩
    rw [State.lockFailed_eq h ht]
    refine ⟨(OnlyChanges.programmedOnly s _ _ _ _).settled (by simp), rfl, ?_, ?_, rfl⟩ <;> rintro rfl <;> exact ⟨rfl, rfl⟩

end Sys2Proof.Machine
end

section
/-!
PROOFS. What the reassembly unit reads: the window of a stream (R23 to R25), the order of revisions (R72), the fields of a fragment (R43, R46); and
the fragments it only counts or forwards (R26, R27, R42, R47).
-/

namespace Sys2Proof.Machine

/-! ## The window of a stream (R23 to R25) -/

/-- A window claims a stream (R23). -/
def Window.Claims (x : Window) (stream : Half) : Prop := x.valid = true ∧ stream &&& x.mask = x.base &&& x.mask

theorem Window.claims_iff {x : Window} {stream : Half} : (x.valid && x.matches stream) = true ↔ x.Claims stream := by
  simp [Window.Claims, Window.matches]

/-- The first of a list of windows, numbered from 0 under a name, that claims a stream. -/
def firstClaiming (name : Nat → WindowName) (stream : Half) (l : List Window) : Option (WindowName × Window) :=
  (l.zipIdx.map fun e => (name e.2, e.1)).find? fun e => e.2.valid && e.2.matches stream

theorem firstClaiming_eq_some_iff {name : Nat → WindowName} {stream : Half} {l : List Window} {b : WindowName} {x : Window} :
    firstClaiming name stream l = some (b, x) ↔
      x.Claims stream ∧ ∃ n, b = name n ∧ l[n]? = some x ∧ ∀ k y, k < n → l[k]? = some y → ¬ y.Claims stream := by
  simp only [firstClaiming, List.find?_eq_some_iff_getElem, Bool.not_eq_true', ← Bool.not_eq_true, Window.claims_iff]
  refine and_congr_right fun _ => exists_congr fun n => ?_
  simp only [List.length_map, List.length_zipIdx, List.getElem_map, List.getElem_zipIdx, Nat.zero_add, Prod.mk.injEq]
  constructor
  · rintro ⟨hn, ⟨rfl, rfl⟩, before⟩
    refine ⟨rfl, List.getElem?_eq_getElem hn, fun k y hk hy => ?_⟩
    obtain ⟨_, rfl⟩ := List.getElem?_eq_some_iff.mp hy
    exact before k hk
  · rintro ⟨rfl, hx, before⟩
    obtain ⟨hn, rfl⟩ := List.getElem?_eq_some_iff.mp hx
    exact ⟨hn, ⟨rfl, rfl⟩, fun k hk => before k _ hk (List.getElem?_eq_getElem (hk.trans hn))⟩

theorem firstClaiming_eq_none_iff {name : Nat → WindowName} {stream : Half} {l : List Window} :
    firstClaiming name stream l = none ↔ ∀ x ∈ l, ¬ x.Claims stream := by
  have values : (l.zipIdx.map fun e => (name e.2, e.1)).map Prod.snd = l := by
    rw [List.map_map]
    exact List.zipIdx_map_fst 0 l
  conv_rhs => rw [← values]
  simp only [firstClaiming, List.find?_eq_none, List.forall_mem_map, Window.claims_iff]

section
variable (ws : Windows) (stream : Half)

theorem Windows.classify_eq_none_iff : ws.classify stream = none ↔ ∀ x ∈ ws.override ++ ws.ordinary, ¬ x.Claims stream := by
  simp only [Windows.classify_eq_find, List.find?_eq_none, Window.claims_iff]

theorem Windows.classify_eq_some_iff (x : Window) :
    ws.classify stream = some x ↔
      x.Claims stream ∧ ∃ before after, ws.override ++ ws.ordinary = before ++ x :: after ∧ ∀ y ∈ before, ¬ y.Claims stream := by
  simp only [Windows.classify_eq_find, List.find?_eq_some_iff_append, Bool.not_eq_true', ← Bool.not_eq_true, Window.claims_iff]

/-- The override windows are asked before the ordinary ones (R24). -/
theorem Windows.answer_eq :
    ws.answer stream = (firstClaiming .override stream ws.override).or (firstClaiming .ordinary stream ws.ordinary) :=
  List.find?_append

theorem Windows.answer_eq_override_iff (n : Nat) (x : Window) :
    ws.answer stream = some (.override n, x) ↔
      x.Claims stream ∧ ws.override[n]? = some x ∧ ∀ k y, k < n → ws.override[k]? = some y → ¬ y.Claims stream := by
  simp [Windows.answer_eq, Option.or_eq_some_iff, firstClaiming_eq_some_iff]

theorem Windows.answer_eq_ordinary_iff (n : Nat) (x : Window) :
    ws.answer stream = some (.ordinary n, x) ↔
      x.Claims stream ∧ ws.ordinary[n]? = some x ∧ (∀ y ∈ ws.override, ¬ y.Claims stream) ∧
        ∀ k y, k < n → ws.ordinary[k]? = some y → ¬ y.Claims stream := by
  simp only [Windows.answer_eq, Option.or_eq_some_iff, firstClaiming_eq_some_iff, firstClaiming_eq_none_iff]
  simp
  tauto
end

/-! ## Revisions (R72) -/

theorem newerRevision_iff (r r0 : BitVec 4) :
    newerRevision r r0 = true ↔ 1 ≤ (r.toNat + 16 - r0.toNat) % 16 ∧ (r.toNat + 16 - r0.toNat) % 16 ≤ 7 := by
  have ahead : (r - r0).toNat = (r.toNat + 16 - r0.toNat) % 16 := by
    have := r0.isLt
    rw [BitVec.toNat_sub]
    omega
  simp only [newerRevision, Bool.and_eq_true, decide_eq_true_eq, ahead]

/-! ## The fields of a payload (section 1.9) -/

section
variable (p : List Byte) (i : Nat)

theorem numberAt_one : numberAt p i 1 = (byteAt p i).toNat := by simp [numberAt, byteAt]

theorem numberAt_two : numberAt p i 2 = (halfAt p i).toNat := by
  refine Eq.trans ?_ (toNat_append_eq (byteAt p i) (byteAt p (i + 1))).symm
  simp [numberAt, byteAt]

theorem numberAt_four : numberAt p i 4 = (wordAt p i).toNat := by
  simp only [wordAt, word, numberAt, byteAt, toNat_append_eq, Nat.add_zero]
  omega

theorem signedAt_eq : signedAt p i = coordinateAt p i := by
  rw [signedAt, numberAt_four, coordinateAt, BitVec.toInt_eq_toNat_cond]
  split_ifs <;> omega
end

/-! ## Fragments (R43, R46) -/

section
variable (p : List Byte)

theorem fragmentReach_toNat : (fragmentReach p).toNat = numberAt p 8 2 / 4 % 4 := by
  rw [numberAt_two]
  simp [fragmentReach, BitVec.extractLsb'_toNat, Nat.shiftRight_eq_div_pow]

theorem fragmentWithdraw_iff : fragmentWithdraw p = true ↔ numberAt p 8 2 / 2 % 2 = 1 := by
  rw [numberAt_two]
  simp [fragmentWithdraw, BitVec.getLsbD, Nat.testBit_eq_decide_div_mod_eq]

theorem fragmentArea_iff : fragmentArea p = true ↔ numberAt p 8 2 % 2 = 1 := by
  rw [numberAt_two]
  simp [fragmentArea, BitVec.getLsbD, Nat.testBit_eq_decide_div_mod_eq]

theorem fragmentIndex_eq : fragmentIndex p = numberAt p 11 1 / 16 := by
  have := (byteAt p 11).isLt
  rw [numberAt_one]
  simp [fragmentIndex, BitVec.extractLsb'_toNat, Nat.shiftRight_eq_div_pow]
  omega

theorem fragmentTotal_eq : fragmentTotal p = numberAt p 11 1 % 16 := by
  rw [numberAt_one]
  simp [fragmentTotal, BitVec.extractLsb'_toNat]

theorem fragmentTextLength_eq : fragmentTextLength p = numberAt p 17 1 := (numberAt_one p 17).symm

theorem fragmentVertexCount_eq : fragmentVertexCount p = numberAt p (18 + numberAt p 17 1) 1 := by
  rw [fragmentVertexCount, fragmentTextLength_eq, ← numberAt_one]

theorem fragmentVertices_eq :
    fragmentVertices p =
      (List.range (numberAt p (18 + numberAt p 17 1) 1)).map fun i =>
        ⟨signedAt p (19 + numberAt p 17 1 + 8 * i), signedAt p (19 + numberAt p 17 1 + 8 * i + 4)⟩ := by
  simp only [fragmentVertices, fragmentVertexCount_eq, fragmentTextLength_eq, signedAt_eq]

theorem coordinatesInRange_eq_false_iff {lat lon : Int} :
    coordinatesInRange lat lon = false ↔ lat < -90000000 ∨ 90000000 < lat ∨ lon < -180000000 ∨ 180000000 < lon := by
  simp only [coordinatesInRange, Bool.and_eq_false_iff, decide_eq_false_iff_not, not_le, or_assoc]

/-- The high nibble of the revision's byte must be 0 (R43). -/
theorem high_nibble_ne_zero : ¬ (byteAt p 10).extractLsb' 4 4 = 0#4 ↔ 16 ≤ numberAt p 10 1 := by
  rw [numberAt_one]
  exact (not_congr high_nibble_eq_zero).trans (by omega)

/-- The grounds on which a payload is malformed (R43). -/
theorem fragmentMalformed_iff :
    fragmentMalformed p = true ↔
      p.length < 18 ∨ numberAt p 8 2 / 4 % 4 = 3 ∨ 16 ≤ numberAt p 10 1 ∨ fragmentIndex p = 0 ∨ fragmentTotal p = 0 ∨
        fragmentTotal p < fragmentIndex p ∨ 96 < fragmentTextLength p ∨
        (¬ fragmentArea p = true ∧ p.length ≠ 18 + fragmentTextLength p) ∨
        (fragmentArea p = true ∧
          (p.length < 19 + fragmentTextLength p ∨ fragmentVertexCount p < 3 ∨ 12 < fragmentVertexCount p ∨
            p.length ≠ 19 + fragmentTextLength p + 8 * fragmentVertexCount p ∨ fragmentIndex p ≠ fragmentTotal p ∨
            ∃ v ∈ fragmentVertices p, v.lat < -90000000 ∨ 90000000 < v.lat ∨ v.lon < -180000000 ∨ 180000000 < v.lon)) ∨
        (fragmentWithdraw p = true ∧ (fragmentTotal p ≠ 1 ∨ fragmentArea p = true)) := by
  have reach : fragmentReach p = 3 ↔ numberAt p 8 2 / 4 % 4 = 3 := by
    rw [← BitVec.toNat_inj, fragmentReach_toNat]
    rfl
  rw [← reach, ← high_nibble_ne_zero]
  simp only [← coordinatesInRange_eq_false_iff, fragmentMalformed]
  cases fragmentArea p <;> cases fragmentWithdraw p <;> simp [or_assoc]

theorem readFragment_eq_none_iff : readFragment p = none ↔ fragmentMalformed p = true := by
  unfold readFragment
  split <;> simp_all

/-- The fields of a payload, read as those of a fragment (R46). -/
def fragmentOf : Fragment :=
  { key := { stream := halfAt p 6, issue := (halfAt p 8).extractLsb' 4 12, language := halfAt p 12, scope := fragmentScope p },
    zone := halfAt p 0, cell := wordAt p 2, withdraw := fragmentWithdraw p, revision := (byteAt p 10).extractLsb' 0 4,
    index := fragmentIndex p, total := fragmentTotal p, digest := halfAt p 14, lifetimeCode := byteAt p 16,
    text := (p.drop 18).take (fragmentTextLength p),
    trailer := if fragmentArea p then some (fragmentVertices p) else none }

theorem readFragment_eq_some_iff {f : Fragment} : readFragment p = some f ↔ ¬ fragmentMalformed p = true ∧ f = fragmentOf p := by
  unfold readFragment
  split
  · next bad => simp [bad]
  · next good => exact ⟨fun h => ⟨good, (Option.some.inj h).symm⟩, fun h => h.2 ▸ rfl⟩

theorem fragmentScope_eq (n : Nat) (h : numberAt p 8 2 / 4 % 4 = n) :
    (n = 0 → fragmentScope p = .cell (halfAt p 0) (wordAt p 2)) ∧ (n = 1 → fragmentScope p = .zone (halfAt p 0)) ∧
      (n = 2 → fragmentScope p = .nation) := by
  rw [← fragmentReach_toNat] at h
  have code (r : BitVec 2) : fragmentReach p = r ↔ n = r.toNat := by rw [← BitVec.toNat_inj, h]
  unfold fragmentScope
  simp only [code]
  refine ⟨?_, ?_, ?_⟩ <;> rintro rfl <;> rfl

/-- The fields of a well-formed fragment are those of its layout (R46, section 1.9). -/
theorem fragmentOf_fields (h : ¬ fragmentMalformed p = true) :
    let f := fragmentOf p
    f.zone.toNat = numberAt p 0 2 ∧ f.cell.toNat = numberAt p 2 4 ∧ f.key.stream.toNat = numberAt p 6 2 ∧
      f.key.issue.toNat = numberAt p 8 2 / 16 ∧ f.key.language.toNat = numberAt p 12 2 ∧ f.revision.toNat = numberAt p 10 1 ∧
      f.digest.toNat = numberAt p 14 2 ∧ f.lifetimeCode.toNat = numberAt p 16 1 := by
  have revision : ¬ 16 ≤ numberAt p 10 1 := fun high => h ((fragmentMalformed_iff p).mpr (by tauto))
  have := (halfAt p 8).isLt
  simp only [numberAt_one, numberAt_two, numberAt_four] at *
  refine ⟨rfl, rfl, rfl, ?_, rfl, ?_, rfl, rfl⟩ <;>
    simp [fragmentOf, BitVec.extractLsb'_toNat, Nat.shiftRight_eq_div_pow] <;> omega
end

/-! ## The fragments only counted or forwarded (R26, R27, R42, R47) -/

section
variable {s : State} {p : List Byte} {rest : List (List Byte)}

@[simp] theorem State.popFragment_link : s.popFragment.link = s.link := rfl

/-- A fragment taken from the head of the queue, with no completion to settle (R42). -/
theorem exec_takeFragment (hp : s.powered = true) (hs : s.scanning = false) (hc : s.intake.completing = none)
    (hq : s.intake.queue = p :: rest) (interrupted : Bool) :
    exec (.takeFragment interrupted) s = .next (s.takeOldest interrupted p).settle := by
  have he : exec (.takeFragment interrupted) s = s.occur (!s.scanning) (State.takeOldest interrupted p) := by
    simp [exec, execTakeFragment, hc, hq]
  rw [he, State.occur_of_ready hp (by simp [hs])]

/-- A fragment that brings no completion comes to the same end whether it is interrupted or not. -/
theorem State.takeOldest_of_uncompleted {interrupted : Bool} (h : (s.popFragment.takePayload p).intake.completing = none) :
    s.takeOldest interrupted p = s.popFragment.takePayload p := by
  cases interrupted with
  | true => rfl
  | false => simp [State.takeOldest, State.finishCompletion, h]

/-- A fragment that is only counted (R26, R43, R47). -/
theorem exec_takeFragment_counted (hp : s.powered = true) (hs : s.scanning = false) (hc : s.intake.completing = none)
    (hq : s.intake.queue = p :: rest) (interrupted : Bool) (count : IntakeCounters → IntakeCounters)
    (ht : s.popFragment.takePayload p = s.popFragment.countIntake count) :
    ∃ t, exec (.takeFragment interrupted) s = .next t ∧ OnlyChanges [.intake, .outputs] s t ∧
      t.intake =
        { s.intake with
          queue := rest, counters := count { s.intake.counters with taken := bump s.intake.counters.taken } } := by
  have left : s.intake.queue.drop 1 = rest := by rw [hq]; rfl
  refine ⟨_, exec_takeFragment hp hs hc hq interrupted, ?_⟩
  rw [State.takeOldest_of_uncompleted (ht ▸ hc), ht]
  exact ⟨((OnlyChanges.onIntake s _).andThen (.onIntake _ _) (by simp) (by simp)).settled (by simp), left ▸ rfl⟩

theorem State.takePayload_malformed (h : readFragment p = none) :
    s.takePayload p = s.countIntake fun x => { x with malformed := bump x.malformed } := by
  unfold State.takePayload
  rw [h]

theorem State.takePayload_unlisted {f : Fragment} (hf : readFragment p = some f) (hw : s.windows.classify f.key.stream = none) :
    s.takePayload p = s.takeUnlisted p := by
  unfold State.takePayload
  rw [hf]
  dsimp only
  rw [hw]

/-- A notice on a listed stream (R45, R47). -/
theorem State.takePayload_notice {f : Fragment} {w : Window} (hf : readFragment p = some f)
    (hw : s.windows.classify f.key.stream = some w) (hn : f.withdraw = false) :
    s.takePayload p = s.takeNoticeFragment f w := by
  unfold State.takePayload
  rw [hf]
  dsimp only
  rw [hw]
  exact if_neg (by simp [hn])

theorem Index.resolveNotice_of_not_newer {x : Index} {k : Key} {r : BitVec 4} {e : Entry} (he : x.find k = some e)
    (hr : newerRevision r e.fields.revision = false) : x.resolveNotice k r = .duplicate := by
  simp [Index.resolveNotice, he, hr]

theorem State.takeNoticeFragment_duplicate {f : Fragment} (w : Window) (h : s.index.resolveNotice f.key f.revision = .duplicate) :
    s.takeNoticeFragment f w = s.countIntake fun x => { x with earlyDuplicates := bump x.earlyDuplicates } := by
  unfold State.takeNoticeFragment
  rw [h]

/-- An unlisted fragment under FORWARD: raw-forwarded where the buffer has room, and dropped where it has not (R27). -/
theorem State.takeUnlisted_forward (h : s.settings.unlistedAction = .forward) :
    s.takeUnlisted p =
      if framesSize s.link.toP + (p.length + 6) ≤ 4096 then
        (s.onLink fun l => { l with toP := l.toP ++ [⟨0xB0, p⟩] }).countIntake fun x =>
          { x with rawForwarded := bump x.rawForwarded }
      else s.countIntake fun x => { x with unlistedDropped := bump x.unlistedDropped } := by
  have room : s.link.roomToP ⟨fragmentChannel, p⟩ = decide (framesSize s.link.toP + (p.length + 6) ≤ 4096) := rfl
  unfold State.takeUnlisted
  rw [h]
  simp only [room, decide_eq_true_eq]
  rfl

theorem OnlyChanges.takeUnlisted (s : State) (p : List Byte) : OnlyChanges [.intake, .forward] s (s.takeUnlisted p) := by
  have counted (f : IntakeCounters → IntakeCounters) (u : State) : OnlyChanges [.intake, .forward] u (u.countIntake f) :=
    (OnlyChanges.onIntake u _).mono (by simp)
  unfold State.takeUnlisted
  split
  · exact counted _ s
  · split
    · exact ((OnlyChanges.onForward s rfl).mono (by simp)).trans (counted _ _)
    · exact counted _ s

theorem State.takeUnlisted_discard (h : s.settings.unlistedAction = .discard) :
    s.takeUnlisted p = s.countIntake fun x => { x with unlisted := bump x.unlisted } := by
  unfold State.takeUnlisted
  rw [h]
end

/-- Settles O16: the parts above, put together. -/
theorem takeFragmentDiscards : Obligations.TakeFragmentDiscards := by
  refine ⟨fun ws stream => ⟨ws.classify_eq_none_iff stream, ws.classify_eq_some_iff stream, rfl, ws.answer_eq_override_iff stream,
    ws.answer_eq_ordinary_iff stream⟩, newerRevision_iff, fun p => ⟨?malformed, fun f hf => ?fields⟩,
    fun s interrupted p rest hp hs hc hq => ⟨fun hf => ?counted, fun f hf hw ha => ?discarded, fun f hf hw ha => ?forwarded,
      fun f w e hf hw hn he hr => ?duplicate⟩⟩
  case malformed =>
    rw [readFragment_eq_none_iff, fragmentMalformed_iff, fragmentVertices_eq]
    simp only [fragmentWithdraw_iff, fragmentArea_iff, fragmentIndex_eq, fragmentTotal_eq, fragmentTextLength_eq,
      fragmentVertexCount_eq, List.mem_map, List.mem_range, exists_exists_and_eq_and]
  case fields =>
    obtain ⟨good, rfl⟩ := (readFragment_eq_some_iff p).mp hf
    obtain ⟨zone, cell, stream, issue, language, revision, digest, lifetime⟩ := fragmentOf_fields p good
    obtain ⟨toCell, toZone, toNation⟩ := fragmentScope_eq p _ rfl
    refine ⟨zone, cell, stream, issue, language, toCell, toZone, toNation, fragmentWithdraw_iff p, revision, fragmentIndex_eq p,
      fragmentTotal_eq p, digest, lifetime, ?_, fun none => ?_, fun area => ?_⟩
    · rw [← fragmentTextLength_eq]
      rfl
    · exact if_neg (mt (fragmentArea_iff p).mp none)
    · rw [← fragmentVertices_eq]
      exact if_pos ((fragmentArea_iff p).mpr area)
  case counted => exact exec_takeFragment_counted hp hs hc hq interrupted _ (State.takePayload_malformed hf)
  case discarded =>
    refine exec_takeFragment_counted hp hs hc hq interrupted (fun x => { x with unlisted := bump x.unlisted }) ?_
    rw [State.takePayload_unlisted (s := s.popFragment) hf hw]
    exact State.takeUnlisted_discard ha
  case forwarded =>
    have left : s.intake.queue.drop 1 = rest := by rw [hq]; rfl
    have taken := (State.takePayload_unlisted (s := s.popFragment) hf hw).trans (State.takeUnlisted_forward (s := s.popFragment) ha)
    have uncompleted : (s.popFragment.takePayload p).intake.completing = none := by
      rw [taken]
      split <;> exact hc
    have frame : OnlyChanges [.intake, .forward, .outputs] s (s.popFragment.takeUnlisted p) :=
      (OnlyChanges.onIntake s _).andThen (.takeUnlisted _ p) (by simp) (by simp)
    refine ⟨_, exec_takeFragment hp hs hc hq interrupted, ?_⟩
    rw [State.popFragment_link] at taken
    rw [State.takeUnlisted_forward (s := s.popFragment) ha, State.popFragment_link] at frame
    rw [State.takeOldest_of_uncompleted uncompleted, taken]
    refine ⟨frame.settled (by simp), ?_, fun room => ?_, fun full => ?_⟩
    · split <;> rfl
    · rw [if_pos room]
      exact ⟨rfl, left ▸ rfl⟩
    · rw [if_neg (Nat.not_le.mpr full)]
      exact ⟨rfl, left ▸ rfl⟩
  case duplicate =>
    refine exec_takeFragment_counted hp hs hc hq interrupted (fun x => { x with earlyDuplicates := bump x.earlyDuplicates }) ?_
    rw [State.takePayload_notice (s := s.popFragment) hf hw hn]
    exact State.takeNoticeFragment_duplicate w (Index.resolveNotice_of_not_newer he hr)

end Sys2Proof.Machine
end

section
/-!
PROOFS. The end of the scan (R189): the slots read, the latest slot of each key, and the reclaim that may start (R180), with the offers it makes
to the pending write list (R176).
-/

namespace Sys2Proof.Machine

/-! ## Offers to the pending write list (R176) -/

/-- Of some keys, those an offer brings to the list: none in RAM-ONLY, and otherwise those not on it. -/
def Store.newKeys (x : Store) (ks : List Key) : List Key := if x.ramOnly then [] else ks.filter fun k => !x.writes.contains k

/-- The state after different keys have been offered: as many as there are places join the list, and the others are counted. -/
def State.afterOffers (s : State) (new : List Key) : State :=
  { s with
    store := { s.store with writes := s.store.writes ++ new.take (16 - s.store.writes.length) }
    index :=
      { s.index with
        counters :=
          { s.index.counters with
            writeDeferrals := bumpBy (new.length - (16 - s.store.writes.length)) s.index.counters.writeDeferrals } } }

theorem State.afterOffers_nil (s : State) : s.afterOffers [] = s := by simp [State.afterOffers]

theorem State.afterOffers_cons_of_room {s : State} {k : Key} (h : s.store.writes.length < 16) (new : List Key) :
    (s.onStore fun x => { x with writes := x.writes ++ [k] }).afterOffers new = s.afterOffers (k :: new) := by
  have places : 16 - s.store.writes.length = 16 - (s.store.writes.length + 1) + 1 := by omega
  simp [State.afterOffers, State.onStore, places]

theorem State.afterOffers_cons_of_full {s : State} {k : Key} (h : 16 ≤ s.store.writes.length) (new : List Key) :
    (s.countHistory fun c => { c with writeDeferrals := bump c.writeDeferrals }).afterOffers new = s.afterOffers (k :: new) := by
  have places : 16 - s.store.writes.length = 0 := by omega
  simp [State.afterOffers, State.countHistory, State.onIndex, places, bumpBy_succ]

/-- All that an offer of different keys does. -/
theorem State.offerAll_eq {ks : List Key} (h : ks.Nodup) (s : State) : s.offerAll ks = s.afterOffers (s.store.newKeys ks) := by
  induction ks generalizing s with
  | nil => simp [State.offerAll, Store.newKeys, State.afterOffers_nil]
  | cons k ks ih =>
    obtain ⟨hk, hn⟩ := List.nodup_cons.mp h
    have step : s.offerAll (k :: ks) = (s.offer k).offerAll ks := rfl
    rw [step]
    by_cases ram : s.store.ramOnly = true
    case pos =>
      have same : s.offer k = s := by simp [State.offer, ram]
      simp [same, ih hn, Store.newKeys, ram]
    case neg =>
      by_cases on : k ∈ s.store.writes
      case pos =>
        have same : s.offer k = s := by simp [State.offer, on]
        simp [same, ih hn, Store.newKeys, on]
      case neg =>
        have first : s.store.newKeys (k :: ks) = k :: s.store.newKeys ks := by simp [Store.newKeys, ram, on]
        rw [first]
        rcases s.offer_cases k with ⟨idle, _⟩ | ⟨_, room, joined⟩ | ⟨full, counted⟩
        · exact absurd idle (not_or_intro ram on)
        · have rest : Store.newKeys { s.store with writes := s.store.writes ++ [k] } ks = s.store.newKeys ks := by
            simp only [Store.newKeys, ram]
            refine List.filter_congr fun x hx => ?_
            have : x ≠ k := fun e => hk (e ▸ hx)
            simp [this]
          rw [joined, ih hn, State.onStore_store, rest, State.afterOffers_cons_of_room room]
        · rw [counted, ih hn, ← State.afterOffers_cons_of_full full]
          rfl

/-- Different keys offered, as the statements say it. -/
theorem KeysOffered.of_offers {s u t : State} {ks : List Key} (ram : u.store.ramOnly = s.store.ramOnly)
    (deferrals : u.index.counters.writeDeferrals = s.index.counters.writeDeferrals)
    (writes : t.store.writes = (u.afterOffers (u.store.newKeys ks)).store.writes)
    (counted : t.index.counters.writeDeferrals = (u.afterOffers (u.store.newKeys ks)).index.counters.writeDeferrals) :
    KeysOffered s t u.store.writes ks := by
  unfold KeysOffered
  rw [writes, counted, ← ram, ← deferrals]
  exact ⟨rfl, rfl⟩

/-! ## Sectors by sequence (R171) -/

section
variable {α : Type} {before : α → α → Bool}

/-- A list in which each element comes before the later ones, and not after them, is the order of its elements. -/
theorem arrange_eq_of_pairwise [DecidableEq α] {l ks : List α} (hl : l.Nodup) (perm : ks.Perm l)
    (sorted : ks.Pairwise fun i j => before i j = true ∧ before j i = false) : arrange before l = ks := by
  induction ks using List.reverseRecOn generalizing l with
  | nil => rw [perm.symm.eq_nil]; rfl
  | append_singleton ks k ih =>
    obtain ⟨sorted, -, last⟩ := List.pairwise_append.mp sorted
    have hk : k ∈ l := perm.mem_iff.mp (by simp)
    have rest : ks.Perm (l.erase k) :=
      (((List.perm_append_singleton k ks).symm.trans perm).trans (List.perm_cons_erase hk)).cons_inv
    rw [arrange_of_last hk hl fun j hj ne => ?_, ih (hl.erase k) rest sorted]
    have : j ∈ ks := rest.mem_iff.mpr ((List.mem_erase_of_ne ne).mpr hj)
    exact last j this k (by simp)

/-- An element that comes before every other one heads the order, however the others compare. -/
theorem head?_arrange_of_first {l : List α} {k : α} (hk : k ∈ l) (h : ∀ j ∈ l, j ≠ k → before k j = true ∧ before j k = false) :
    (arrange before l).head? = some k := by
  induction l with
  | nil => cases hk
  | cons x xs ih =>
    have member {y : α} {ys : List α} (ha : arrange before xs = y :: ys) : y ∈ xs :=
      (arrange_perm before xs).mem_iff.mp (ha ▸ List.mem_cons_self)
    rw [arrange]
    by_cases hx : x = k
    · subst hx
      cases ha : arrange before xs with
      | nil => rfl
      | cons y ys =>
        by_cases hy : y = x
        · subst hy
          simp only [insertBefore]
          split <;> rfl
        · simp [insertBefore, (h y (List.mem_cons_of_mem x (member ha)) hy).2]
    · have first := ih ((List.mem_cons.mp hk).resolve_left (Ne.symm hx)) fun j hj => h j (List.mem_cons_of_mem x hj)
      obtain ⟨ys, ha⟩ := List.head?_eq_some_iff.mp first
      simp [ha, insertBefore, (h x List.mem_cons_self hx).1]
end

/-- The order of two sectors, where one is to come before the other (R171). -/
theorem State.olderSector_of_older {s : State} {i j : Nat}
    (h : newerSequence (s.sequenceOf j) (s.sequenceOf i) = true ∨
      (¬ newerSequence (s.sequenceOf i) (s.sequenceOf j) = true ∧ i < j)) :
    s.olderSector i j = true ∧ s.olderSector j i = false := by
  rcases h with newer | ⟨older, lower⟩
  · exact State.olderSector_of_newer newer
  · have := Nat.lt_asymm lower
    cases hn : newerSequence (s.sequenceOf j) (s.sequenceOf i) <;> simp_all [State.olderSector]

theorem newerSequence_iff {a b : Half} : newerSequence a b = true ↔ 1 ≤ (a - b).toNat ∧ (a - b).toNat ≤ 32767 := by
  simp [newerSequence, -BitVec.toNat_sub]

/-! ## The reclaim (R180) -/

/-- The oldest FULL sector is the target of a reclaim. -/
theorem State.reclaimTarget_of_oldest {s : State} {k : Nat} (h : s.IsOldestFull k) : s.reclaimTarget = some k := by
  have counts (j : Nat) : j ∈ s.usableSectors.filter s.treatedAsFull ↔ s.CountsAsFull j := by
    simp [State.treatedAsFull, State.CountsAsFull]
  obtain ⟨first, older⟩ := h
  refine head?_arrange_of_first ((counts k).mpr first) fun j hj ne => State.olderSector_of_newer ?_
  exact newerSequence_iff.mpr (older j ((counts j).mp hj) ne)

theorem State.reclaimDue_iff (s : State) :
    s.reclaimDue = true ↔
      (s.store.current = none ∨
        ∃ k, s.store.current = some k ∧ ((s.sector k).state = .full ∨ 56 ≤ (s.sector k).usedSlots)) ∧
      s.NoSpare ∧ s.store.reclaims = [] ∧ s.store.clear = none ∧ s.store.ramOnly = false ∧ s.scanning = false := by
  have spare : (s.sectorsIn .erased).isEmpty = true ↔ s.NoSpare := by
    simp [State.sectorsIn, State.NoSpare]
  rw [← spare]
  unfold State.reclaimDue
  cases s.store.current <;> simp [and_assoc, or_comm]

/-- All that the examination of the conditions of a reclaim can do. -/
theorem State.examineReclaim_cases (s : State) :
    (s.reclaimDue = true ∧ ∃ k, s.reclaimTarget = some k ∧ s.examineReclaim = s.startReclaim k) ∨ s.examineReclaim = s := by
  unfold State.examineReclaim
  cases s.reclaimDue <;> cases s.reclaimTarget <;> simp

/-- The entries after a reclaim of sector `k` has started: those that live in it are unpersisted, with no location. -/
def entriesReclaimed (k : Nat) (entries : List Entry) : List Entry :=
  entries.map fun e => if e.livesIn k then { e with persisted := false, location := none } else e

theorem entriesReclaimed_fields (k : Nat) (entries : List Entry) :
    (entriesReclaimed k entries).map Entry.fields = entries.map Entry.fields := by
  simp only [entriesReclaimed, List.map_map]
  refine List.map_congr_left fun e _ => ?_
  simp only [Function.comp]
  split <;> rfl

/-- All that the start of a reclaim does. -/
theorem State.startReclaim_eq {s : State} (hn : (s.index.entries.map fun e => e.fields.key).Nodup) (k : Nat) :
    let t := s.afterOffers (s.store.newKeys ((s.index.entries.filter (Entry.livesIn k)).map fun e => e.fields.key))
    s.startReclaim k =
      { t with
        index := { t.index with entries := entriesReclaimed k s.index.entries }
        store :=
          { t.store with
            amends := s.store.amends ++ [⟨k, .retiring, false⟩]
            erases := s.store.erases ++ [k]
            reclaims := s.store.reclaims ++ [k] } } := by
  have distinct : ((s.index.entries.filter (Entry.livesIn k)).map fun e => e.fields.key).Nodup :=
    hn.sublist (List.filter_sublist.map _)
  simp only [State.startReclaim]
  rw [State.offerAll_eq distinct]
  rfl

/-- The start of a reclaim, as the statements say it (R180). -/
theorem State.startReclaim_starts {s : State} (hn : (s.index.entries.map fun e => e.fields.key).Nodup) (hr : s.store.reclaims = [])
    (k : Nat) : ReclaimStarts s (s.startReclaim k) s.index.entries s.store.writes s.store.amends s.store.erases k := by
  rw [State.startReclaim_eq hn]
  refine ⟨rfl, KeysOffered.of_offers rfl rfl rfl rfl, rfl, rfl, ?_⟩
  rw [hr]
  rfl

/-- A reclaim that starts is seen on whatever agrees in the blocks it changes. -/
theorem ReclaimStarts.ofSame {s s' t t' : State} {entries : List Entry} {writes : List Key} {amends : List AmendRequest}
    {erases : List Nat} {k : Nat} (h : ReclaimStarts s t entries writes amends erases k) (ram : s'.store.ramOnly = s.store.ramOnly)
    (deferrals : s'.index.counters.writeDeferrals = s.index.counters.writeDeferrals) (index : t'.index = t.index)
    (written : t'.store.writes = t.store.writes)
    (queues : (t'.store.amends, t'.store.erases, t'.store.reclaims) = (t.store.amends, t.store.erases, t.store.reclaims)) :
    ReclaimStarts s' t' entries writes amends erases k := by
  simp only [Prod.mk.injEq] at queues
  obtain ⟨sameAmends, sameErases, sameReclaims⟩ := queues
  unfold ReclaimStarts KeysOffered at *
  rwa [ram, deferrals, index, written, sameAmends, sameErases, sameReclaims]

/-! ## The latest slot of each key (R189) -/

/-- Of some fields, for each key the last of it, in the order they stand in. -/
def latest : List EntryFields → List EntryFields
  | [] => []
  | f :: fs => if f.key ∈ fs.map EntryFields.key then latest fs else f :: latest fs

theorem latest_keys (l : List EntryFields) : (latest l).map EntryFields.key = (l.map EntryFields.key).dedup := by
  induction l with
  | nil => rfl
  | cons f fs ih =>
    rw [List.map_cons, List.dedup_cons, latest]
    split <;> simp [ih]

theorem latest_sublist (l : List EntryFields) : (latest l).Sublist l := by
  induction l with
  | nil => exact .slnil
  | cons f fs ih =>
    rw [latest]
    split
    · exact ih.cons f
    · exact ih.cons_cons f

theorem exists_mem_latest {l : List EntryFields} {f : EntryFields} (h : f ∈ l) : ∃ x ∈ latest l, x.key = f.key := by
  have : f.key ∈ (latest l).map EntryFields.key := by
    rw [latest_keys, List.mem_dedup]
    exact List.mem_map_of_mem h
  simpa using this

/-- After one of the latest there is no other of its key, and every key that follows has its latest later. -/
theorem latest_split {l as bs : List EntryFields} {e : EntryFields} (h : latest l = as ++ e :: bs) :
    ∃ before after, l = before ++ e :: after ∧ (∀ f ∈ after, f.key ≠ e.key) ∧ ∀ f ∈ after, ∃ x ∈ bs, x.key = f.key := by
  induction l generalizing as with
  | nil => simp [latest] at h
  | cons f fs ih =>
    rw [latest] at h
    split at h
    · obtain ⟨before, after, rfl, rest⟩ := ih h
      exact ⟨f :: before, after, rfl, rest⟩
    · next new =>
      cases as with
      | nil =>
        obtain ⟨rfl, rfl⟩ := List.cons.inj h
        exact ⟨[], fs, rfl, fun x hx same => new (same ▸ List.mem_map_of_mem hx), fun x hx => exists_mem_latest hx⟩
      | cons a as =>
        obtain ⟨before, after, rfl, rest⟩ := ih (List.cons.inj h).2
        exact ⟨f :: before, after, rfl, rest⟩

/-- The fields of a committed slot. -/
def Slot.fields? : Slot → Option EntryFields
  | .committed f => some f
  | _ => none

theorem adopt_fields (x : (Nat × Nat) × Slot) : (adopt x).map Entry.fields = x.2.fields? := by
  unfold adopt Slot.fields?
  cases x.2 <;> rfl

theorem adopt_eq_some_iff {x : (Nat × Nat) × Slot} {e : Entry} :
    adopt x = some e ↔ e.persisted = true ∧ ∃ l, e.location = some l ∧ x = (l, .committed e.fields) := by
  obtain ⟨l, slot⟩ := x
  obtain ⟨fields, persisted, location⟩ := e
  cases slot <;> simp [adopt]
  grind

/-- What adopting entries one after another leaves of those found before, and adds to them (R91). -/
theorem foldl_supersedeEntry_fields (l acc : List Entry) :
    (l.foldl supersedeEntry acc).map Entry.fields =
      ((acc.map Entry.fields).filter fun f => f.key ∉ (l.map Entry.fields).map EntryFields.key) ++ latest (l.map Entry.fields) := by
  induction l generalizing acc with
  | nil => simp [latest]
  | cons e l ih =>
    rw [List.foldl_cons, ih, supersedeEntry, List.map_append, List.filter_append, List.append_assoc]
    congr 1
    · simp only [List.filter_map, List.filter_filter]
      refine congrArg _ (List.filter_congr fun x _ => Bool.eq_iff_iff.mpr ?_)
      simp
      tauto
    · simp only [List.map_cons, latest, List.map_nil, List.filter_cons, List.filter_nil]
      by_cases h : e.fields.key ∈ (l.map Entry.fields).map EntryFields.key
      · simp only [h, not_true, decide_false, Bool.false_eq_true, if_true, if_false, List.nil_append]
      · simp only [h, not_false_iff, decide_true, if_true, if_false, List.singleton_append]

theorem mem_foldl_supersedeEntry {l acc : List Entry} {e : Entry} (h : e ∈ l.foldl supersedeEntry acc) : e ∈ acc ∨ e ∈ l := by
  induction l generalizing acc with
  | nil => exact .inl h
  | cons x l ih =>
    rcases ih h with h | h
    · rcases List.mem_append.mp h with h | h
      · exact .inl (List.mem_filter.mp h).1
      · exact .inr (List.mem_singleton.mp h ▸ List.mem_cons_self)
    · exact .inr (List.mem_cons_of_mem x h)

/-- The fields of the committed slots the scan reads, in reading order. -/
def State.committedRead (s : State) : List EntryFields := s.slotsRead.filterMap fun x => x.2.fields?

theorem State.entriesFound_fields (s : State) : s.entriesFound.map Entry.fields = latest s.committedRead := by
  have committed : (s.slotsRead.filterMap adopt).map Entry.fields = s.committedRead := by
    rw [List.map_filterMap]
    exact congrArg (List.filterMap · s.slotsRead) (funext adopt_fields)
  rw [State.entriesFound, foldl_supersedeEntry_fields, committed]
  rfl

/-- An entry is adopted as persisted, at the place of a committed slot that the scan read. -/
def State.Adopted (s : State) (e : Entry) : Prop :=
  e.persisted = true ∧ ∃ l, e.location = some l ∧ (l, .committed e.fields) ∈ s.slotsRead

theorem State.adopted_of_entriesFound {s : State} {e : Entry} (h : e ∈ s.entriesFound) : s.Adopted e := by
  have found := (mem_foldl_supersedeEntry h).resolve_left List.not_mem_nil
  obtain ⟨x, hx, ha⟩ := List.mem_filterMap.mp found
  obtain ⟨persisted, l, location, rfl⟩ := adopt_eq_some_iff.mp ha
  exact ⟨persisted, l, location, hx⟩

/-! ## The end of the scan (R189) -/

/-- The slots are read sector by sector, in the order of their sequences (R171, R189). -/
theorem State.slotsRead_of_sorted {s : State} {ks : List Nat} (hn : ks.Nodup)
    (hm : ∀ k, k ∈ ks ↔ k ∈ sectorNumbers ∧ ((s.sector k).state = .opened ∨ (s.sector k).state = .full))
    (sorted : ks.Pairwise fun i j => newerSequence (s.sequenceOf j) (s.sequenceOf i) = true ∨
      (¬ newerSequence (s.sequenceOf i) (s.sequenceOf j) = true ∧ i < j)) :
    s.slotsRead = ks.flatMap s.slotsOf := by
  have distinct : (sectorNumbers.filter fun k => (s.sector k).state == .opened || (s.sector k).state == .full).Nodup :=
    (by decide : sectorNumbers.Nodup).filter _
  have perm : ks.Perm (sectorNumbers.filter fun k => (s.sector k).state == .opened || (s.sector k).state == .full) :=
    (List.perm_ext_iff_of_nodup hn distinct).mpr fun k => by simp [hm]
  rw [State.slotsRead, State.sectorsToRead, State.bySequence,
    arrange_eq_of_pairwise distinct perm (sorted.imp fun h => State.olderSector_of_older h)]

/-- Which sectors are usable follows from the array and the sectors taken as WORN (R182). -/
theorem State.usableSectors_congr {s t : State} (ha : t.array = s.array) (ht : t.store.takenWorn = s.store.takenWorn) :
    t.usableSectors = s.usableSectors := by
  simp only [State.usableSectors, funext fun k => show t.usable k = s.usable k by simp only [State.usable, State.sector, ha, ht]]

/-- The state at the end of the scan, before the conditions of a reclaim are examined. -/
def State.scanRead (s : State) : State :=
  { s with
    scanning := false
    index :=
      { entries := s.entriesFound.drop (s.entriesFound.length - Config.indexCapacity)
        counters :=
          { s.index.counters with
            indexEvictions := bumpBy (s.entriesFound.length - Config.indexCapacity) s.index.counters.indexEvictions
            scanVoidSlots := bumpBy (s.slotsRead.countP fun x => x.2.isVoid) s.index.counters.scanVoidSlots } }
    store :=
      { s.store with
        writes := [], retry := none, failures := [0, 0, 0, 0]
        ramOnly := s.store.ramOnly || decide (s.usableSectors.length < 2) } }

theorem State.scanRead_entries (s : State) :
    s.scanRead.index.entries = s.entriesFound.drop (s.entriesFound.length - Config.indexCapacity) := by simp only [State.scanRead]

theorem State.scanRead_fields (s : State) :
    s.scanRead.index.entries.map Entry.fields = (latest s.committedRead).drop (s.entriesFound.length - Config.indexCapacity) := by
  rw [← State.entriesFound_fields, State.scanRead_entries, List.map_drop]

theorem State.endScan_eq (s : State) : s.endScan = s.scanRead.examineReclaim.loadOverrides := by
  let u := s.rebuildIndex.onStore fun x => { x with writes := [], retry := none, failures := [0, 0, 0, 0] }
  have scanned : { u.checkRamOnly with scanning := false } = s.scanRead := by
    have usable : u.usableSectors = s.usableSectors :=
      State.usableSectors_congr (by simp [u, State.rebuildIndex, State.countHistory])
        (by simp [u, State.rebuildIndex, State.countHistory])
    unfold State.checkRamOnly
    rw [usable]
    by_cases few : s.usableSectors.length < 2 <;>
      simp [few, u, State.scanRead, State.rebuildIndex, State.countHistory, State.onStore, State.onIndex]
  exact congrArg (fun x : State => x.examineReclaim.loadOverrides) scanned

theorem State.entriesFound_length (s : State) : s.entriesFound.length = (s.committedRead.map EntryFields.key).dedup.length := by
  rw [← latest_keys, ← State.entriesFound_fields]
  simp

theorem State.scanRead_adopted {s : State} {e : Entry} (h : e ∈ s.scanRead.index.entries) : s.Adopted e :=
  State.adopted_of_entriesFound (List.mem_of_mem_drop (s.scanRead_entries ▸ h))

theorem State.scanRead_nodup (s : State) : (s.scanRead.index.entries.map fun e => e.fields.key).Nodup := by
  have keys : (s.scanRead.index.entries.map fun e => e.fields.key) =
      (s.scanRead.index.entries.map Entry.fields).map EntryFields.key := by simp
  rw [keys, State.scanRead_fields, List.map_drop, latest_keys]
  exact (List.nodup_dedup _).sublist (List.drop_sublist _ _)

/-- What the scan has found stands, whether or not a reclaim starts. -/
theorem State.examineReclaim_keeps {s : State} (hn : (s.index.entries.map fun e => e.fields.key).Nodup) :
    s.examineReclaim.index.entries.map Entry.fields = s.index.entries.map Entry.fields ∧
      s.examineReclaim.index.counters.indexEvictions = s.index.counters.indexEvictions ∧
      s.examineReclaim.index.counters.scanVoidSlots = s.index.counters.scanVoidSlots ∧
      s.examineReclaim.store.retry = s.store.retry ∧ s.examineReclaim.store.failures = s.store.failures ∧
      s.examineReclaim.store.ramOnly = s.store.ramOnly ∧ s.examineReclaim.powered = s.powered ∧
      s.examineReclaim.scanning = s.scanning ∧ s.examineReclaim.windows = s.windows ∧ s.examineReclaim.array = s.array := by
  rcases s.examineReclaim_cases with ⟨_, k, _, h⟩ | h <;> rw [h]
  · rw [State.startReclaim_eq hn]
    exact ⟨entriesReclaimed_fields k _, rfl, rfl, rfl, rfl, rfl, rfl, rfl, rfl, rfl⟩
  · exact ⟨rfl, rfl, rfl, rfl, rfl, rfl, rfl, rfl, rfl, rfl⟩

theorem OnlyChanges.examineReclaim {s : State} (hn : (s.index.entries.map fun e => e.fields.key).Nodup) :
    OnlyChanges [.index, .store, .outputs] s s.examineReclaim := by
  rcases s.examineReclaim_cases with ⟨_, k, _, h⟩ | h <;> rw [h]
  · rw [State.startReclaim_eq hn]
    intro x hx
    cases x <;> simp_all [Piece.same, State.afterOffers]
  · exact .refl _ s

theorem OnlyChanges.endScan (s : State) : OnlyChanges [.supply, .windows, .index, .store, .outputs] s s.endScan := by
  have scanned : OnlyChanges [.supply, .windows, .index, .store, .outputs] s s.scanRead := by
    intro x hx
    cases x <;> simp_all [Piece.same, State.scanRead]
  rw [State.endScan_eq]
  exact (scanned.andThen (.examineReclaim s.scanRead_nodup) (fun _ => id) (by simp)).andThen (.onWindows _ _) (fun _ => id) (by simp)

/-- The conditions of a reclaim at the end of the scan, on the state the scan ends in. -/
theorem State.scanRead_reclaimDue_iff (s : State) :
    s.scanRead.reclaimDue = true ↔
      (s.store.current = none ∨
        ∃ k, s.store.current = some k ∧ ((s.sector k).state = .full ∨ 56 ≤ (s.sector k).usedSlots)) ∧
      s.NoSpare ∧ s.store.reclaims = [] ∧ s.store.clear = none ∧ s.endScan.store.ramOnly = false := by
  obtain ⟨-, -, -, -, -, ram, -⟩ := State.examineReclaim_keeps s.scanRead_nodup
  have loaded : s.endScan.store.ramOnly = s.scanRead.examineReclaim.store.ramOnly := by rw [State.endScan_eq]; rfl
  rw [State.reclaimDue_iff, loaded, ram]
  have ready : s.scanRead.scanning = false := rfl
  simp only [ready, and_true]
  exact Iff.rfl

/-- Settles O53: the reading order, the latest slot of each key (`latest`), and the reclaim that may start. -/
theorem scanEndRebuildsTheIndex : Obligations.ScanEndRebuildsTheIndex := by
  intro s hp hs committed
  have committed_eq : committed = s.committedRead := by
    refine List.filterMap_congr fun x _ => ?_
    cases x.2 <;> rfl
  obtain ⟨fields, evictions, voids, retry, failures, ram, powered, scanning, windows, array⟩ :=
    State.examineReclaim_keeps s.scanRead_nodup
  have due := s.scanRead_reclaimDue_iff
  have ended : exec .scanEnd s = .next s.endScan.settle := State.occur_of_ready hp hs
  have frame := (OnlyChanges.endScan s).settled (by simp)
  rw [State.endScan_eq] at due ended frame
  have found := fields.trans s.scanRead_fields
  have found_keys : (s.scanRead.examineReclaim.index.entries.map fun e => e.fields.key) =
      (s.committedRead.map EntryFields.key).dedup.drop (s.entriesFound.length - Config.indexCapacity) := by
    rw [← latest_keys, ← List.map_drop, ← found, List.map_map]
    rfl
  rw [committed_eq]
  refine ⟨fun ks hn hm sorted => ?order, _, ended, frame, powered.trans hp, scanning, ?ordinary, ?override, ?nodup, ?length, ?sublist,
    ?latest, fun few => ?ramOnly, ?evictions, voids, retry, failures, ?idle, ?begins⟩
  case order =>
    exact State.slotsRead_of_sorted hn hm (sorted.imp fun h => by simpa only [newerSequence_iff, State.sequenceOf] using h)
  case ordinary =>
    have kept : s.scanRead.examineReclaim.windows = s.windows := windows
    exact (congrArg Windows.ordinary kept :)
  case override =>
    have kept : s.scanRead.examineReclaim.array = s.array := array
    exact (congrArg (fun a : NvArray => a.provisioning.map ProvisioningSlot.window) kept :)
  case nodup =>
    refine (congrArg List.Nodup found_keys).mpr ((List.nodup_dedup _).sublist (List.drop_sublist _ _))
  case length =>
    have := congrArg List.length found_keys
    rw [List.length_map, List.length_drop, s.entriesFound_length] at this
    unfold Config.indexCapacity at this
    refine this.trans ?_
    omega
  case sublist =>
    exact found ▸ (List.drop_sublist _ _).trans (latest_sublist _)
  case latest =>
    intro e he
    have kept : e.fields ∈ (latest s.committedRead).drop (s.entriesFound.length - Config.indexCapacity) :=
      found ▸ List.mem_map_of_mem he
    obtain ⟨as, bs, split⟩ := List.append_of_mem kept
    have whole := (congrArg ((latest s.committedRead).take (s.entriesFound.length - Config.indexCapacity) ++ ·) split)
    rw [List.take_append_drop, ← List.append_assoc] at whole
    obtain ⟨before, after, h, last, later⟩ := latest_split whole
    refine ⟨before, after, h, last, fun f hf => ?_⟩
    obtain ⟨x, hx, key⟩ := later f hf
    have hx' : x ∈ s.scanRead.examineReclaim.index.entries.map Entry.fields := by
      rw [found, split]
      simp [hx]
    obtain ⟨y, hy, rfl⟩ := List.mem_map.mp hx'
    exact ⟨y, hy, key⟩
  case ramOnly =>
    refine ram.trans ?_
    simp [State.scanRead, few]
  case evictions =>
    rw [← s.entriesFound_length]
    exact evictions
  case idle =>
    intro idle
    have none : s.scanRead.examineReclaim = s.scanRead := if_neg fun h => idle (due.mp h)
    rw [none]
    exact ⟨fun e he => State.scanRead_adopted (s := s) he, rfl, rfl, rfl, rfl⟩
  case begins =>
    intro begins k oldest
    have hd := due.mpr begins
    have target : s.scanRead.reclaimTarget = some k := State.reclaimTarget_of_oldest oldest
    have started : s.scanRead.examineReclaim = s.scanRead.startReclaim k := by simp [State.examineReclaim, hd, target]
    obtain ⟨-, -, reclaims, -, notRamOnly⟩ := begins
    have ram : s.store.ramOnly = s.scanRead.store.ramOnly := by
      have off : s.scanRead.store.ramOnly = false := ((State.reclaimDue_iff _).mp hd).2.2.2.2.1
      rw [off]
      simp only [State.scanRead, Bool.or_eq_false_iff] at off
      exact off.1
    rw [started]
    exact ⟨s.scanRead.index.entries, fun e he => State.scanRead_adopted (s := s) he,
      (State.startReclaim_starts s.scanRead_nodup reclaims k).ofSame ram (by simp only [State.scanRead])
        (by simp [State.loadOverrides]) (by simp [State.loadOverrides]) (by simp [State.loadOverrides])⟩

end Sys2Proof.Machine
end

section
/-!
PROOFS. The end of listed records (R130, R131): what a completion leaves, and what a completion of every record of a key leaves, each as one
equation on the state; in an ordered record unit the records that leave are those of the key.
-/

namespace Sys2Proof.Machine

/-! ## Summaries joining one after another (R158, R159) -/

theorem Report.after_length (q : Report) (x : QueuedSummary) :
    (q.after x).queue.length = if 32 ≤ q.queue.length then q.queue.length else q.queue.length + 1 := by
  unfold Report.after
  dsimp only
  split
  · rfl
  · simp

/-- Summaries that there is room for join the queue in their order. -/
theorem Report.foldl_after_queue {xs : List QueuedSummary} {q : Report} (h : q.queue.length + xs.length ≤ 32) :
    (xs.foldl Report.after q).queue = q.queue ++ xs := by
  induction xs generalizing q with
  | nil => simp
  | cons x xs ih =>
    have room : ¬ 32 ≤ q.queue.length := by simp at h; omega
    have joined : (q.after x).queue = q.queue ++ [x] := by rw [Report.after, if_neg room]
    rw [List.foldl_cons, ih (by rw [joined]; simp at h ⊢; omega), joined]
    simp

/-- The summaries dropped of one and of those after it. -/
theorem bumpBy_dropped (q : Report) (x : QueuedSummary) (n : Nat) (c : Half) :
    bumpBy (n - (32 - (q.after x).queue.length)) (bumpBy (1 - (32 - q.queue.length)) c) =
      bumpBy (n + 1 - (32 - q.queue.length)) c := by
  rw [bumpBy_bumpBy, Report.after_length]
  congr 1
  split <;> omega

/-! ## Counters of completion codes (R137) -/

/-- The counter of a completion code after `n` completions. -/
def RecordCounters.countCodeBy (code : Code) (n : Nat) (c : RecordCounters) : RecordCounters :=
  match code with
  | .acknowledged => { c with acknowledged := bumpBy n c.acknowledged }
  | .expired => { c with expired := bumpBy n c.expired }
  | .superseded => { c with superseded := bumpBy n c.superseded }
  | .withdrawn => { c with withdrawn := bumpBy n c.withdrawn }
  | .outOfArea => { c with outOfArea := bumpBy n c.outOfArea }
  | .muted => { c with muted := bumpBy n c.muted }
  | .displaced => { c with displaced := bumpBy n c.displaced }
  | .flushed => { c with flushed := bumpBy n c.flushed }

theorem RecordCounters.countCodeBy_zero (code : Code) (c : RecordCounters) : c.countCodeBy code 0 = c := by
  cases code <;> simp [RecordCounters.countCodeBy]

theorem RecordCounters.countCodeBy_one (code : Code) (c : RecordCounters) : c.countCodeBy code 1 = c.countCode code := by
  cases code <;> simp [RecordCounters.countCodeBy, RecordCounters.countCode, bumpBy_one]

theorem RecordCounters.countCodeBy_countCodeBy (code : Code) (m n : Nat) (c : RecordCounters) :
    (c.countCodeBy code m).countCodeBy code n = c.countCodeBy code (m + n) := by
  cases code <;> simp [RecordCounters.countCodeBy, bumpBy_bumpBy]

theorem RecordCounters.countCodeBy_overflow (code : Code) (n : Nat) (x : Half) (c : RecordCounters) :
    RecordCounters.countCodeBy code n { c with reportOverflow := x } = { c.countCodeBy code n with reportOverflow := x } := by
  cases code <;> rfl

/-! ## Completion (R130, R131) -/

/-- The summary a completion of a record brings to the report queue, with its delay (R130). -/
def State.ending (s : State) (code : Code) (r : Record) : QueuedSummary := ⟨s.summaryOf r code, r.summaryDelay code⟩

/-- The slots that some records leave when they complete. -/
def slotsFreed (rs : List Record) : List Nat := rs.filterMap fun r => r.handle.map Handle.slot

/-- The generations once slots have been freed (R115). -/
def generationsAfter (slots : List Nat) (generations : List Byte) : List Byte :=
  slots.foldl (fun g k => g.modify k (· + 1)) generations

/-- The state after some records on no list have completed: their summaries, counts and slots. -/
def State.ended (s : State) (code : Code) (rs : List Record) : State :=
  { s with
    report := (rs.map (s.ending code)).foldl Report.after s.report
    records :=
      { s.records with
        free := s.records.free ++ slotsFreed rs
        generations := generationsAfter (slotsFreed rs) s.records.generations
        counters :=
          { s.records.counters.countCodeBy code rs.length with
            reportOverflow := bumpBy (rs.length - (32 - s.report.queue.length)) s.records.counters.reportOverflow } } }

theorem State.ended_nil (s : State) (code : Code) : s.ended code [] = s := by
  simp [State.ended, slotsFreed, generationsAfter, RecordCounters.countCodeBy_zero]

/-- A completion that is no acknowledgement. -/
theorem State.finish_eq_ended {code : Code} (hc : code ≠ .acknowledged) (r : Record) (s : State) :
    s.finish code r = s.ended code [r] := by
  have silent : (decide (code = .acknowledged) && r.attrs.receiptMode.wantsAcknowledged) = false := by simp [hc]
  unfold State.finish
  rw [State.joinReport_eq]
  simp only [silent, Bool.false_eq_true, if_false]
  cases hh : r.handle <;>
    simp [State.ended, State.ending, State.countRecords, State.onRecords, Records.freeSlot, slotsFreed, generationsAfter, hh,
      ← RecordCounters.countCodeBy_one, RecordCounters.countCodeBy_overflow]

/-- Completions carried out one after another. -/
theorem State.ended_cons (s : State) (code : Code) (r : Record) (rs : List Record) :
    (s.ended code [r]).ended code rs = s.ended code (r :: rs) := by
  have counted := bumpBy_dropped s.report (s.ending code r) rs.length s.records.counters.reportOverflow
  have slots : slotsFreed (r :: rs) = slotsFreed [r] ++ slotsFreed rs := List.filterMap_append (l := [r])
  have ending : (s.ended code [r]).ending code = s.ending code := rfl
  have counters := RecordCounters.countCodeBy_countCodeBy code 1 rs.length s.records.counters
  simp only [State.ended, ending] at *
  simp [slots, generationsAfter, List.append_assoc, RecordCounters.countCodeBy_overflow, counters, counted, Nat.add_comm 1]

/-! ## The end of listed records (R82, R131, R134) -/

/-- A record with its completion latched (R131, R148). -/
def Record.latchedWith (r : Record) (code : Code) : Record :=
  { r with latched := some code, ackDeferred := code == .acknowledged, reminder := none }

/-- Whether a record is DELIVERING (R119). -/
def Record.delivering (r : Record) : Bool := r.state == .delivering

/-- Some records leave both lists, a DELIVERING one among them with its completion latched. -/
def Records.leave (code : Code) (rs : List Record) (x : Records) : Records :=
  { x with
    active := x.active.filter fun y => y.handle ∉ rs.map Record.handle
    held := x.held.filter fun y => y.handle ∉ rs.map Record.handle
    latched := ((rs.filter Record.delivering).getLast?.map fun r => r.latchedWith code).or x.latched }

theorem Records.leave_one (code : Code) (r : Record) (x : Records) :
    x.leave code [r] =
      { x.unlist r with latched := if r.delivering then some (r.latchedWith code) else x.latched } := by
  have others : (fun y : Record => y.handle != r.handle) = fun y => decide (y.handle ∉ [r].map Record.handle) := by
    funext y
    simp [bne, beq_eq_decide]
  unfold Records.leave Records.unlist
  rw [others]
  cases hd : r.delivering <;> simp [hd]

theorem Records.leave_cons (code : Code) (r : Record) (rs : List Record) (x : Records) :
    (x.leave code [r]).leave code rs = x.leave code (r :: rs) := by
  have twice (l : List Record) :
      (l.filter fun y => y.handle ∉ [r].map Record.handle).filter (fun y => y.handle ∉ rs.map Record.handle) =
        l.filter fun y => y.handle ∉ (r :: rs).map Record.handle := by
    rw [List.filter_filter]
    refine List.filter_congr fun y _ => Bool.eq_iff_iff.mpr ?_
    simp
    tauto
  have latched : (((rs.filter Record.delivering).getLast?.map fun r => r.latchedWith code).or
      ((([r].filter Record.delivering).getLast?.map fun r => r.latchedWith code).or x.latched)) =
      (((r :: rs).filter Record.delivering).getLast?.map fun r => r.latchedWith code).or x.latched := by
    rw [← Option.or_assoc, List.filter_cons (xs := rs)]
    cases hd : r.delivering <;> cases hl : (rs.filter Record.delivering).getLast? <;> simp [hd, hl, List.getLast?_cons]
  simp only [Records.leave, twice, latched]

/-- The completion of listed records, one after another, with a code that is no acknowledgement. -/
theorem State.endAll_eq {code : Code} (hc : code ≠ .acknowledged) (rs : List Record) (s : State) :
    s.endAll code rs = (s.onRecords (Records.leave code rs)).ended code (rs.filter fun r => !r.delivering) := by
  induction rs generalizing s with
  | nil =>
    simp [State.endAll, State.ended_nil, State.onRecords, Records.leave]
  | cons r rs ih =>
    have step : s.endAll code (r :: rs) = (s.endRecord code r).endAll code rs := rfl
    have leaving : s.onRecords (Records.leave code (r :: rs)) = (s.onRecords (Records.leave code [r])).onRecords (Records.leave code rs) :=
      congrArg (fun x => { s with records := x }) (Records.leave_cons code r rs s.records).symm
    rw [step, ih, leaving]
    by_cases hd : r.delivering = true
    · have latched : s.endRecord code r = s.onRecords (Records.leave code [r]) := by
        have state : r.state = .delivering := by simpa [Record.delivering] using hd
        rw [State.endRecord, if_pos state, State.latch, State.onRecords, State.onRecords, Records.leave_one, if_pos hd]
        rfl
      simp [latched, hd]
    · have completed : s.endRecord code r = (s.onRecords (Records.leave code [r])).ended code [r] := by
        have state : r.state ≠ .delivering := by simpa [Record.delivering] using hd
        rw [State.endRecord, if_neg state, State.complete, State.finish_eq_ended hc, State.onRecords, State.onRecords,
          Records.leave_one, if_neg hd]
        rfl
      have kept : (r :: rs).filter (fun r => !r.delivering) = r :: rs.filter fun r => !r.delivering := by simp [hd]
      rw [completed, kept]
      exact State.ended_cons (s.onRecords (Records.leave code [r]) |>.onRecords (Records.leave code rs)) code r _

theorem getLast?_of_le_one {α : Type} {l : List α} (h : l.length ≤ 1) : l.getLast? = l.head? := by
  rcases l with _ | ⟨x, _ | ⟨y, l⟩⟩
  · rfl
  · rfl
  · simp at h

/-! ## The records of a key, in an ordered record unit (R82) -/

section
variable {u : Records} (hu : u.Ordered)
include hu

/-- No two live records have one slot (R115). -/
theorem Records.Ordered.slots_nodup : (u.live.map fun x => x.handle.map Handle.slot).Nodup := by
  have taken : (u.live.filterMap fun x => x.handle.map Handle.slot).Nodup :=
    (hu.slots.nodup_iff.mpr List.nodup_range).of_append_right
  have all : (u.live.filterMap fun x => x.handle.map Handle.slot).map some = u.live.map fun x => x.handle.map Handle.slot := by
    rw [List.map_filterMap_some_eq_filter_map_isSome, List.filter_eq_self]
    simpa using hu.handles
  exact all ▸ taken.map (Option.some_injective Nat)

theorem Records.Ordered.handles_nodup : (u.live.map Record.handle).Nodup :=
  List.Nodup.of_map (Option.map Handle.slot) (by simpa [Function.comp_def] using hu.slots_nodup)

/-- The records of a key leave a list of live records by their handles. -/
theorem Records.Ordered.filter_handle {l : List Record} (hl : ∀ x ∈ l, x ∈ u.active ++ u.held) (k : Key) :
    l.filter (fun y => y.handle ∉ ((u.active ++ u.held).filter fun r => r.key == k).map Record.handle) =
      l.filter fun y => y.key ≠ k := by
  have live {x : Record} (hx : x ∈ u.active ++ u.held) : x ∈ u.live := List.mem_append_left _ hx
  refine List.filter_congr fun y hy => decide_eq_decide.mpr (not_congr ⟨fun h => ?_, fun h => ?_⟩)
  · obtain ⟨x, hx, same⟩ := List.mem_map.mp h
    obtain ⟨hx, key⟩ := List.mem_filter.mp hx
    obtain rfl := hu.eq_of_handle (live hx) (live (hl y hy)) same
    simpa using key
  · exact List.mem_map_of_mem (List.mem_filter.mpr ⟨hl y hy, by simpa using h⟩)

/-- At most one active record is DELIVERING (R119, R123). -/
theorem Records.Ordered.delivering_le_one : (u.active.filter Record.delivering).length ≤ 1 := by
  have sequence := hu.sequence
  cases hd : u.delivery with
  | none =>
    rw [hd] at sequence
    have none : u.active.filter Record.delivering = [] := List.filter_eq_nil_iff.mpr fun x hx => by
      simpa [Record.delivering] using sequence.2 x hx
    simp [none]
  | some d =>
    rw [hd] at sequence
    obtain ⟨_, x, only, _⟩ := sequence
    have := congrArg List.length only
    rw [List.filter_append, List.length_append] at this
    exact Nat.le.intro this

/-- Of the listed records of a key the one that is DELIVERING is active. -/
theorem Records.Ordered.delivering_of_key (k : Key) :
    (((u.active ++ u.held).filter fun r => r.key == k).filter Record.delivering).getLast? =
      u.active.find? fun x => x.key = k && x.state = .delivering := by
  have held : (u.held.filter fun r => r.key == k).filter Record.delivering = [] := List.filter_eq_nil_iff.mpr fun x hx => by
    simp [Record.delivering, (hu.heldStates x (List.mem_filter.mp hx).1).1]
  have asked : (u.active.filter fun r => r.key == k).filter Record.delivering =
      u.active.filter fun x => x.key = k && x.state = .delivering := by
    rw [List.filter_filter]
    exact List.filter_congr fun x _ => by simp [Record.delivering, Bool.and_comm, beq_eq_decide]
  have few : (u.active.filter fun x => x.key = k && x.state = .delivering).length ≤ 1 := by
    rw [← asked, List.filter_comm]
    exact (List.length_filter_le _ _).trans hu.delivering_le_one
  rw [List.filter_append, List.filter_append, held, List.append_nil, asked, ← List.head?_filter, getLast?_of_le_one few]

/-- The completion of every record of a key, with a code that is no acknowledgement (R82, R134). -/
theorem Records.Ordered.leave_key (code : Code) (k : Key) :
    u.leave code ((u.active ++ u.held).filter fun r => r.key == k) =
      { u with
        active := u.active.filter fun y => y.key ≠ k
        held := u.held.filter fun y => y.key ≠ k
        latched := ((u.active.find? fun x => x.key = k && x.state = .delivering).map fun r => r.latchedWith code).or u.latched } := by
  rw [Records.leave, hu.filter_handle (fun x => List.mem_append_left _), hu.filter_handle (fun x => List.mem_append_right _),
    hu.delivering_of_key]
end

/-- The listed records of a key whose completion is carried out at once (R82, R131). -/
def Records.toEnd (u : Records) (k : Key) : List Record :=
  (u.active ++ u.held).filter fun x => x.key = k && x.state ≠ .delivering

/-- The record unit once every record of a key has left its lists, a DELIVERING one with its completion latched (R82, R131). -/
def Records.without (u : Records) (code : Code) (k : Key) : Records :=
  { u with
    active := u.active.filter fun y => y.key ≠ k
    held := u.held.filter fun y => y.key ≠ k
    latched := ((u.active.find? fun x => x.key = k && x.state = .delivering).map fun r => r.latchedWith code).or u.latched }

/-- The completion of every record of a key, with a code that is no acknowledgement (R82, R134). -/
theorem State.endKey_eq {s : State} {code : Code} (hu : s.records.Ordered) (hc : code ≠ .acknowledged) (k : Key) :
    s.endKey code k = (s.onRecords fun u => u.without code k).ended code (s.records.toEnd k) := by
  have atOnce : (((s.records.active ++ s.records.held).filter fun r => r.key == k).filter fun r => !r.delivering) =
      s.records.toEnd k := by
    rw [List.filter_filter]
    exact List.filter_congr fun x _ => by simp [Record.delivering, Bool.and_comm, beq_eq_decide]
  rw [State.endKey, State.endAll_eq hc, atOnce]
  exact congrArg (fun u => State.ended { s with records := u } code _) (hu.leave_key code k)

end Sys2Proof.Machine
end

section
/-!
PROOFS. Where a new record stands (R104 to R108, R117, R118, R120, R121): on the active list, on the held list, or ended at once.
-/

namespace Sys2Proof.Machine

/-! ## Lists of records with handles -/

/-- The listed records have handles, no two the same (R115, R118). -/
structure Records.Seated (u : Records) : Prop where
  handles : ∀ x ∈ u.active ++ u.held, x.handle.isSome = true
  distinct : ((u.active ++ u.held).map Record.handle).Nodup

theorem Records.Ordered.seated {u : Records} (hu : u.Ordered) : u.Seated where
  handles x hx := hu.handles x (List.mem_append_left _ hx)
  distinct := hu.handles_nodup.sublist ((List.sublist_append_left _ _).map _)

/-- Of distinct values one is filtered out. -/
theorem filter_ne_of_nodup {α β : Type} [BEq β] [LawfulBEq β] {f : α → β} {a b : List α} {x : α}
    (h : ((a ++ x :: b).map f).Nodup) :
    (a ++ x :: b).filter (fun y => f y != f x) = a ++ b := by
  rw [List.map_append, List.map_cons, List.nodup_middle, List.nodup_cons, ← List.map_append] at h
  have others {y : α} (hy : y ∈ a ++ b) : (f y != f x) = true := bne_iff_ne.mpr fun e => h.1 (e ▸ List.mem_map_of_mem hy)
  rw [List.filter_append, List.filter_cons_of_neg (by simp), ← List.filter_append, List.filter_eq_self.mpr fun y hy => others hy]

/-- An element goes after those that come before it, in front of those that do not. -/
theorem insertBefore_append {α : Type} {before : α → α → Bool} {x : α} {a b : List α} (ha : ∀ y ∈ a, before y x = true)
    (hb : ∀ y ∈ b, before y x = false) : insertBefore before x (a ++ b) = a ++ x :: b := by
  induction a with
  | nil =>
    cases b with
    | nil => rfl
    | cons y b => simp [insertBefore, hb y]
  | cons y a ih => simp [insertBefore, ha y, ih fun z hz => ha z (List.mem_cons_of_mem y hz)]

/-- The element that no earlier one ties and no later one precedes is the least. -/
theorem least_of_split {α : Type} {before : α → α → Bool} {x : α} {a b : List α} (ha : ∀ y ∈ a, before x y = true)
    (hb : ∀ y ∈ b, before y x = false) : least before (a ++ x :: b) = some x := by
  have after : leastFrom before x b = x := by
    induction b with
    | nil => rfl
    | cons y b ih => simp [leastFrom, hb y, ih fun z hz => hb z (List.mem_cons_of_mem y hz)]
  have walk (best : α) (a : List α) (hbest : before x best = true) (ha : ∀ y ∈ a, before x y = true) :
      leastFrom before best (a ++ x :: b) = x := by
    induction a generalizing best with
    | nil => simp [leastFrom, hbest, after]
    | cons y a ih =>
      rw [List.cons_append, leastFrom]
      refine ih _ ?_ fun z hz => ha z (List.mem_cons_of_mem y hz)
      split
      · exact ha y List.mem_cons_self
      · exact hbest
  cases a with
  | nil => exact congrArg some after
  | cons y a => exact congrArg some (walk y a (ha y List.mem_cons_self) fun z hz => ha z (List.mem_cons_of_mem y hz))

/-! ## Completion and displacement -/

/-- A listed record that completes at once, with a code that is no acknowledgement. -/
theorem State.complete_eq_ended {code : Code} (hc : code ≠ .acknowledged) (r : Record) (s : State) :
    s.complete code r = (s.onRecords (Records.unlist r)).ended code [r] := State.finish_eq_ended hc r _

/-- The newcomer takes the oldest free slot (R118). -/
theorem Records.seat_newcomer {u : Records} {a b : List Record} {x : Record} (hl : u.active = a ++ x :: b) (hx : x.handle = none)
    (others : ∀ y ∈ a ++ b, y.handle.isSome = true) :
    u.seat x.entered = { u with active := a ++ { x with handle := u.nextHandle } :: b, free := u.free.drop 1 } := by
  have stays (l : List Record) (h : ∀ y ∈ l, y.handle.isSome = true) :
      (l.map fun y => if y.entered == x.entered && y.handle.isNone then { y with handle := u.nextHandle } else y) = l := by
    refine (List.map_congr_left fun y hy => if_neg ?_).trans (List.map_id l)
    obtain ⟨h, hh⟩ := Option.isSome_iff_exists.mp (h y hy)
    simp [hh]
  have newcomer : (u.active.any fun y => y.entered == x.entered && y.handle.isNone) = true :=
    List.any_eq_true.mpr ⟨x, by simp [hl], by simp [hx]⟩
  rw [Records.seat, if_pos newcomer, hl, List.map_append, List.map_cons, stays a fun y hy => others y (List.mem_append_left _ hy),
    stays b fun y hy => others y (List.mem_append_right _ hy)]
  simp [hx]

/-- A record unit whose active records all have slots has no newcomer to seat. -/
theorem Records.seat_seated {u : Records} (h : ∀ y ∈ u.active, y.handle.isSome = true) (n : Nat) : u.seat n = u := by
  refine if_neg fun some => ?_
  obtain ⟨y, hy, newcomer⟩ := List.any_eq_true.mp some
  have := h y hy
  simp_all

/-- A record after it has entered the active list, without the slot it may take (R121). -/
def Record.enteredAs (r : Record) (n : Nat) : Record := { r with state := .waiting, entered := n }

/-- The record unit with these active records, after one more has entered. -/
def Records.entering (active : List Record) (u : Records) : Records := { u with active := active, entries := u.entries + 1 }

theorem State.onRecords_eq {s : State} {f : Records → Records} {u : Records} (h : f s.records = u) :
    s.onRecords f = { s with records := u } := congrArg (fun u => { s with records := u }) h

/-- Where a newcomer goes in the active list: between these two parts of it (R121). -/
structure Records.Placed (u : Records) (r : Record) (a b : List Record) : Prop where
  split : u.active = a ++ b
  place : u.place (r.enteredAs u.entries) = { u with active := a ++ r.enteredAs u.entries :: b }

/-- A newcomer has its place, after the records of its rank or a more important one and before those of a less important one. -/
theorem Records.placed_of_ranks {u : Records} {r : Record} {a b : List Record} (hl : u.active = a ++ b)
    (ha : ∀ y ∈ a, y.attrs.cls.rank ≤ r.attrs.cls.rank) (hb : ∀ y ∈ b, r.attrs.cls.rank < y.attrs.cls.rank) : u.Placed r a b where
  split := hl
  place := by
    rw [Records.place, hl, insertBefore_append]
    · exact fun y hy => decide_eq_true (ha y hy)
    · exact fun y hy => decide_eq_false (Nat.not_le.mpr (hb y hy))

theorem Records.exists_placed (u : Records) (r : Record) : ∃ a b, u.Placed r a b := by
  obtain ⟨a, b, hl, hi, -⟩ :=
    insertBefore_split (fun y x : Record => y.attrs.cls.rank ≤ x.attrs.cls.rank) (r.enteredAs u.entries) u.active
  exact ⟨a, b, hl, congrArg (fun l => { u with active := l }) hi⟩

section
variable {s : State} {r : Record} {a b : List Record} (hs : s.records.Seated) (hr : r.handle = none) (hp : s.records.Placed r a b)

include hp in
/-- A record is put in its place, another may be displaced, and the newcomer takes a slot (R118, R121). -/
theorem State.enterActive_eq :
    s.enterActive r =
      (s.onRecords (Records.entering (a ++ r.enteredAs s.records.entries :: b))).displace.onRecords
        (Records.seat s.records.entries) :=
  congrArg (fun u : Records => (State.displace { s with records := { u with entries := s.records.entries + 1 } }).onRecords
    (Records.seat s.records.entries)) hp.place

include hs hp in
theorem Records.handles_around : ∀ y ∈ a ++ b, y.handle.isSome = true :=
  fun y hy => hs.handles y (List.mem_append_left _ (hp.split ▸ hy))

include hs hr hp

/-- A newcomer without a handle leaves the handles of the active list distinct. -/
theorem Records.handles_distinct (n : Nat) : ((a ++ r.enteredAs n :: b).map Record.handle).Nodup := by
  have around := hs.distinct
  rw [List.map_append, hp.split] at around
  rw [List.map_append, List.map_cons, List.nodup_middle, List.nodup_cons, ← List.map_append]
  refine ⟨fun named => ?_, around.of_append_left⟩
  obtain ⟨y, hy, unnamed⟩ := List.mem_map.mp named
  have := Records.handles_around hs hp y hy
  simp [unnamed, Record.enteredAs, hr] at this

/-- A held record has a handle of its own. -/
theorem Records.handles_apart (n : Nat) : ∀ x ∈ a ++ r.enteredAs n :: b, ∀ y ∈ s.records.held, y.handle ≠ x.handle := by
  intro x hx y hy same
  rcases (by simpa using hx : x ∈ a ∨ x = r.enteredAs n ∨ x ∈ b) with h | rfl | h
  case inr.inl =>
    have := hs.handles y (List.mem_append_right _ hy)
    simp [same, Record.enteredAs, hr] at this
  all_goals
    have active : x ∈ s.records.active := by simp [hp.split, h]
    have around := hs.distinct
    rw [List.map_append] at around
    exact (List.nodup_append.mp around).2.2 _ (List.mem_map_of_mem active) _ (List.mem_map_of_mem hy) same.symm

/-- A record entering an active list that has room (R118, R121). -/
theorem State.enterActive_of_room (room : s.records.active.length < s.records.capacity) :
    s.enterActive r =
      { s with
        records :=
          { s.records with
            active := a ++ { r.enteredAs s.records.entries with handle := s.records.nextHandle } :: b
            free := s.records.free.drop 1
            entries := s.records.entries + 1 } } := by
  have fits : ¬ (a ++ r.enteredAs s.records.entries :: b).length > s.records.capacity := by
    rw [hp.split] at room
    simp only [List.length_append, List.length_cons] at room ⊢
    omega
  have stays : (s.onRecords (Records.entering (a ++ r.enteredAs s.records.entries :: b))).displace =
      s.onRecords (Records.entering (a ++ r.enteredAs s.records.entries :: b)) := if_neg fits
  rw [State.enterActive_eq hp, stays]
  exact State.onRecords_eq (Records.seat_newcomer (u := s.records.entering (a ++ r.enteredAs s.records.entries :: b)) rfl hr
    (Records.handles_around hs hp))

/-- A record entering a full active list, from which `v` is displaced (R121). -/
theorem State.enterActive_of_full (full : s.records.capacity ≤ s.records.active.length) {v : Record} {before after : List Record}
    (split : a ++ r.enteredAs s.records.entries :: b = before ++ v :: after) (waits : v.state ≠ .delivering)
    (hd : ∀ y ∈ after, y.state = .delivering) :
    s.enterActive r =
      ((s.onRecords (Records.entering (before ++ after))).ended .displaced [v]).onRecords (Records.seat s.records.entries) := by
  have tooMany : (before ++ v :: after).length > s.records.capacity := by
    rw [hp.split] at full
    rw [← split]
    simp only [List.length_append, List.length_cons] at full ⊢
    omega
  have victim : ((before ++ v :: after).reverse.find? fun x => x.state != .delivering) = some v := by
    have skipped : (after.reverse.find? fun x => x.state != .delivering) = none := by simpa using hd
    rw [List.reverse_append, List.reverse_cons, List.append_assoc, List.find?_append, skipped]
    simp [waits]
  have displaced : (s.onRecords (Records.entering (before ++ v :: after))).displace =
      (s.onRecords (Records.entering (before ++ v :: after))).complete .displaced v := by
    refine (if_pos tooMany).trans ?_
    have chosen : (s.onRecords (Records.entering (before ++ v :: after))).records.lastToDisplace = some v := victim
    rw [chosen]
  have left : Records.unlist v (s.records.entering (before ++ v :: after)) = s.records.entering (before ++ after) := by
    have distinct := Records.handles_distinct hs hr hp s.records.entries
    have apart := Records.handles_apart hs hr hp s.records.entries v (split ▸ by simp)
    have active := filter_ne_of_nodup (split ▸ distinct)
    have held : (s.records.held.filter fun y => y.handle != v.handle) = s.records.held :=
      List.filter_eq_self.mpr fun y hy => bne_iff_ne.mpr (apart y hy)
    simp only [Records.unlist, Records.entering, active, held]
  rw [State.enterActive_eq hp, split, displaced, State.complete_eq_ended (by decide)]
  exact congrArg (fun u => (State.ended { s with records := u } .displaced [v]).onRecords (Records.seat s.records.entries)) left

/-- A record entering a full active list of which it is itself the one to displace (R121). -/
theorem State.enterActive_displaced (full : s.records.capacity ≤ s.records.active.length) (hd : ∀ y ∈ b, y.state = .delivering) :
    s.enterActive r =
      (s.onRecords (Records.entering s.records.active)).ended .displaced [r.enteredAs s.records.entries] := by
  rw [State.enterActive_of_full hs hr hp full rfl (by simp [Record.enteredAs]) hd, hp.split]
  refine State.onRecords_eq (Records.seat_seated (u := (State.ended (s.onRecords (Records.entering (a ++ b))) .displaced _).records) ?_ _)
  exact Records.handles_around hs hp

/-- A record entering a full active list, from which another is displaced (R121). -/
theorem State.enterActive_displacing {between last : List Record} {x : Record}
    (full : s.records.capacity ≤ s.records.active.length) (hx : b = between ++ x :: last) (waits : x.state ≠ .delivering)
    (hd : ∀ y ∈ last, y.state = .delivering) :
    s.enterActive r =
      let u := (s.ended .displaced [x]).records
      { s.ended .displaced [x] with
        records :=
          { u with
            active := a ++ { r.enteredAs s.records.entries with handle := u.nextHandle } :: (between ++ last)
            free := u.free.drop 1
            entries := s.records.entries + 1 } } := by
  subst hx
  rw [State.enterActive_of_full hs hr hp full (before := a ++ r.enteredAs s.records.entries :: between) (by simp) waits hd,
    List.append_assoc, List.cons_append]
  refine State.onRecords_eq ?_
  have newcomer := Records.seat_newcomer
    (u := ((s.onRecords (Records.entering (a ++ r.enteredAs s.records.entries :: (between ++ last)))).ended .displaced [x]).records)
    (a := a) (b := between ++ last) rfl hr fun y hy => Records.handles_around hs hp y (by
      simp only [List.mem_append, List.mem_cons] at hy ⊢
      tauto)
  exact newcomer
end

/-! ## The held list (R106 to R108) -/

/-- The held list has been found full (R108). -/
def State.overflowed (s : State) : State := s.countArea fun c => { c with heldOverflow := bump c.heldOverflow }

/-- A record to be held, where the held list has room (R107). -/
theorem State.hold_of_room {s : State} (r : Record) (room : s.records.held.length < 8) : s.hold r = s.joinHeld r := if_pos room

/-- A record to be held, where the held list is full (R108). -/
theorem State.hold_of_full {s : State} {e : Record} (r : Record) (full : 8 ≤ s.records.held.length)
    (he : s.records.earliestHeld = some e) :
    s.hold r =
      if r.lifetimeEnd.toNat ≤ e.lifetimeEnd.toNat then s.overflowed.finish .outOfArea r
      else (s.complete .outOfArea e).overflowed.joinHeld r := by
  unfold State.hold Config.heldCapacity
  rw [if_neg (Nat.not_lt.mpr full), he]
  rfl

section
variable {s : State} {r e : Record} {a b : List Record} (full : 8 ≤ s.records.held.length)
  (he : s.records.earliestHeld = some e)
include full he

/-- A record to be held, of no later lifetime end than those that fill the held list (R108). -/
theorem State.hold_refused (first : r.lifetimeEnd.toNat ≤ e.lifetimeEnd.toNat) :
    s.hold r = s.overflowed.ended .outOfArea [r] := by
  rw [State.hold_of_full r full he, if_pos first, State.finish_eq_ended (by decide)]

/-- A record to be held, which takes the place of the one of earliest lifetime end (R108). -/
theorem State.hold_replacing (hs : s.records.Seated) (hl : s.records.held = a ++ e :: b)
    (later : e.lifetimeEnd.toNat < r.lifetimeEnd.toNat) :
    s.hold r = ((s.onRecords fun u => { u with held := a ++ b }).ended .outOfArea [e]).overflowed.joinHeld r := by
  have around := hs.distinct
  rw [List.map_append, hl] at around
  have held : (s.records.held.filter fun y => y.handle != e.handle) = a ++ b := hl ▸ filter_ne_of_nodup around.of_append_right
  have active : (s.records.active.filter fun y => y.handle != e.handle) = s.records.active :=
    List.filter_eq_self.mpr fun y hy => bne_iff_ne.mpr
      ((List.nodup_append.mp around).2.2 _ (List.mem_map_of_mem hy) _ (List.mem_map_of_mem (by simp)))
  have left : s.records.unlist e = { s.records with held := a ++ b } := by simp only [Records.unlist, active, held]
  rw [State.hold_of_full r full he, if_neg (Nat.not_le.mpr later), State.complete_eq_ended (by decide), State.onRecords_eq left]
  rfl
end

/-- The held record of earliest lifetime end, the first of those that tie (R108). -/
theorem Records.earliestHeld_of_split {u : Records} {e : Record} {a b : List Record} (hl : u.held = a ++ e :: b)
    (ha : ∀ x ∈ a, e.lifetimeEnd.toNat < x.lifetimeEnd.toNat) (hb : ∀ x ∈ b, e.lifetimeEnd.toNat ≤ x.lifetimeEnd.toNat) :
    u.earliestHeld = some e := by
  rw [Records.earliestHeld, hl]
  exact least_of_split (fun x hx => decide_eq_true (ha x hx)) fun x hx => decide_eq_false (Nat.not_lt.mpr (hb x hx))

/-- Where the held list is full, one of it has the earliest lifetime end. -/
theorem Records.exists_earliestHeld {u : Records} (h : u.held ≠ []) : ∃ e a b, u.earliestHeld = some e ∧ u.held = a ++ e :: b := by
  cases he : u.earliestHeld with
  | none => exact absurd (least_eq_none.mp he) h
  | some e =>
    obtain ⟨a, b, hl⟩ := List.append_of_mem (least_mem he)
    exact ⟨e, a, b, rfl, hl⟩

/-! ## The judgement of a new record (R97, R103 to R105) -/

/-- A box spans some vertices in longitude: it holds them, and touches one of them on each side (R96). -/
def Box.SpansLon (b : Box) (vs : List Vertex) : Prop :=
  (∀ u ∈ vs, b.west ≤ u.lon ∧ u.lon ≤ b.east) ∧ (∃ u ∈ vs, u.lon = b.west) ∧ ∃ u ∈ vs, u.lon = b.east

theorem Box.spansLon_foldl {b : Box} {seen : List Vertex} (h : b.SpansLon seen) (vs : List Vertex) :
    (vs.foldl (fun b v => (⟨min b.south v.lat, max b.north v.lat, min b.west v.lon, max b.east v.lon⟩ : Box)) b).SpansLon
      (seen ++ vs) := by
  induction vs generalizing b seen with
  | nil => simpa using h
  | cons v vs ih =>
    obtain ⟨within, ⟨w, hw, west⟩, ⟨e, he, east⟩⟩ := h
    rw [List.foldl_cons, ← List.singleton_append, ← List.append_assoc]
    refine ih ⟨fun u hu => ?_, ?_, ?_⟩
    · rcases List.mem_append.mp hu with hu | hu
      · have := within u hu
        dsimp only
        omega
      · obtain rfl := List.mem_singleton.mp hu
        dsimp only
        omega
    · rcases Int.le_total b.west v.lon with le | le
      · exact ⟨w, List.mem_append_left _ hw, by simp [west, le]⟩
      · exact ⟨v, by simp, by simp [le]⟩
    · rcases Int.le_total b.east v.lon with le | le
      · exact ⟨v, by simp, by simp [le]⟩
      · exact ⟨e, List.mem_append_left _ he, by simp [east, le]⟩

/-- An area is ignored where two of its vertices lie more than 180,000,000 apart in longitude (R97). -/
theorem areaIgnored_iff (area : Option (List Vertex)) :
    areaIgnored area = true ↔ ∃ vs, area = some vs ∧ ∃ u ∈ vs, ∃ v ∈ vs, 180000000 < u.lon - v.lon := by
  cases area with
  | none => simp [areaIgnored]
  | some vs =>
    cases vs with
    | nil => simp [areaIgnored, spanTooWide, boundingBox]
    | cons v vs =>
      have first : Box.SpansLon ⟨v.lat, v.lat, v.lon, v.lon⟩ [v] := by simp [Box.SpansLon]
      obtain ⟨within, ⟨w, hw, west⟩, ⟨e, he, east⟩⟩ := Box.spansLon_foldl first vs
      simp only [areaIgnored, spanTooWide, boundingBox, Box.around, decide_eq_true_eq, Option.some.injEq,
        exists_eq_left', ← west, ← east]
      refine ⟨fun h => ⟨e, he, w, hw, h⟩, fun ⟨u, hu, v', hv, h⟩ => ?_⟩
      have := within u hu
      have := within v' hv
      omega

theorem Verdict.presents_iff (v : Verdict) (x : Attributes) :
    v.presents x = true ↔
      v = .noArea ∨ v = .inside ∨ (v = .edge ∧ x.edgePolicy = .present) ∨ (v = .unknown ∧ x.unknownPolicy = .present) := by
  cases v <;> simp [Verdict.presents]

end Sys2Proof.Machine
end

section
/-!
PROOFS. The creation of a record (R97, R104 to R108, R117): what it leaves as it was, what joins the lists, and where the new record stands.
-/

namespace Sys2Proof.Machine

/-! ## What the coming of a record leaves as it was -/

/-- A record has come to the record unit: only the area unit's counters, the record unit and the report queue have changed, and there
neither the position, nor what is being delivered, nor two of the counters. -/
structure State.Received (s t : State) : Prop where
  rest : t = { s with area := t.area, records := t.records, report := t.report }
  position : t.area.position = s.area.position
  latched : t.records.latched = s.records.latched
  delivery : t.records.delivery = s.records.delivery
  created : t.records.counters.created = s.records.counters.created
  superseded : t.records.counters.superseded = s.records.counters.superseded
  queue : ∃ more, t.report.queue = s.report.queue ++ more

theorem State.Received.trans {s t u : State} (h : s.Received t) (h' : t.Received u) : s.Received u where
  rest := by rw [h'.rest, h.rest]
  position := h'.position.trans h.position
  latched := h'.latched.trans h.latched
  delivery := h'.delivery.trans h.delivery
  created := h'.created.trans h.created
  superseded := h'.superseded.trans h.superseded
  queue := by
    obtain ⟨more, hm⟩ := h.queue
    obtain ⟨more', hm'⟩ := h'.queue
    exact ⟨more ++ more', by rw [hm', hm, List.append_assoc]⟩

theorem State.Received.refl (s : State) : s.Received s := ⟨rfl, rfl, rfl, rfl, rfl, rfl, [], by simp⟩

/-- Other records on the lists, in other slots. -/
theorem State.Received.onRecords {s : State} {f : Records → Records}
    (h : ∃ active held free entries, f s.records = { s.records with active := active, held := held, free := free, entries := entries }) :
    s.Received (s.onRecords f) := by
  obtain ⟨active, held, free, entries, h⟩ := h
  rw [State.onRecords_eq h]
  exact ⟨rfl, rfl, rfl, rfl, rfl, rfl, [], by simp⟩

theorem State.Received.countArea (s : State) (f : AreaCounters → AreaCounters) : s.Received (s.countArea f) :=
  ⟨rfl, rfl, rfl, rfl, rfl, rfl, [], by simp [State.countArea]⟩

theorem Report.after_queue (q : Report) (x : QueuedSummary) : ∃ more, (q.after x).queue = q.queue ++ more := by
  unfold Report.after
  dsimp only
  split
  · exact ⟨[], by simp⟩
  · exact ⟨[x], rfl⟩

/-- A completion that supersedes nothing. -/
theorem State.Received.ended {code : Code} (hc : code ≠ .superseded) (s : State) (r : Record) : s.Received (s.ended code [r]) where
  rest := rfl
  position := rfl
  latched := rfl
  delivery := rfl
  created := by cases code <;> rfl
  superseded := by
    cases code
    case superseded => exact absurd rfl hc
    all_goals rfl
  queue := Report.after_queue s.report (s.ending code r)

theorem Records.seat_eq (n : Nat) (u : Records) : ∃ active free, u.seat n = { u with active := active, free := free } := by
  unfold Records.seat
  split
  · exact ⟨_, _, rfl⟩
  · exact ⟨u.active, u.free, rfl⟩

/-- All that a displacement can do (R121). -/
theorem State.displace_cases (s : State) :
    s.displace = s ∨
      ∃ v ∈ s.records.active, s.displace = (s.onRecords (Records.unlist v)).ended .displaced [v] := by
  unfold State.displace
  split
  case isFalse => exact .inl rfl
  case isTrue =>
    cases hv : s.records.lastToDisplace with
    | none => exact .inl rfl
    | some v =>
      have mem := List.mem_of_find?_eq_some (show s.records.active.reverse.find? (fun x => x.state != .delivering) = some v from hv)
      exact .inr ⟨v, List.mem_reverse.mp mem, State.complete_eq_ended (by decide) v s⟩

theorem State.Received.displace (s : State) : s.Received s.displace := by
  rcases s.displace_cases with h | ⟨v, _, h⟩ <;> rw [h]
  · exact .refl s
  · exact (State.Received.onRecords ⟨_, _, s.records.free, s.records.entries, rfl⟩).trans (.ended (by decide) _ v)

theorem State.Received.enterActive (s : State) (r : Record) : s.Received (s.enterActive r) := by
  obtain ⟨active, free, seated⟩ := Records.seat_eq s.records.entries
    (s.onRecords fun x => { x.place (r.enteredAs s.records.entries) with entries := s.records.entries + 1 }).displace.records
  refine State.Received.trans (State.Received.trans (State.Received.onRecords ?_) (State.Received.displace _))
    (State.Received.onRecords ⟨active, _, free, _, seated⟩)
  exact ⟨_, s.records.held, s.records.free, _, rfl⟩

theorem State.Received.joinHeld (s : State) (r : Record) : s.Received (s.joinHeld r) :=
  (State.Received.onRecords ⟨s.records.active, _, _, s.records.entries, rfl⟩).trans (.countArea _ _)

/-- All that can become of a record to be held (R107, R108). -/
theorem State.hold_cases (s : State) (r : Record) :
    s.hold r = s.joinHeld r ∨ s.hold r = s.overflowed.ended .outOfArea [r] ∨
      ∃ e ∈ s.records.held,
        s.hold r = ((s.onRecords (Records.unlist e)).ended .outOfArea [e]).overflowed.joinHeld r := by
  by_cases room : s.records.held.length < 8
  · exact .inl (State.hold_of_room r room)
  · obtain ⟨e, a, b, he, hl⟩ := Records.exists_earliestHeld (u := s.records) fun h => by simp [h] at room
    rw [State.hold_of_full r (Nat.not_lt.mp room) he, State.finish_eq_ended (by decide), State.complete_eq_ended (by decide)]
    split
    · exact .inr (.inl rfl)
    · exact .inr (.inr ⟨e, by simp [hl], rfl⟩)

theorem State.Received.hold (s : State) (r : Record) : s.Received (s.hold r) := by
  rcases s.hold_cases r with h | h | ⟨e, _, h⟩ <;> rw [h]
  · exact .joinHeld s r
  · exact (State.Received.countArea s _).trans (.ended (by decide) _ r)
  · have left : s.Received (s.onRecords (Records.unlist e)) :=
      .onRecords ⟨_, _, s.records.free, s.records.entries, rfl⟩
    exact ((left.trans (.ended (by decide) _ e)).trans (.countArea _ _)).trans (.joinHeld _ r)

/-! ## Creation (R117) -/

/-- A record is being created, and counted. -/
def State.creating (s : State) : State := s.countRecords fun c => { c with created := bump c.created }

/-- A new record's area has been looked at, and counted where it is ignored (R97). -/
def State.judged (r : Record) (s : State) : State :=
  { s with
    area :=
      { s.area with
        counters :=
          { s.area.counters with
            areaIgnored := if areaIgnored r.area then bump s.area.counters.areaIgnored else s.area.counters.areaIgnored } } }

theorem State.judgeNew_eq (r : Record) (s : State) :
    s.judgeNew r = (s.judged r, { r with verdict := some (s.area.position.verdict r.area) }) := by
  unfold State.judgeNew State.judged
  split <;> rfl

theorem State.Received.judged (s : State) (r : Record) : s.Received (s.judged r) :=
  ⟨rfl, rfl, rfl, rfl, rfl, rfl, [], by simp [State.judged]⟩

section
variable (s : State) (c : Context) (w : Window)

/-- The record of a context that completes now, as R117 asks for it. -/
def State.newRecord : Record := c.recordIn w s.area.position s.time.epoch

theorem State.create_muted (hm : w.attrs.muted = true) :
    s.create (c.alert w) = s.creating.ended .muted [{ s.newRecord c w with verdict := none }] := by
  rw [← State.finish_eq_ended (by decide)]
  exact if_pos hm

theorem State.create_unmuted (hm : w.attrs.muted = false) :
    s.create (c.alert w) =
      if (s.area.position.verdict c.trailer).presents w.attrs then
        (s.creating.judged (s.newRecord c w)).enterActive (s.newRecord c w)
      else (s.creating.judged (s.newRecord c w)).hold (s.newRecord c w) := by
  have unmuted : ¬ (c.alert w).attrs.muted = true := by simp [Context.alert, hm]
  unfold State.create
  dsimp only
  rw [if_neg unmuted, State.judgeNew_eq]
  rfl

theorem State.Received.create : s.creating.Received (s.create (c.alert w)) := by
  cases hm : w.attrs.muted with
  | true =>
    rw [State.create_muted s c w hm]
    exact .ended (by decide) _ _
  | false =>
    rw [State.create_unmuted s c w hm]
    split
    · exact (State.Received.judged _ _).trans (.enterActive _ _)
    · exact (State.Received.judged _ _).trans (.hold _ _)
end

/-! ## What joins the lists -/

/-- What stands on the lists after a record has come: what stood there, and a newcomer, WAITING and as the newest to have entered, or HELD
in a slot that was free or that a held record has left. -/
structure Records.Takes (u t : Records) : Prop where
  active : ∀ y ∈ t.active, y ∈ u.active ∨ (y.state = .waiting ∧ y.entered = u.entries)
  held : ∀ y ∈ t.held, y ∈ u.held ∨
    (y.state = .held ∧ ∃ es, (∀ e ∈ es, e ∈ u.held) ∧
      y.handle = handleFrom (u.free ++ slotsFreed es) (generationsAfter (slotsFreed es) u.generations))

theorem Records.Takes.refl (u : Records) : u.Takes u := ⟨fun _ h => .inl h, fun _ h => .inl h⟩

/-- A newcomer takes its slot; a record that has one keeps it. -/
theorem Records.mem_seat {u : Records} {n : Nat} {y : Record} (h : y ∈ (u.seat n).active) :
    y ∈ u.active ∨ ∃ x ∈ u.active, x.handle = none ∧ x.entered = n ∧ y = { x with handle := u.nextHandle } := by
  unfold Records.seat at h
  split at h
  case isFalse => exact .inl h
  case isTrue =>
    obtain ⟨x, hx, rfl⟩ := List.mem_map.mp h
    split
    case isFalse => exact .inl hx
    case isTrue new =>
      simp only [Bool.and_eq_true, beq_iff_eq, Option.isNone_iff_eq_none] at new
      exact .inr ⟨x, hx, new.2, new.1, rfl⟩

section
variable {s : State} {r : Record} (hs : s.records.Seated)
include hs

section
variable (hr : r.handle = none)
include hr

/-- An entering record leaves the held list as it was (R121). -/
theorem State.enterActive_held : (s.enterActive r).records.held = s.records.held := by
  obtain ⟨a, b, hp⟩ := s.records.exists_placed r
  have seated (n : Nat) (u : Records) : (u.seat n).held = u.held := by
    obtain ⟨active, free, h⟩ := u.seat_eq n
    rw [h]
  rw [State.enterActive_eq hp]
  refine (seated _ _).trans ?_
  rcases (s.onRecords (Records.entering (a ++ r.enteredAs s.records.entries :: b))).displace_cases with h | ⟨v, hv, h⟩ <;> rw [h]
  · rfl
  · exact List.filter_eq_self.mpr fun y hy => bne_iff_ne.mpr (Records.handles_apart hs hr hp _ v hv y hy)

theorem Records.Takes.enterActive : s.records.Takes (s.enterActive r).records where
  held y hy := .inl (State.enterActive_held hs hr ▸ hy)
  active y hy := by
    obtain ⟨a, b, hp⟩ := s.records.exists_placed r
    rw [State.enterActive_eq hp] at hy
    have around (x : Record) (hx : x ∈ a ++ r.enteredAs s.records.entries :: b) :
        x ∈ s.records.active ∨ x = r.enteredAs s.records.entries := by
      rw [hp.split]
      simp only [List.mem_append, List.mem_cons] at hx ⊢
      tauto
    have displaced (x : Record)
        (hx : x ∈ (s.onRecords (Records.entering (a ++ r.enteredAs s.records.entries :: b))).displace.records.active) :
        x ∈ a ++ r.enteredAs s.records.entries :: b := by
      rcases (s.onRecords (Records.entering (a ++ r.enteredAs s.records.entries :: b))).displace_cases with h | ⟨v, _, h⟩ <;>
        rw [h] at hx
      · exact hx
      · exact (List.mem_filter.mp hx).1
    rcases Records.mem_seat hy with h | ⟨x, hx, unnamed, entered, rfl⟩
    · exact (around y (displaced y h)).imp_right fun (e : y = _) => e ▸ ⟨rfl, rfl⟩
    · rcases around x (displaced x hx) with h | rfl
      · have := hs.handles x (List.mem_append_left _ h)
        simp [unnamed] at this
      · exact .inr ⟨rfl, rfl⟩
end

/-- A held record is no active one. -/
theorem Records.Seated.unlist_held {e : Record} (he : e ∈ s.records.held) : (s.records.unlist e).active = s.records.active := by
  have around := hs.distinct
  rw [List.map_append] at around
  exact List.filter_eq_self.mpr fun y hy => bne_iff_ne.mpr
    ((List.nodup_append.mp around).2.2 _ (List.mem_map_of_mem hy) _ (List.mem_map_of_mem he))

/-- A record to be held leaves the active list as it was. -/
theorem State.hold_active : (s.hold r).records.active = s.records.active := by
  rcases s.hold_cases r with h | h | ⟨e, he, h⟩ <;> rw [h]
  · rfl
  · rfl
  · exact hs.unlist_held he

theorem Records.Takes.hold : s.records.Takes (s.hold r).records where
  active y hy := .inl (State.hold_active hs ▸ hy)
  held y hy := by
    rcases s.hold_cases r with h | h | ⟨e, he, h⟩ <;> rw [h] at hy
    · rcases List.mem_append.mp hy with h | h
      · exact .inl h
      · obtain rfl := List.mem_singleton.mp h
        exact .inr ⟨rfl, [], by simp, by simp [slotsFreed, generationsAfter, Records.nextHandle, handleFrom]⟩
    · exact .inl hy
    · rcases List.mem_append.mp hy with h | h
      · exact .inl (List.mem_filter.mp h).1
      · obtain rfl := List.mem_singleton.mp h
        exact .inr ⟨rfl, [e], by simpa using he, rfl⟩

theorem Records.Takes.create (c : Context) (w : Window) : s.creating.records.Takes (s.create (c.alert w)).records := by
  have seated : (s.creating.judged (s.newRecord c w)).records.Seated := ⟨hs.handles, hs.distinct⟩
  cases hm : w.attrs.muted with
  | true =>
    rw [State.create_muted s c w hm]
    exact ⟨fun _ => .inl, fun _ => .inl⟩
  | false =>
    rw [State.create_unmuted s c w hm]
    split
    · obtain ⟨active, held⟩ := Records.Takes.enterActive (r := s.newRecord c w) seated rfl
      exact ⟨active, held⟩
    · obtain ⟨active, held⟩ := Records.Takes.hold (r := s.newRecord c w) seated
      exact ⟨active, held⟩
end

/-! ## Where the new record stands -/

theorem State.ended_joins (s : State) (code : Code) (rs : List Record) : SummariesJoin s (s.ended code rs) (rs.map (s.ending code)) :=
  ⟨rfl, by simp [State.ended]⟩

@[simp] theorem State.ended_displaced (s : State) (r : Record) :
    (s.ended .displaced [r]).records.counters.displaced = bump s.records.counters.displaced := bumpBy_one _

@[simp] theorem State.ended_outOfArea (s : State) (r : Record) :
    (s.ended .outOfArea [r]).records.counters.outOfArea = bump s.records.counters.outOfArea := bumpBy_one _

@[simp] theorem State.ended_muted (s : State) (r : Record) :
    (s.ended .muted [r]).records.counters.muted = bump s.records.counters.muted := bumpBy_one _

/-- Of the elements with a property one is the last. -/
theorem exists_last {α : Type} {p : α → Prop} {l : List α} (h : ∃ x ∈ l, p x) :
    ∃ a x b, l = a ++ x :: b ∧ p x ∧ ∀ y ∈ b, ¬ p y := by
  induction l with
  | nil => simp at h
  | cons y l ih =>
    by_cases later : ∃ x ∈ l, p x
    · obtain ⟨a, x, b, hl, hx, hb⟩ := ih later
      exact ⟨y :: a, x, b, by rw [hl]; rfl, hx, hb⟩
    · obtain ⟨x, hx, px⟩ := h
      obtain rfl | hx := List.mem_cons.mp hx
      · exact ⟨[], x, l, rfl, px, fun y hy py => later ⟨y, hy, py⟩⟩
      · exact absurd ⟨x, hx, px⟩ later

theorem State.enterActive_area (s : State) (r : Record) : (s.enterActive r).area = s.area := by
  unfold State.enterActive
  rcases State.displace_cases (s.onRecords fun x => { x.place (r.enteredAs s.records.entries) with entries := s.records.entries + 1 }) with
    h | ⟨v, _, h⟩ <;> exact (congrArg State.area h :)

theorem State.hold_areaIgnored (s : State) (r : Record) : (s.hold r).area.counters.areaIgnored = s.area.counters.areaIgnored := by
  rcases s.hold_cases r with h | h | ⟨e, _, h⟩ <;> rw [h] <;> rfl

section
variable {s : State} {r : Record} (hs : s.records.Seated) (hr : r.handle = none)
include hs hr

/-- A full active list loses one of the seventeen (R121). -/
theorem State.enterActive_displaces (full : s.records.capacity ≤ s.records.active.length) :
    (s.enterActive r).records.counters.displaced = bump s.records.counters.displaced := by
  obtain ⟨a, b, hp⟩ := s.records.exists_placed r
  obtain ⟨before, v, after, split, waits, last⟩ := exists_last (p := fun x : Record => x.state ≠ .delivering)
    (l := a ++ r.enteredAs s.records.entries :: b) ⟨r.enteredAs s.records.entries, by simp, by simp [Record.enteredAs]⟩
  rw [State.enterActive_of_full hs hr hp full split waits fun y hy => Decidable.not_not.mp (last y hy)]
  obtain ⟨active, free, seated⟩ := Records.seat_eq s.records.entries
    ((s.onRecords (Records.entering (before ++ after))).ended .displaced [v]).records
  rw [State.onRecords_eq seated]
  exact State.ended_displaced _ v

/-- Where a record presented stands (R118, R120, R121). -/
theorem State.enterActive_stands {a b : List Record} (hl : s.records.active = a ++ b)
    (ha : ∀ x ∈ a, x.attrs.cls.rank ≤ r.attrs.cls.rank) (hb : ∀ x ∈ b, r.attrs.cls.rank < x.attrs.cls.rank) :
    (s.records.active.length < s.records.capacity →
      (s.enterActive r).records.active =
        a ++ { r with state := .waiting, handle := handleFrom s.records.free s.records.generations, entered := s.records.entries } :: b ∧
      (s.enterActive r).records.free = s.records.free.drop 1 ∧ (s.enterActive r).records.generations = s.records.generations ∧
      (s.enterActive r).report = s.report ∧
      (s.enterActive r).records.counters.displaced = s.records.counters.displaced) ∧
    (s.records.active.length = s.records.capacity →
      (s.enterActive r).records.counters.displaced = bump s.records.counters.displaced ∧
      ((∀ x ∈ b, x.state = .delivering) →
        (s.enterActive r).records.active = s.records.active ∧ (s.enterActive r).records.free = s.records.free ∧
        (s.enterActive r).records.generations = s.records.generations ∧
        SummariesJoin s (s.enterActive r) [⟨s.summaryOf r .displaced, r.attrs.reportDelay⟩]) ∧
      ∀ between x last h, b = between ++ x :: last → x.state ≠ .delivering → (∀ y ∈ last, y.state = .delivering) →
          x.handle = some h →
        (s.enterActive r).records.free = (s.records.free ++ [h.slot]).drop 1 ∧
        (s.enterActive r).records.generations = s.records.generations.modify h.slot (· + 1) ∧
        (s.enterActive r).records.active = a ++
          { r with
            state := .waiting
            handle := handleFrom (s.records.free ++ [h.slot]) (s.records.generations.modify h.slot (· + 1))
            entered := s.records.entries } :: (between ++ last) ∧
        SummariesJoin s (s.enterActive r) [⟨s.summaryOf x .displaced, x.attrs.reportDelay⟩]) := by
  have hp := Records.placed_of_ranks hl ha hb
  refine ⟨fun room => ?_, fun full => ⟨State.enterActive_displaces hs hr full.ge, fun all => ?_,
    fun between x last h hx waits rest named => ?_⟩⟩
  · rw [State.enterActive_of_room hs hr hp room]
    exact ⟨rfl, rfl, rfl, rfl, rfl⟩
  · rw [State.enterActive_displaced hs hr hp full.ge all]
    have unnamed : slotsFreed [r.enteredAs s.records.entries] = [] := by simp [slotsFreed, Record.enteredAs, hr]
    have joins := (s.onRecords (Records.entering s.records.active)).ended_joins .displaced [r.enteredAs s.records.entries]
    refine ⟨rfl, ?_, ?_, joins⟩
    · simp [State.ended, unnamed, Records.entering]
    · simp [State.ended, unnamed, Records.entering, generationsAfter]
  · have slot : slotsFreed [x] = [h.slot] := by simp [slotsFreed, named]
    have joins := s.ended_joins .displaced [x]
    rw [State.enterActive_displacing hs hr hp full.ge hx waits rest]
    refine ⟨?_, ?_, ?_, joins⟩ <;> simp [State.ended, slot, generationsAfter, Records.nextHandle, handleFrom, Record.enteredAs]
end

/-- Where a record to be held stands (R107, R108). -/
theorem State.hold_stands {s : State} (hs : s.records.Seated) {r : Record} (hr : r.handle = none) :
    (s.records.held.length < 8 →
      (s.hold r).records.held =
        s.records.held ++ [{ r with handle := handleFrom s.records.free s.records.generations, state := .held }] ∧
      (s.hold r).records.free = s.records.free.drop 1 ∧ (s.hold r).records.generations = s.records.generations ∧
      (s.hold r).report = s.report ∧ (s.hold r).area.counters.recordsHeld = bump s.area.counters.recordsHeld) ∧
    ∀ before e after h, s.records.held.length = 8 → s.records.held = before ++ e :: after → e.handle = some h →
        (∀ x ∈ before, e.lifetimeEnd.toNat < x.lifetimeEnd.toNat) → (∀ x ∈ after, e.lifetimeEnd.toNat ≤ x.lifetimeEnd.toNat) →
      (s.hold r).area.counters.heldOverflow = bump s.area.counters.heldOverflow ∧
      (s.hold r).records.counters.outOfArea = bump s.records.counters.outOfArea ∧
      (r.lifetimeEnd.toNat ≤ e.lifetimeEnd.toNat →
        (s.hold r).records.held = s.records.held ∧ (s.hold r).records.free = s.records.free ∧
        (s.hold r).records.generations = s.records.generations ∧
        (s.hold r).area.counters.recordsHeld = s.area.counters.recordsHeld ∧
        SummariesJoin s (s.hold r) [⟨s.summaryOf r .outOfArea, r.attrs.reportDelay⟩]) ∧
      (e.lifetimeEnd.toNat < r.lifetimeEnd.toNat →
        (s.hold r).records.free = (s.records.free ++ [h.slot]).drop 1 ∧
        (s.hold r).records.generations = s.records.generations.modify h.slot (· + 1) ∧
        (s.hold r).records.held = before ++ after ++
          [{ r with
            handle := handleFrom (s.records.free ++ [h.slot]) (s.records.generations.modify h.slot (· + 1)), state := .held }] ∧
        (s.hold r).area.counters.recordsHeld = bump s.area.counters.recordsHeld ∧
        SummariesJoin s (s.hold r) [⟨s.summaryOf e .outOfArea, e.attrs.reportDelay⟩]) := by
  refine ⟨fun room => ?_, fun before e after h full hl named hb ha => ?_⟩
  · rw [State.hold_of_room r room]
    exact ⟨rfl, rfl, rfl, rfl, rfl⟩
  · have he := Records.earliestHeld_of_split hl hb ha
    by_cases first : r.lifetimeEnd.toNat ≤ e.lifetimeEnd.toNat
    · have unnamed : slotsFreed [r] = [] := by simp [slotsFreed, hr]
      have joins := s.overflowed.ended_joins .outOfArea [r]
      rw [State.hold_refused full.ge he first]
      refine ⟨rfl, State.ended_outOfArea _ r, fun _ => ⟨rfl, ?_, ?_, rfl, joins⟩, fun later => absurd later (Nat.not_lt.mpr first)⟩
      · simp [State.ended, unnamed, State.overflowed, State.countArea]
      · simp [State.ended, unnamed, State.overflowed, State.countArea, generationsAfter]
    · have slot : slotsFreed [e] = [h.slot] := by simp [slotsFreed, named]
      have joins := (s.onRecords fun u => { u with held := before ++ after }).ended_joins .outOfArea [e]
      rw [State.hold_replacing full.ge he hs hl (Nat.not_le.mp first)]
      refine ⟨rfl, State.ended_outOfArea _ e, fun le => absurd le first, fun _ => ?_⟩
      simp only [State.ended, slot] at joins ⊢
      exact ⟨rfl, rfl, rfl, rfl, joins⟩

/-- What becomes of a new record (R104, R107, R108, R117, R118, R120, R121), as the statements say it. -/
theorem State.create_stands {s : State} (hs : s.records.Seated) (c : Context) (w : Window) :
    NewRecordStands s.creating (s.create (c.alert w)) w (s.newRecord c w) := by
  have received := State.Received.create s c w
  have seated : (s.creating.judged (s.newRecord c w)).records.Seated := ⟨hs.handles, hs.distinct⟩
  have unnamed : (s.newRecord c w).handle = none := rfl
  refine ⟨received.latched, received.delivery, ?_⟩
  cases hm : w.attrs.muted with
  | true =>
    refine ⟨fun _ => ?_, nofun, nofun, nofun⟩
    rw [State.create_muted s c w hm]
    have unslotted : slotsFreed [{ s.newRecord c w with verdict := none }] = [] := rfl
    refine ⟨rfl, rfl, rfl, ?_, ?_, State.ended_muted _ _, s.creating.ended_joins .muted [{ s.newRecord c w with verdict := none }]⟩ <;>
      simp [State.ended, unslotted, generationsAfter]
  | false =>
    have wide := areaIgnored_iff (s.newRecord c w).area
    have shown := (s.area.position.verdict c.trailer).presents_iff w.attrs
    rw [State.create_unmuted s c w hm]
    refine ⟨nofun, fun _ => ?_, fun _ hidden => ?_, fun _ presented => ?_⟩
    · have counted : ∀ t, (t = (s.creating.judged (s.newRecord c w)).enterActive (s.newRecord c w) ∨
          t = (s.creating.judged (s.newRecord c w)).hold (s.newRecord c w)) →
          t.area.counters.areaIgnored = (s.creating.judged (s.newRecord c w)).area.counters.areaIgnored := by
        rintro t (rfl | rfl)
        · rw [State.enterActive_area]
        · exact State.hold_areaIgnored _ _
      rw [counted _ (by split <;> simp)]
      exact ⟨fun h => if_pos (wide.mpr h), fun h => if_neg fun i => h (wide.mp i)⟩
    · rw [if_neg fun h => hidden (shown.mp h)]
      exact ⟨State.hold_active seated, State.hold_stands seated unnamed⟩
    · rw [if_pos (shown.mpr presented)]
      refine ⟨State.enterActive_held seated unnamed, ?_, fun a b hl ha hb => State.enterActive_stands seated unnamed hl ha hb⟩
      rw [State.enterActive_area]
      rfl

end Sys2Proof.Machine
end

section
/-!
PROOFS. The history index takes a notice (R75 to R77, R85, R86): an entry put and its key offered, an entry evicted for it, and each
resolution of a notice as one equation.
-/

namespace Sys2Proof.Machine

/-! ## An entry created or changed (R75, R87, R176) -/

/-- The state with an entry put, before its key is offered. -/
def State.afterPut (f : EntryFields) (s : State) : State := (s.onIndex (Index.put f)).onStore (Store.touch f.key)

theorem State.putEntry_eq (f : EntryFields) (s : State) :
    s.putEntry f = (s.afterPut f).afterOffers ((s.afterPut f).store.newKeys [f.key]) :=
  State.offerAll_eq (List.nodup_singleton _) _

theorem Index.put_of_absent {x : Index} {f : EntryFields} (h : x.find f.key = none) :
    x.put f = { x with entries := x.entries ++ [{ fields := f, persisted := false, location := none }] } := by
  simp [Index.put, h]

theorem Index.put_of_present {x : Index} {f : EntryFields} {e : Entry} (h : x.find f.key = some e) :
    x.put f =
      { x with entries := x.entries.map fun y => if y.fields.key = f.key then { y with fields := f, persisted := false } else y } := by
  simp [Index.put, h]

theorem Index.put_counters (x : Index) (f : EntryFields) : (x.put f).counters = x.counters := by
  unfold Index.put
  split <;> rfl

theorem State.putEntry_entries (f : EntryFields) (s : State) : (s.putEntry f).index.entries = (s.index.put f).entries := by
  rw [State.putEntry_eq]
  rfl

/-- Of the counters an entry put changes that of the deferred writes at most. -/
theorem State.putEntry_counters (f : EntryFields) (s : State) :
    ∃ deferrals, (s.putEntry f).index.counters = { s.index.counters with writeDeferrals := deferrals } := by
  rw [State.putEntry_eq]
  exact ⟨_, by rw [← Index.put_counters s.index f]; rfl⟩

theorem OnlyChanges.putEntry (f : EntryFields) (s : State) : OnlyChanges [.index, .store, .outputs] s (s.putEntry f) := by
  rw [State.putEntry_eq]
  have put : OnlyChanges [.index, .store, .outputs] s (s.afterPut f) :=
    (OnlyChanges.onIndex s _).andThen (.onStore _ _) (by simp) (by simp)
  have offered : ∀ u : State, ∀ new, OnlyChanges [.index, .store, .outputs] u (u.afterOffers new) := by
    intro u new x hx
    cases x <;> simp_all [Piece.same, State.afterOffers]
  exact put.trans (offered _ _)

theorem Running.forget_nothing (x : Running) : x.forget (fun _ => false) = x := by
  cases x <;> simp [Running.forget]

/-- An entry put after others were removed, as the statements say it. -/
theorem EntriesPut.of_putEntry {s u t : State} {gone : Key → Bool} {f : EntryFields} (ram : u.store.ramOnly = s.store.ramOnly)
    (running : u.store.running = s.store.running.map (Running.forget gone))
    (deferrals : u.index.counters.writeDeferrals = s.index.counters.writeDeferrals)
    (writes : t.store.writes = (u.putEntry f).store.writes) (program : t.store.running = (u.putEntry f).store.running)
    (counted : t.index.counters.writeDeferrals = (u.putEntry f).index.counters.writeDeferrals) :
    EntriesPut s t gone u.store.writes [f.key] := by
  rw [State.putEntry_eq] at writes program counted
  refine ⟨KeysOffered.of_offers (u := u.afterPut f) ram ?_ writes counted, ?_⟩
  · exact (congrArg HistoryCounters.writeDeferrals (Index.put_counters u.index f)).trans deferrals
  · have touched : t.store.running = u.store.running.map (Running.touch f.key) := program
    rw [touched, running, Option.map_map]
    congr 1
    funext x
    cases x with
    | slotProgram w => simp [Running.touch, Running.forget, beq_eq_decide]
    | _ => rfl

/-! ## Eviction (R85, R86, R88) -/

theorem State.sweepUnpersisted_eq (s : State) :
    s.sweepUnpersisted = s.onStore fun x => { x with writes := sweptList s.store.ramOnly s.index.entries x.writes } := by
  have idle : (s.store.ramOnly || decide (s.store.writes.length ≥ Config.writeListCapacity)) = true ↔
      s.store.ramOnly = true ∨ 16 ≤ s.store.writes.length := by simp [Config.writeListCapacity]
  unfold State.sweepUnpersisted sweptList State.onStore
  by_cases stop : s.store.ramOnly = true ∨ 16 ≤ s.store.writes.length
  · simp only [if_pos stop, if_pos (idle.mpr stop)]
  · simp only [if_neg stop, if_neg fun h => stop (idle.mp h)]
    cases s.index.entries.find? fun e => !e.persisted && !s.store.writes.contains e.fields.key <;> rfl

/-- The state once the entry of a key has been evicted, and these are left. -/
def State.evicting (s : State) (k : Key) (left : List Entry) : State :=
  { s with
    index :=
      { s.index with
        entries := left
        counters := { s.index.counters with indexEvictions := bump s.index.counters.indexEvictions } }
    store := { s.store.forget (· == k) with writes := s.writesWithout k left } }

section
variable {s : State} {before after : List Entry} {e : Entry} (hn : (s.index.entries.map fun x => x.fields.key).Nodup)
  (split : s.index.entries = before ++ e :: after)
include hn split

/-- The entry left out of a full index for a new one, and what its removal brings (R86, R88, R178). -/
theorem State.makeRoom_evicts (full : 160 ≤ s.index.entries.length) (unnamed : s.named e.fields.key = false)
    (hb : ∀ x ∈ before, s.named x.fields.key = false → e.evictedBefore x = true)
    (ha : ∀ x ∈ after, s.named x.fields.key = false → x.evictedBefore e = false) :
    s.makeRoom = s.evicting e.fields.key (before ++ after) := by
  have victim : s.evictionVictim = some e := by
    unfold State.evictionVictim
    rw [split, List.filter_append, List.filter_cons_of_pos (by simp [unnamed])]
    refine least_of_split (fun x hx => ?_) fun x hx => ?_
    · obtain ⟨mem, free⟩ := List.mem_filter.mp hx
      exact hb x mem (by simpa using free)
    · obtain ⟨mem, free⟩ := List.mem_filter.mp hx
      exact ha x mem (by simpa using free)
  have left : (s.index.entries.filter fun x => x.fields.key != e.fields.key) = before ++ after := by
    rw [split] at hn ⊢
    exact filter_ne_of_nodup hn
  have noRoom : ¬ s.index.entries.length < Config.indexCapacity := Nat.not_lt.mpr full
  unfold State.makeRoom
  rw [if_neg noRoom, victim]
  simp only [State.removeEntry, State.onIndex, State.onStore, State.countHistory, left, State.afterRemovals, State.sweepUnpersisted_eq,
    State.evicting, State.writesWithout, Store.forget]
  cases hr : s.store.retry with
  | none => simp [bne]
  | some k =>
    by_cases same : k = e.fields.key
    · simp [same, bne]
    · simp [same, bne]
end

/-- The key of an entry evicted is on the pending write list no more. -/
theorem State.evicted_not_mem_writes {s : State} {entries : List Entry} {k : Key} (h : ∀ x ∈ entries, x.fields.key ≠ k) :
    k ∉ s.writesWithout k entries := by
  have left : k ∉ s.store.writes.filter fun x => x != k := by simp
  unfold State.writesWithout sweptList
  dsimp only
  split
  case isFalse => exact left
  case isTrue =>
    split
    · exact left
    · split
      · next e he =>
        have := h e (List.mem_of_find?_eq_some he)
        simp only [List.mem_append, List.mem_singleton]
        exact not_or_intro left this.symm
      · exact left

/-! ## The resolution of a notice (R76, R77) -/

section
variable {s : State} {k : Key} {r : BitVec 4}

theorem State.takeNotice_new (h : s.index.find k = none) (horizon : Nat) :
    s.takeNotice k r horizon =
      (s.makeRoom.putEntry (s.time.stamp k r .noticeSeen horizon)).countHistory fun c => { c with noticesNew := bump c.noticesNew } := by
  have new : s.index.resolveNotice k r = .new := by simp [Index.resolveNotice, h]
  unfold State.takeNotice
  rw [new]

/-- A newer revision, of an alert seen or of one withdrawn. -/
theorem State.takeNotice_newer {e : Entry} (h : s.index.find k = some e) (hr : newerRevision r e.fields.revision = true) (horizon : Nat) :
    s.takeNotice k r horizon =
      ((s.endKey .superseded k).putEntry (s.time.stamp k r .noticeSeen horizon)).countHistory fun c =>
        { c with
          noticesNewer := if e.fields.state = .noticeSeen then bump c.noticesNewer else c.noticesNewer
          noticesReissued := if e.fields.state = .withdrawn then bump c.noticesReissued else c.noticesReissued } := by
  unfold State.takeNotice
  cases hs : e.fields.state with
  | noticeSeen =>
    have newer : s.index.resolveNotice k r = .newer := by simp [Index.resolveNotice, h, hr, hs]
    rw [newer]
    rfl
  | withdrawn =>
    have reissue : s.index.resolveNotice k r = .reissue := by simp [Index.resolveNotice, h, hr, hs]
    rw [reissue]
    rfl
end

end Sys2Proof.Machine
end

section
/-!
PROOFS. A completion settled by the window table and the index as they stand (R36, R58, R76, R77): without a record, with a new entry and
record, and with those of a newer revision.
-/

namespace Sys2Proof.Machine

/-! ## Frames -/

theorem State.Received.onlyChanges {s t : State} (h : s.Received t) : OnlyChanges [.area, .records, .report] s t := by
  intro x hx
  rw [h.rest]
  cases x <;> simp_all [Piece.same]

theorem State.Received.index {s t : State} (h : s.Received t) : t.index = s.index := (congrArg State.index h.rest :)

theorem State.Received.store {s t : State} (h : s.Received t) : t.store = s.store := (congrArg State.store h.rest :)

theorem State.Received.intake {s t : State} (h : s.Received t) : t.intake = s.intake := (congrArg State.intake h.rest :)

theorem OnlyChanges.countHistory (s : State) (f : HistoryCounters → HistoryCounters) : OnlyChanges [.index] s (s.countHistory f) :=
  .onIndex s _

theorem OnlyChanges.makeRoom (s : State) : OnlyChanges [.index, .store, .outputs] s s.makeRoom := by
  have removed (k : Key) (f : HistoryCounters → HistoryCounters) :
      OnlyChanges [.index, .store, .outputs] s ((s.removeEntry k).countHistory f) :=
    ((OnlyChanges.onIndex s _).andThen (zs := [.index, .store, .outputs]) (.onStore _ _) (by simp) (by simp)).trans
      ((OnlyChanges.countHistory _ f).mono (by simp))
  have swept (u : State) (due : Option Key) : OnlyChanges [.index, .store, .outputs] u (u.afterRemovals due) := by
    rcases u.afterRemovals_cases due with ⟨_, _, h⟩ | ⟨_, h⟩ <;> rw [h]
    · rw [State.sweepUnpersisted_eq]
      exact (OnlyChanges.onStore u _).mono (by simp)
    · exact .refl _ u
  unfold State.makeRoom
  split
  · exact .refl _ s
  · split
    · exact (removed _ _).trans (swept _ _)
    · exact .refl _ s

/-! ## The settling of a completion (R58) -/

/-- The state in which the completion that waited is settled. -/
def State.settling (s : State) : State := s.onIntake fun i => { i with completing := none }

/-- The state after a settled completion has become a record, from the one its resolution has left. -/
def State.settledWith (n : Nat) (c : Context) (w : Window) (v : State) : State :=
  ((v.create (c.alert w)).setContext n none).settle

section
variable {s : State} {n : Nat} {c : Context} (hp : s.powered = true) (hs : s.scanning = false) (hc : s.intake.completing = some n)
  (hn : s.intake.contexts[n]? = some (some c))
include hp hs hc hn

theorem exec_takeFragment_settles (interrupted : Bool) :
    exec (.takeFragment interrupted) s = .next (State.settleCompletion n c s.settling).settle := by
  have at_n : s.intake.contexts.getD n none = some c := by rw [List.getD_eq_getElem?_getD, hn]; rfl
  have finished : s.finishCompletion = State.settleCompletion n c s.settling := by
    simp only [State.finishCompletion, hc, State.onIntake_intake, at_n]
    rfl
  have he : exec (.takeFragment interrupted) s = s.occur (!s.scanning) State.finishCompletion := by
    simp [exec, execTakeFragment, hc]
  rw [he, State.occur_of_ready hp (by simp [hs]), finished]

/-- A completion that is only counted (R58). -/
theorem exec_takeFragment_dismissed (interrupted : Bool) (count : IntakeCounters → IntakeCounters)
    (hd : State.settleCompletion n c s.settling = (s.settling.countIntake count).setContext n none) :
    ∃ t, exec (.takeFragment interrupted) s = .next t ∧ OnlyChanges [.intake, .outputs] s t ∧
      t.intake =
        { s.intake with
          completing := none, contexts := s.intake.contexts.set n none, counters := count s.intake.counters } := by
  refine ⟨_, exec_takeFragment_settles hp hs hc hn interrupted, ?_⟩
  rw [hd]
  exact ⟨(((OnlyChanges.onIntake s _).trans (.onIntake _ _)).trans (.onIntake _ _) |>.mono (by simp)).settled (by simp), rfl⟩

/-- A completion that becomes a record. -/
theorem exec_takeFragment_becomes {w : Window} (hw : s.windows.classify c.key.stream = some w)
    (hd : s.index.resolveNotice c.key c.revision ≠ .duplicate) (interrupted : Bool) :
    exec (.takeFragment interrupted) s = .next (State.settledWith n c w (s.settling.takeNotice c.key c.revision w.horizon)) := by
  have becomes : State.settleCompletion n c s.settling =
      ((s.settling.takeNotice c.key c.revision w.horizon).create (c.alert w)).setContext n none := by
    have same : s.settling.windows.classify c.key.stream = some w := hw
    unfold State.settleCompletion
    rw [same]
    dsimp only
    split
    · next h => exact absurd h hd
    · rfl
  rw [exec_takeFragment_settles hp hs hc hn interrupted, becomes]
  rfl
end

section
variable {s v : State} (n : Nat) (c : Context) (w : Window)

/-- What the settling of a completion changes. -/
theorem State.settledWith_onlyChanges (h : OnlyChanges [.index, .records, .report, .store, .outputs] s.settling v) :
    OnlyChanges [.intake, .index, .area, .records, .report, .store, .outputs] s (v.settledWith n c w) := by
  have settling : OnlyChanges [.intake, .index, .area, .records, .report, .store, .outputs] s s.settling :=
    (OnlyChanges.onIntake s _).mono (by simp)
  have creating : OnlyChanges [.intake, .index, .area, .records, .report, .store, .outputs] v v.creating :=
    (OnlyChanges.onRecords v _).mono (by simp)
  have created := (State.Received.create v c w).onlyChanges.mono
    (ys := [.intake, .index, .area, .records, .report, .store, .outputs]) (by simp)
  exact ((((settling.trans (h.mono (by simp))).trans creating).trans created).trans ((OnlyChanges.onIntake _ _).mono (by simp))).settled
    (by simp)

theorem State.settledWith_intake (h : OnlyChanges [.index, .records, .report, .store, .outputs] s.settling v) :
    (v.settledWith n c w).intake = { s.intake with completing := none, contexts := s.intake.contexts.set n none } := by
  have stood : v.intake = s.settling.intake := h .intake (by simp)
  have kept : (v.create (c.alert w)).intake = s.settling.intake :=
    (State.Received.create v c w).intake.trans stood
  exact congrArg (fun i : Intake => { i with contexts := i.contexts.set n none }) kept

theorem State.settledWith_index : (v.settledWith n c w).index = v.index := (State.Received.create v c w).index

theorem State.settledWith_writes : (v.settledWith n c w).store.writes = v.store.writes :=
  (congrArg Store.writes (State.Received.create v c w).store :)

theorem State.settledWith_running : (v.settledWith n c w).store.running = v.store.running :=
  (congrArg Store.running (State.Received.create v c w).store :)

theorem State.settledWith_position : (v.settledWith n c w).area.position = v.area.position := (State.Received.create v c w).position

theorem State.settledWith_created : (v.settledWith n c w).records.counters.created = bump v.records.counters.created :=
  (State.Received.create v c w).created

theorem State.settledWith_muted (hm : w.attrs.muted = true) :
    (v.settledWith n c w).records.active = v.records.active ∧ (v.settledWith n c w).records.held = v.records.held ∧
      (v.settledWith n c w).records.counters.muted = bump v.records.counters.muted := by
  have muted := State.create_muted v c w hm
  unfold State.settledWith
  rw [muted]
  exact ⟨rfl, rfl, State.ended_muted v.creating _⟩
end

/-! ## A new notice (R76) -/

/-- The state once a new entry has been put, from the one in which room had been made for it. -/
def State.noticed (s u : State) (c : Context) (w : Window) : State :=
  (u.putEntry (s.time.stamp c.key c.revision .noticeSeen w.horizon)).countHistory fun k => { k with noticesNew := bump k.noticesNew }

section
variable {s u : State} (n : Nat) {c : Context} (w : Window) (h : OnlyChanges [.index, .store, .outputs] s.settling u)
include h

theorem State.noticed_onlyChanges : OnlyChanges [.index, .store, .outputs] s.settling (s.noticed u c w) :=
  (h.trans (.putEntry _ u)).trans ((OnlyChanges.countHistory _ _).mono (by simp))

/-- The entry of a new notice, and the record the alert becomes. -/
theorem State.noticed_settled (absent : u.index.find c.key = none) :
    OnlyChanges [.intake, .index, .area, .records, .report, .store, .outputs] s ((s.noticed u c w).settledWith n c w) ∧
    ((s.noticed u c w).settledWith n c w).intake = { s.intake with completing := none, contexts := s.intake.contexts.set n none } ∧
    ((s.noticed u c w).settledWith n c w).index.entries =
      u.index.entries ++ [{ fields := s.time.stamp c.key c.revision .noticeSeen w.horizon, persisted := false, location := none }] ∧
    ((s.noticed u c w).settledWith n c w).area.position = s.area.position ∧
    ((s.noticed u c w).settledWith n c w).records.counters.created = bump s.records.counters.created ∧
    (w.attrs.muted = true →
      ((s.noticed u c w).settledWith n c w).records.active = s.records.active ∧
      ((s.noticed u c w).settledWith n c w).records.held = s.records.held ∧
      ((s.noticed u c w).settledWith n c w).records.counters.muted = bump s.records.counters.muted) := by
  have frame := State.noticed_onlyChanges (c := c) w h
  have area : (s.noticed u c w).area = s.area := frame .area (by simp)
  have records : (s.noticed u c w).records = s.records := frame .records (by simp)
  have put := congrArg Index.entries (Index.put_of_absent (f := s.time.stamp c.key c.revision .noticeSeen w.horizon) absent)
  have entries : (s.noticed u c w).index.entries = _ := (State.putEntry_entries _ u).trans put
  refine ⟨State.settledWith_onlyChanges n c w (frame.mono (by simp)), State.settledWith_intake n c w (frame.mono (by simp)),
    ?_, ?_, ?_, ?_⟩
  · rw [State.settledWith_index, entries]
  · rw [State.settledWith_position, area]
  · rw [State.settledWith_created, records]
  · rw [← records]
    exact State.settledWith_muted n c w
end

/-! ## A newer revision (R77, R82) -/

/-- The generation of a slot that has been freed some times (R115). -/
theorem generationsAfter_getD {slots : List Nat} {generations : List Byte} {k : Nat} (hk : k < generations.length) :
    (generationsAfter slots generations).getD k 0 = generations.getD k 0 + BitVec.ofNat 8 (slots.count k) := by
  induction slots generalizing generations with
  | nil => simp [generationsAfter]
  | cons n slots ih =>
    have step : generationsAfter (n :: slots) generations = generationsAfter slots (generations.modify n (· + 1)) := rfl
    rw [step, ih (by simpa using hk)]
    by_cases same : n = k
    · subst same
      simp [List.getD_eq_getElem?_getD, hk, BitVec.ofNat_add]
      ring
    · simp [List.getD_eq_getElem?_getD, same, hk]

section
variable {u : Records} (hu : u.Ordered)
include hu

/-- The slot of a listed record. -/
theorem Records.Ordered.slot_lt {x : Record} {h : Handle} (hx : x ∈ u.live) (hh : x.handle = some h) : h.slot < 24 :=
  List.mem_range.mp (hu.slots.mem_iff.mp (List.mem_append_right _ (List.mem_filterMap.mpr ⟨x, hx, by simp [hh]⟩)))

/-- The slots of some listed records, each freed once. -/
theorem Records.Ordered.count_slotsFreed {rs : List Record} (hr : rs.Sublist u.live) {x : Record} {h : Handle} (hx : x ∈ rs)
    (hh : x.handle = some h) : (slotsFreed rs).count h.slot = 1 := by
  have taken : (u.live.filterMap fun x => x.handle.map Handle.slot).Nodup :=
    (hu.slots.nodup_iff.mpr List.nodup_range).of_append_right
  exact List.count_eq_one_of_mem (taken.sublist (hr.filterMap _)) (List.mem_filterMap.mpr ⟨x, hx, by simp [hh]⟩)

/-- Two live records have two slots. -/
theorem Records.Ordered.eq_of_slot {x y : Record} (hx : x ∈ u.live) (hy : y ∈ u.live)
    (h : x.handle.map Handle.slot = y.handle.map Handle.slot) : x = y :=
  List.inj_on_of_nodup_map hu.slots_nodup hx hy h

/-- A record that has been superseded stands on no list again: one of its handle would have the next generation, and one without a handle of
its own would be newer. -/
theorem Records.Ordered.superseded_gone {m t : Records} {k : Key} (active : m.active = u.active.filter fun x => x.key ≠ k)
    (held : m.held = u.held.filter fun x => x.key ≠ k)
    (generations : m.generations = generationsAfter (slotsFreed (u.toEnd k)) u.generations) (entries : m.entries = u.entries)
    (takes : m.Takes t) : ∀ x ∈ u.active ++ u.held, x.key = k → x ∉ t.active ++ t.held := by
  intro x hx key ht
  have live : x ∈ u.live := List.mem_append_left _ hx
  rcases List.mem_append.mp ht with ht | ht
  · rcases takes.active x ht with stood | ⟨waiting, entered⟩
    · rw [active] at stood
      simpa [key] using (List.mem_filter.mp stood).2
    · rcases List.mem_append.mp hx with hx | hx
      · have := hu.entered x hx
        omega
      · have := (hu.heldStates x hx).1
        simp [waiting] at this
  · rcases takes.held x ht with stood | ⟨state, es, hes, named⟩
    · rw [held] at stood
      simpa [key] using (List.mem_filter.mp stood).2
    · obtain ⟨h, hh⟩ := Option.isSome_iff_exists.mp (hu.handles x live)
      have ending : x ∈ u.toEnd k := List.mem_filter.mpr ⟨hx, by simp [key, state]⟩
      have listed : (u.toEnd k).Sublist u.live := List.filter_sublist.trans (List.sublist_append_left _ _)
      have once := hu.count_slotsFreed listed ending hh
      have never : (slotsFreed es).count h.slot = 0 := by
        refine List.count_eq_zero.mpr fun freed => ?_
        obtain ⟨e, he, slot⟩ := List.mem_filterMap.mp freed
        have stood := hes e he
        rw [held] at stood
        obtain ⟨he, other⟩ := List.mem_filter.mp stood
        have same := hu.eq_of_slot (List.mem_append_left _ (List.mem_append_right _ he)) live (by simp [slot, hh])
        simp [same, key] at other
      have generation := hu.generations.2 x live h hh
      have inRange : h.slot < u.generations.length := by rw [hu.generations.1]; exact hu.slot_lt live hh
      have appended : generationsAfter (slotsFreed es) (generationsAfter (slotsFreed (u.toEnd k)) u.generations) =
          generationsAfter (slotsFreed (u.toEnd k) ++ slotsFreed es) u.generations := by
        simp [generationsAfter, List.foldl_append]
      rw [hh, handleFrom, generations, appended] at named
      obtain ⟨slot, -, same⟩ := Option.map_eq_some_iff.mp named.symm
      have next := congrArg Handle.generation same
      have slots := congrArg Handle.slot same
      dsimp only at next slots
      rw [slots, generationsAfter_getD inRange, generation, List.count_append, once, never] at next
      bv_omega
end

/-- The state once the records that a newer revision supersedes have ended. -/
def State.superseding (s : State) (k : Key) : State :=
  (s.onRecords fun u => u.without .superseded k).ended .superseded (s.records.toEnd k)

/-- The state once the entry of a newer revision has been put. -/
def State.renewed (s : State) (c : Context) (w : Window) (was : EntryState) : State :=
  ((s.settling.superseding c.key).putEntry (s.time.stamp c.key c.revision .noticeSeen w.horizon)).countHistory fun k =>
    { k with
      noticesNewer := if was = .noticeSeen then bump k.noticesNewer else k.noticesNewer
      noticesReissued := if was = .withdrawn then bump k.noticesReissued else k.noticesReissued }

theorem Records.Seated.filter {u m : Records} (hu : u.Seated) {p : Record → Bool} (active : m.active = u.active.filter p)
    (held : m.held = u.held.filter p) : m.Seated where
  handles x hx := by
    rw [active, held, ← List.filter_append] at hx
    exact hu.handles x (List.mem_filter.mp hx).1
  distinct := by
    rw [active, held, ← List.filter_append]
    exact hu.distinct.sublist (List.filter_sublist.map _)

section
variable {s : State} {n : Nat} {c : Context} {w : Window} (was : EntryState)

theorem State.renewed_put :
    OnlyChanges [.index, .store, .outputs] (s.settling.superseding c.key) (s.renewed c w was) :=
  (OnlyChanges.putEntry _ _).trans ((OnlyChanges.countHistory _ _).mono (by simp))

theorem State.renewed_onlyChanges : OnlyChanges [.index, .records, .report, .store, .outputs] s.settling (s.renewed c w was) := by
  have superseding : OnlyChanges [.index, .records, .report, .store, .outputs] s.settling (s.settling.superseding c.key) := by
    intro x hx
    cases x <;> simp_all [Piece.same, State.superseding, State.ended]
  exact superseding.trans ((State.renewed_put was).mono (by simp))

theorem State.renewed_entries {e : Entry} (he : s.index.find c.key = some e) :
    (s.renewed c w was).index.entries = s.index.entries.map fun x =>
      if x.fields.key = c.key then
        { x with fields := s.time.stamp c.key c.revision .noticeSeen w.horizon, persisted := false }
      else x :=
  (State.putEntry_entries _ _).trans
    (congrArg Index.entries (Index.put_of_present (f := s.time.stamp c.key c.revision .noticeSeen w.horizon) he))

/-- The record unit in which the record of a newer revision is created. -/
theorem State.renewed_records : (s.renewed c w was).records = (s.settling.superseding c.key).records :=
  State.renewed_put was .records (by simp)

theorem State.renewed_report : (s.renewed c w was).report = (s.settling.superseding c.key).report :=
  State.renewed_put was .report (by simp)

theorem State.renewed_area : (s.renewed c w was).area = s.area := State.renewed_put was .area (by simp)

theorem State.renewed_time : (s.renewed c w was).time = s.time := State.renewed_put was .time (by simp)

/-- The summaries of what is superseded come first. -/
theorem State.renewed_joins :
    SummariesJoin s (s.renewed c w was).creating
      ((s.records.toEnd c.key).map fun x => ⟨s.summaryOf x .superseded, x.attrs.reportDelay⟩) := by
  have joins := (s.settling.onRecords fun u => u.without .superseded c.key).ended_joins .superseded (s.records.toEnd c.key)
  exact ⟨(State.renewed_report was).trans joins.1,
    (congrArg (fun u : Records => u.counters.reportOverflow) (State.renewed_records was)).trans joins.2⟩

/-- The record of a newer revision. -/
theorem State.renewed_stands (hu : s.records.Ordered) :
    NewRecordStands (s.renewed c w was).creating ((s.renewed c w was).settledWith n c w) w
      (c.recordIn w s.area.position s.time.epoch) := by
  have seated : (s.renewed c w was).records.Seated := by
    rw [State.renewed_records]
    exact hu.seated.filter rfl rfl
  have stands := State.create_stands seated c w
  rw [State.newRecord, State.renewed_area, State.renewed_time] at stands
  exact stands
end

end Sys2Proof.Machine
end

section
/-!
PROOFS. A notice that makes a context whole (R50, R51, R53, R56, R57), and the completion that it brings, settled by the window table
and the index as they then stand (R36, R58, R76, R77).
-/

namespace Sys2Proof.Machine

/-! ## The victim of a full context table (R51) -/

theorem olderAllocation_asymm {a b : Half} (h : olderAllocation a b = true) : olderAllocation b a = false := by
  simp only [olderAllocation, Bool.and_eq_true, decide_eq_true_eq, Bool.and_eq_false_iff, decide_eq_false_iff_not] at *
  bv_omega

theorem victimBefore_asymm {x y : Nat × Context} (h : victimBefore x y = true) : victimBefore y x = false := by
  simp only [victimBefore, Bool.or_eq_true, Bool.and_eq_true, decide_eq_true_eq, beq_iff_eq, Bool.not_eq_true'] at h
  simp only [victimBefore, Bool.or_eq_false_iff, decide_eq_false_iff_not, Bool.and_eq_false_iff, beq_eq_false_iff_ne, Bool.not_eq_false']
  rcases h with rank | ⟨rank, older | ⟨younger, number⟩⟩
  · exact ⟨by omega, .inl (by omega)⟩
  · exact ⟨by omega, .inr ⟨olderAllocation_asymm older, .inl older⟩⟩
  · exact ⟨by omega, .inr ⟨younger, .inr (by omega)⟩⟩

/-- The COLLECTING contexts with their numbers. -/
def Intake.collecting (x : Intake) : List (Nat × Context) := x.contexts.zipIdx.filterMap fun e => e.1.map fun c => (e.2, c)

theorem Intake.mem_collecting {x : Intake} {n : Nat} {c : Context} : (n, c) ∈ x.collecting ↔ x.contexts[n]? = some (some c) := by
  simp only [Intake.collecting, List.mem_filterMap, Option.map_eq_some_iff, Prod.mk.injEq]
  constructor
  · rintro ⟨⟨_, _⟩, mem, _, rfl, rfl, rfl⟩
    exact List.mk_mem_zipIdx_iff_getElem?.mp mem
  · exact fun h => ⟨(some c, n), List.mk_mem_zipIdx_iff_getElem?.mpr h, c, rfl, rfl, rfl⟩

theorem Intake.collecting_numbers (x : Intake) : x.collecting.Pairwise fun e e' => e.1 ≠ e'.1 := by
  have numbers : x.contexts.zipIdx.Pairwise fun e e' => e.2 ≠ e'.2 := by
    rw [← List.pairwise_map (f := Prod.snd) (R := (· ≠ ·)), List.zipIdx_map_snd]
    exact List.nodup_range'
  refine numbers.filterMap _ fun a a' distinct b hb b' hb' => ?_
  obtain ⟨c, -, rfl⟩ := Option.map_eq_some_iff.mp hb
  obtain ⟨c', -, rfl⟩ := Option.map_eq_some_iff.mp hb'
  exact distinct

/-- The context a fragment takes the place of, as the statements say it. -/
theorem Intake.victim_of_isVictim {x : Intake} {rank n : Nat} {c : Context} (h : x.IsVictim rank n c) : x.victim rank = some (n, c) := by
  obtain ⟨at_n, important, first⟩ := h
  have mem : (n, c) ∈ x.collecting.filter fun e => e.2.rank ≥ rank :=
    List.mem_filter.mpr ⟨Intake.mem_collecting.mpr at_n, decide_eq_true important⟩
  obtain ⟨a, b, split⟩ := List.append_of_mem mem
  have numbers := x.collecting_numbers.filter fun e => e.2.rank ≥ rank
  rw [split, List.pairwise_append, List.pairwise_cons] at numbers
  obtain ⟨-, ⟨later, -⟩, earlier⟩ := numbers
  have before {y : Nat × Context} (hy : y ∈ a ++ (n, c) :: b) (hne : y.1 ≠ n) : victimBefore (n, c) y = true := by
    rw [← split] at hy
    obtain ⟨collecting, rank'⟩ := List.mem_filter.mp hy
    have order := first y.1 y.2 (Intake.mem_collecting.mp collecting) (of_decide_eq_true rank') hne
    simp only [victimBefore, olderAllocation, Bool.or_eq_true, Bool.and_eq_true, decide_eq_true_eq, beq_iff_eq, Bool.not_eq_true',
      Bool.and_eq_false_iff, decide_eq_false_iff_not]
    rcases order with rank | ⟨rank, older | ⟨younger, number⟩⟩
    · exact .inl rank
    · exact .inr ⟨rank.symm, .inl older⟩
    · exact .inr ⟨rank.symm, .inr ⟨not_and_or.mp younger, number⟩⟩
  refine (congrArg (least victimBefore) split).trans (least_of_split (fun y hy => ?_) fun y hy => ?_)
  · exact before (List.mem_append_left _ hy) (earlier y hy (n, c) List.mem_cons_self)
  · exact victimBefore_asymm (before (List.mem_append_right _ (List.mem_cons_of_mem _ hy)) (later y hy).symm)

theorem Intake.lookup_key {x : Intake} {k : Key} {r : BitVec 4} {n : Nat} {c : Context} (h : x.lookup k r = some (n, c)) :
    c.key = k ∧ c.revision = r := by
  have found := List.find?_some h
  simpa using found

/-! ## A digest match (R57) -/

/-- A fragment read has its place among its parts (R43). -/
theorem readFragment_index {p : List Byte} {f : Fragment} (h : readFragment p = some f) : 1 ≤ f.index ∧ f.index ≤ f.total := by
  obtain ⟨valid, rfl⟩ := (readFragment_eq_some_iff p).mp h
  rw [fragmentMalformed_iff] at valid
  have index : (fragmentOf p).index = fragmentIndex p := rfl
  have total : (fragmentOf p).total = fragmentTotal p := rfl
  rw [index, total]
  constructor <;> by_contra h <;> apply valid <;> omega

theorem Context.accept_eq (f : Fragment) (epoch : Word) (c : Context) :
    c.accept f epoch =
      { c with
        parts := c.parts.set (f.index - 1) (some f.text), progress := epoch, zone := f.zone, cell := f.cell
        trailer := if f.index = f.total ∧ f.trailer.isSome then f.trailer else c.trailer } := by
  simp [Context.accept]

/-- The context of a one-part notice. -/
def Fragment.alone (f : Fragment) (rank errors : Nat) (sequence : Half) (epoch : Word) : Context :=
  { key := f.key, revision := f.revision, digest := f.digest, lifetimeCode := f.lifetimeCode, rank := rank, errors := errors,
    sequence := sequence, progress := epoch, zone := f.zone, cell := f.cell, parts := [some f.text], trailer := f.trailer }

@[simp] theorem Fragment.alone_text (f : Fragment) (rank errors : Nat) (sequence : Half) (epoch : Word) :
    (f.alone rank errors sequence epoch).text = f.text := by simp [Context.text, Fragment.alone]

/-- The part of a one-part notice, accepted into an empty context. -/
theorem Context.accept_alone {f : Fragment} {c : Context} (hi : f.index = 1) (ht : f.total = 1) (hp : c.parts = [none])
    (hn : c.trailer = none) (epoch : Word) :
    c.accept f epoch = { c with parts := [some f.text], trailer := f.trailer, zone := f.zone, cell := f.cell, progress := epoch } := by
  rw [Context.accept_eq, hi, ht, hp, hn]
  cases f.trailer <;> rfl

theorem State.afterAccept_matching {n : Nat} {c : Context} (hw : c.whole = true) (hd : checkOf c.text = c.digest) (s : State) :
    s.afterAccept n c = (s.countIntake fun x => { x with completions := bump x.completions }).awaitCompletion n c := by
  rw [State.afterAccept, if_pos hw, if_pos hd]

section
variable {s : State} {f : Fragment} {w : Window}

theorem State.takeNoticeFragment_collected (hd : s.index.resolveNotice f.key f.revision ≠ .duplicate) {n : Nat} {c : Context}
    (hl : s.intake.lookup f.key f.revision = some (n, c)) : s.takeNoticeFragment f w = s.join n c f := by
  unfold State.takeNoticeFragment
  rw [hl]
  split
  · next h => exact absurd h hd
  · rfl

theorem State.takeNoticeFragment_allocates (hd : s.index.resolveNotice f.key f.revision ≠ .duplicate)
    (hl : s.intake.lookup f.key f.revision = none) : s.takeNoticeFragment f w = s.allocateFor f w.attrs.cls.rank := by
  unfold State.takeNoticeFragment
  rw [hl]
  split
  · next h => exact absurd h hd
  · rfl

theorem State.allocateFor_free (f : Fragment) {rank n : Nat} (free : s.intake.contexts.findIdx? Option.isNone = some n) :
    s.allocateFor f rank = s.allocate n f rank := by
  simp only [State.allocateFor, Intake.freeContext, free]

theorem State.allocateFor_victim {rank n : Nat} {c : Context} (full : s.intake.contexts.findIdx? Option.isNone = none)
    (victim : s.intake.victim rank = some (n, c)) :
    s.allocateFor f rank = (s.countIntake fun x => { x with evicted := bump x.evicted }).allocate n f rank := by
  simp only [State.allocateFor, Intake.freeContext, full, victim]

/-- A one-part notice with a matching digest that allocates a context waits there (R50, R57). -/
theorem State.allocate_alone (hi : f.index = 1) (ht : f.total = 1) (hd : checkOf f.text = f.digest) (n rank : Nat) (s : State) :
    s.allocate n f rank =
      s.onIntake fun x =>
        { x with
          completing := some n, allocations := x.allocations + 1
          contexts := x.contexts.set n (some (f.alone rank 0 x.allocations s.time.epoch))
          counters := { x.counters with completions := bump x.counters.completions } } := by
  have empty : (f.newContext rank s.intake.allocations s.time.epoch).parts = [none] := by simp [Fragment.newContext, ht]
  have whole : checkOf (f.alone rank 0 s.intake.allocations s.time.epoch).text = f.digest := by simpa using hd
  unfold State.allocate
  dsimp only
  rw [Context.accept_alone hi ht empty rfl]
  exact State.afterAccept_matching rfl whole _

/-- A one-part notice with a matching digest that starts its context again at a conflict (R53, R57). -/
theorem State.join_conflict_alone (hi : f.index = 1) (ht : f.total = 1) (hd : checkOf f.text = f.digest) {n : Nat} {c : Context}
    (hc : c.key = f.key ∧ c.revision = f.revision) (hl : f.total = c.parts.length)
    (differs : f.digest ≠ c.digest ∨ f.lifetimeCode ≠ c.lifetimeCode) (few : c.errors + 1 < 3) (s : State) :
    s.join n c f =
      s.onIntake fun x =>
        { x with
          completing := some n
          contexts := x.contexts.set n (some (f.alone c.rank (c.errors + 1) c.sequence s.time.epoch))
          counters := { x.counters with conflicts := bump x.counters.conflicts, completions := bump x.counters.completions } } := by
  obtain ⟨key, revision⟩ := hc
  have empty : c.cleared.parts = [none] := by simp [Context.cleared, ← hl, ht]
  have whole : checkOf (f.alone c.rank (c.errors + 1) c.sequence s.time.epoch).text = f.digest := by simpa using hd
  have conflict : (f.digest ≠ c.digest || f.lifetimeCode ≠ c.lifetimeCode) = true := by simpa using differs
  have again : Context.accept f s.time.epoch
      { c.cleared with errors := c.errors + 1, digest := f.digest, lifetimeCode := f.lifetimeCode } =
      f.alone c.rank (c.errors + 1) c.sequence s.time.epoch := by
    refine (Context.accept_alone hi ht ?_ ?_ _).trans ?_
    · exact empty
    · rfl
    · simp [Context.cleared, Fragment.alone, key, revision]
  unfold State.join
  rw [if_neg (not_not.mpr hl), if_pos conflict]
  dsimp only
  rw [if_neg (Nat.not_le.mpr few)]
  exact (congrArg (fun x => State.afterAccept n x _) again).trans (State.afterAccept_matching rfl whole _)

/-- The last missing part of a notice with a matching digest (R56, R57). -/
theorem State.join_last {n : Nat} {c : Context} (hl : f.total = c.parts.length) (hd : f.digest = c.digest)
    (hc : f.lifetimeCode = c.lifetimeCode) (missing : c.parts.getD (f.index - 1) none = none)
    (whole : (c.accept f s.time.epoch).whole = true)
    (matching : checkOf (c.accept f s.time.epoch).text = (c.accept f s.time.epoch).digest) :
    s.join n c f =
      (s.countIntake fun x => { x with completions := bump x.completions }).awaitCompletion n (c.accept f s.time.epoch) := by
  have new : ¬ (c.parts.getD (f.index - 1) none).isSome = true := by rw [missing]; simp
  unfold State.join
  rw [if_neg (not_not.mpr hl), if_neg (by simp [hd, hc]), if_neg new, State.afterAccept_matching whole matching]
end

/-- A part that makes a context whole with a matching digest: interrupted, the completion waits, and otherwise it is settled at once. -/
theorem exec_takeFragment_meets {s : State} {p : List Byte} {rest : List (List Byte)} {n : Nat} {intake : Intake}
    (hp : s.powered = true) (hs : s.scanning = false) (hc : s.intake.completing = none) (hq : s.intake.queue = p :: rest)
    (taken : s.popFragment.takePayload p = { s with intake := intake }) (waits : intake.completing = some n) :
    (∃ t, exec (.takeFragment true) s = .next t ∧ OnlyChanges [.intake, .outputs] s t ∧ t.intake = intake) ∧
      exec (.takeFragment false) s = exec (.takeFragment true) { s with intake := intake } := by
  have first := exec_takeFragment hp hs hc hq
  have frame : OnlyChanges [.intake] s { s with intake := intake } := OnlyChanges.onIntake s fun _ => intake
  have settles : exec (.takeFragment true) { s with intake := intake } =
      State.occur { s with intake := intake } (!s.scanning) State.finishCompletion := by
    simp [exec, execTakeFragment, waits]
  refine ⟨⟨_, first true, ?_⟩, ?_⟩
  · rw [State.takeOldest, taken]
    exact ⟨(frame.mono (by simp)).settled (by simp), rfl⟩
  · rw [first false, settles, State.occur_of_ready (s := { s with intake := intake }) hp (by simp [hs]), State.takeOldest, taken]
    rfl

/-! ## The waiting completion (R36, R57, R58) -/

section
variable {s : State} {p : List Byte} {rest : List (List Byte)} {f : Fragment} {w : Window} (hp : s.powered = true)
  (hs : s.scanning = false) (hc : s.intake.completing = none) (hq : s.intake.queue = p :: rest) (hf : readFragment p = some f)
  (hw : s.windows.classify f.key.stream = some w) (hn : f.withdraw = false)
  (hd : s.index.resolveNotice f.key f.revision ≠ .duplicate)
include hp hs hc hq hf hw hn hd

/-- A one-part notice with a matching digest, in a context free or freed by an eviction (R50, R51, R57). -/
theorem exec_takeFragment_alone (ht : f.total = 1) (matching : checkOf f.text = f.digest)
    (hl : s.intake.lookup f.key f.revision = none) (n : Nat) (count : IntakeCounters → IntakeCounters)
    (allocates : s.popFragment.allocateFor f w.attrs.cls.rank = (s.popFragment.countIntake count).allocate n f w.attrs.cls.rank)
    (counted : ∀ k, (count k).completions = k.completions) :
    let intake : Intake :=
      { s.intake with
        queue := rest, completing := some n, allocations := s.intake.allocations + 1
        contexts := s.intake.contexts.set n (some (f.alone w.attrs.cls.rank 0 s.intake.allocations s.time.epoch))
        counters :=
          { count { s.intake.counters with taken := bump s.intake.counters.taken } with
            completions := bump s.intake.counters.completions } }
    (∃ t, exec (.takeFragment true) s = .next t ∧ OnlyChanges [.intake, .outputs] s t ∧ t.intake = intake) ∧
      exec (.takeFragment false) s = exec (.takeFragment true) { s with intake := intake } := by
  have index : f.index = 1 := by
    have := readFragment_index hf
    omega
  have left : s.intake.queue.drop 1 = rest := by rw [hq]; rfl
  refine exec_takeFragment_meets hp hs hc hq ?_ rfl
  rw [State.takePayload_notice (s := s.popFragment) hf hw hn, State.takeNoticeFragment_allocates (s := s.popFragment) hd hl, allocates,
    State.allocate_alone index ht matching, ← left]
  simp [State.countIntake, State.onIntake, State.popFragment, counted]

/-- A part that its context, once it has joined, makes whole with a matching digest. -/
theorem exec_takeFragment_joins {n : Nat} {c : Context} (hl : s.intake.lookup f.key f.revision = some (n, c)) {intake : Intake}
    (joins : s.popFragment.join n c f = { s with intake := intake }) (waits : intake.completing = some n) :
    (∃ t, exec (.takeFragment true) s = .next t ∧ OnlyChanges [.intake, .outputs] s t ∧ t.intake = intake) ∧
      exec (.takeFragment false) s = exec (.takeFragment true) { s with intake := intake } := by
  refine exec_takeFragment_meets hp hs hc hq ?_ waits
  rw [State.takePayload_notice (s := s.popFragment) hf hw hn, State.takeNoticeFragment_collected (s := s.popFragment) hd hl, joins]
end

/-! ## The waiting completion settled (R36, R58, R76, R77) -/

theorem Entry.evictedBefore_of_earlier {e x : Entry}
    (h : e.fields.expiry.toNat < x.fields.expiry.toNat ∨
      (e.fields.expiry = x.fields.expiry ∧ e.fields.time.toNat < x.fields.time.toNat)) : e.evictedBefore x = true := by
  simpa [Entry.evictedBefore] using h

theorem Entry.not_evictedBefore_of_later {e x : Entry}
    (h : e.fields.expiry.toNat < x.fields.expiry.toNat ∨
      (e.fields.expiry = x.fields.expiry ∧ e.fields.time.toNat ≤ x.fields.time.toNat)) : x.evictedBefore e = false := by
  refine Bool.eq_false_iff.mpr fun before => ?_
  simp only [Entry.evictedBefore, Bool.or_eq_true, Bool.and_eq_true, decide_eq_true_eq, beq_iff_eq] at before
  rw [← BitVec.toNat_inj] at h before
  omega

section
variable {s : State} {n : Nat} {c : Context} {w : Window} (hp : s.powered = true) (hs : s.scanning = false)
  (hc : s.intake.completing = some n) (hn : s.intake.contexts[n]? = some (some c)) (hw : s.windows.classify c.key.stream = some w)
include hp hs hc hn hw

/-- A completion new to the index (R76). -/
theorem exec_takeFragment_noticed (absent : s.index.find c.key = none) (interrupted : Bool) :
    exec (.takeFragment interrupted) s = .next ((s.noticed s.settling.makeRoom c w).settledWith n c w) := by
  have new : s.index.resolveNotice c.key c.revision ≠ .duplicate := by simp [Index.resolveNotice, absent]
  rw [exec_takeFragment_becomes hp hs hc hn hw new, State.takeNotice_new (s := s.settling) absent]
  rfl

/-- A completion of a newer revision (R77). -/
theorem exec_takeFragment_renewed (hu : s.records.Ordered) {e : Entry} (he : s.index.find c.key = some e)
    (hr : newerRevision c.revision e.fields.revision = true) (interrupted : Bool) :
    exec (.takeFragment interrupted) s = .next ((s.renewed c w e.fields.state).settledWith n c w) := by
  have newer : s.index.resolveNotice c.key c.revision ≠ .duplicate := by
    cases hst : e.fields.state <;> simp [Index.resolveNotice, he, hr, hst]
  rw [exec_takeFragment_becomes hp hs hc hn hw newer, State.takeNotice_newer (s := s.settling) he hr,
    State.endKey_eq (s := s.settling) hu (by decide)]
  rfl
end

theorem Running.map_forget_nothing (x : Option Running) : x.map (Running.forget fun _ => false) = x := by
  cases x <;> simp [Running.forget_nothing]

section
variable {s u : State} (n : Nat) {c : Context} (w : Window) {gone : Key → Bool} {writes : List Key}

/-- The entry of a new notice, with what it offers and counts. -/
theorem State.noticed_puts (ram : u.store.ramOnly = s.store.ramOnly)
    (running : u.store.running = s.store.running.map (Running.forget gone))
    (deferrals : u.index.counters.writeDeferrals = s.index.counters.writeDeferrals) :
    EntriesPut s ((s.noticed u c w).settledWith n c w) gone u.store.writes [c.key] :=
  .of_putEntry (f := s.time.stamp c.key c.revision .noticeSeen w.horizon) ram running deferrals
    (State.settledWith_writes n c w) (State.settledWith_running n c w)
    (congrArg (fun x : Index => x.counters.writeDeferrals) (State.settledWith_index (v := s.noticed u c w) n c w) :)

theorem State.noticed_counters :
    ((s.noticed u c w).settledWith n c w).index.counters.noticesNew = bump u.index.counters.noticesNew ∧
      ((s.noticed u c w).settledWith n c w).index.counters.indexEvictions = u.index.counters.indexEvictions := by
  obtain ⟨deferrals, counters⟩ := State.putEntry_counters (s.time.stamp c.key c.revision .noticeSeen w.horizon) u
  rw [State.settledWith_index]
  simp [State.noticed, State.countHistory, State.onIndex, counters]

/-- What joins a pending write list are keys that have been offered. -/
theorem EntriesPut.not_mem {t : State} {k k' : Key} (h : EntriesPut s t gone writes [k]) (hw : k' ∉ writes) (hk : k' ≠ k) :
    k' ∉ t.store.writes := by
  obtain ⟨⟨joined, -⟩, -⟩ := h
  rw [joined, List.mem_append]
  refine not_or_intro hw fun mem => ?_
  have offered := List.mem_of_mem_take mem
  split at offered
  · simp at offered
  · exact hk (List.mem_singleton.mp (List.mem_filter.mp offered).1)
end

section
variable {s : State} (n : Nat) {c : Context} (w : Window)

/-- The entry of a newer revision, with what it offers and counts. -/
theorem State.renewed_puts (was : EntryState) :
    EntriesPut s ((s.renewed c w was).settledWith n c w) (fun _ => false) s.store.writes [c.key] :=
  .of_putEntry (u := s.settling.superseding c.key) (f := s.time.stamp c.key c.revision .noticeSeen w.horizon) rfl
    (Running.map_forget_nothing _).symm rfl
    (State.settledWith_writes n c w) (State.settledWith_running n c w)
    (congrArg (fun x : Index => x.counters.writeDeferrals) (State.settledWith_index (v := s.renewed c w was) n c w) :)

theorem State.renewed_counters (was : EntryState) :
    ((s.renewed c w was).settledWith n c w).index.counters.noticesNewer =
        (if was = .noticeSeen then bump s.index.counters.noticesNewer else s.index.counters.noticesNewer) ∧
      ((s.renewed c w was).settledWith n c w).index.counters.noticesReissued =
        (if was = .withdrawn then bump s.index.counters.noticesReissued else s.index.counters.noticesReissued) := by
  obtain ⟨deferrals, counters⟩ :=
    State.putEntry_counters (s.time.stamp c.key c.revision .noticeSeen w.horizon) (s.settling.superseding c.key)
  have index : (s.settling.superseding c.key).index = s.index := rfl
  rw [State.settledWith_index]
  simp [State.renewed, State.countHistory, State.onIndex, counters, index]

/-- The record unit as the record of a newer revision finds it. -/
theorem State.renewed_creating (was : EntryState) :
    (s.renewed c w was).creating.records =
      { s.records.without .superseded c.key with
        free := s.records.free ++ slotsFreed (s.records.toEnd c.key)
        generations := generationsAfter (slotsFreed (s.records.toEnd c.key)) s.records.generations
        counters :=
          { s.records.counters with
            created := bump s.records.counters.created
            superseded := bumpBy (s.records.toEnd c.key).length s.records.counters.superseded
            reportOverflow := (s.renewed c w was).creating.records.counters.reportOverflow } } := by
  have records := State.renewed_records (s := s) (c := c) (w := w) was
  simp only [State.creating, State.countRecords, State.onRecords, records]
  rfl

section
variable (hu : s.records.Ordered) (was : EntryState)
include hu

/-- What is superseded stands on no list again (R82). -/
theorem State.renewed_gone :
    ∀ x ∈ s.records.active ++ s.records.held, x.key = c.key →
      x ∉ ((s.renewed c w was).settledWith n c w).records.active ++ ((s.renewed c w was).settledWith n c w).records.held := by
  have seated : (s.renewed c w was).records.Seated := by
    rw [State.renewed_records]
    exact hu.seated.filter rfl rfl
  have records := State.renewed_creating (s := s) (c := c) (w := w) was
  exact hu.superseded_gone (congrArg Records.active records) (congrArg Records.held records) (congrArg Records.generations records)
    (congrArg Records.entries records :) (Records.Takes.create seated c w)
end

/-- A DELIVERING record of the key is latched (R82, R131). -/
theorem State.renewed_latched (was : EntryState) :
    ((s.renewed c w was).settledWith n c w).records.latched =
      match s.records.active.find? fun x => x.key = c.key && x.state = .delivering with
      | some x => some { x with latched := some .superseded, ackDeferred := false, reminder := none }
      | none => s.records.latched := by
  have kept : ((s.renewed c w was).settledWith n c w).records.latched = (s.renewed c w was).creating.records.latched :=
    (State.Received.create (s.renewed c w was) c w).latched
  rw [kept, State.renewed_creating, Records.without]
  dsimp only
  cases s.records.active.find? fun x => x.key = c.key && x.state = .delivering <;> rfl

/-- The summaries of what is superseded stand first among those that join (R82, R130). -/
theorem State.renewed_queue (was : EntryState) (room : s.report.queue.length + (s.records.toEnd c.key).length ≤ 32) :
    ∃ more, ((s.renewed c w was).settledWith n c w).report.queue.map QueuedSummary.summary =
      s.report.queue.map QueuedSummary.summary ++ (s.records.toEnd c.key).map (fun x => s.summaryOf x .superseded) ++ more := by
  obtain ⟨more, queue⟩ := (State.Received.create (s.renewed c w was) c w).queue
  have joins := (State.renewed_joins (s := s) (c := c) (w := w) was).1
  have joined := Report.foldl_after_queue (q := s.report)
    (xs := (s.records.toEnd c.key).map fun x => ⟨s.summaryOf x .superseded, x.attrs.reportDelay⟩) (by simpa using room)
  refine ⟨more.map QueuedSummary.summary, ?_⟩
  have same : ((s.renewed c w was).settledWith n c w).report.queue = ((s.renewed c w was).create (c.alert w)).report.queue := rfl
  rw [same, queue, joins, joined]
  simp [Function.comp_def]
end

/-- Settles O20: the four ways to a digest match, and the five ends of the completion that waits. -/
theorem completionSeesTheTableAsItThenStands : Obligations.CompletionSeesTheTableAsItThenStands := by
  constructor
  · intro s p rest f w hp hs hc hq hf hw hn hd
    obtain rfl : rest = s.intake.queue.drop 1 := by rw [hq]; rfl
    refine ⟨fun ht matching hl => ⟨fun n free => ?free, fun n c full victim => ?evicted⟩,
      fun n c hl ht => ⟨fun same lifetime missing => fun whole digest => ?last, fun differs few single matching => ?again⟩⟩
    case free =>
      exact exec_takeFragment_alone hp hs hc hq hf hw hn hd ht matching hl n id
        (State.allocateFor_free (s := s.popFragment) f free) fun _ => rfl
    case evicted =>
      exact exec_takeFragment_alone hp hs hc hq hf hw hn hd ht matching hl n _
        (State.allocateFor_victim (s := s.popFragment) full (Intake.victim_of_isVictim victim)) fun _ => rfl
    case last =>
      refine exec_takeFragment_joins hp hs hc hq hf hw hn hd hl ?_ rfl
      rw [State.join_last (s := s.popFragment) ht same lifetime missing (by rw [Context.accept_eq]; exact whole)
        (by rw [Context.accept_eq]; exact digest), Context.accept_eq]
      rfl
    case again =>
      have index : f.index = 1 := by
        have := readFragment_index hf
        omega
      refine exec_takeFragment_joins hp hs hc hq hf hw hn hd hl ?_ rfl
      rw [State.join_conflict_alone index single matching (Intake.lookup_key hl) ht differs few]
      rfl
  · intro s interrupted n c hp hs hc hn
    have unready : (decide (s.due.contextTimeout > 0) && s.intake.completing.isNone) = false := by simp [hc]
    have unswept : exec .contextTimeout s = .next s := (State.occur_of_not_ready unready : execContextTimeout s = .next s)
    refine ⟨unswept, fun unlisted => ?unlisted, fun w hw => ⟨fun duplicate => ?stale, fun absent room => ?new,
      fun absent nodup before e after split full unnamed hb ha => ?evicts, fun e he hr hu => ?newer⟩⟩
    case unlisted =>
      refine exec_takeFragment_dismissed hp hs hc hn interrupted
        (fun x => { x with unlistedAtCompletion := bump x.unlistedAtCompletion }) ?_
      have same : s.settling.windows.classify c.key.stream = none := unlisted
      rw [State.settleCompletion, same]
    case stale =>
      refine exec_takeFragment_dismissed hp hs hc hn interrupted (fun x => { x with stale := bump x.stale }) ?_
      have same : s.settling.windows.classify c.key.stream = some w := hw
      have same' : s.settling.index.resolveNotice c.key c.revision = .duplicate := duplicate
      rw [State.settleCompletion, same]
      dsimp only
      rw [same']
    case new =>
      have stays : s.settling.makeRoom = s.settling := if_pos room
      have settles := exec_takeFragment_noticed hp hs hc hn hw absent interrupted
      rw [stays] at settles
      obtain ⟨frame, intake, entries, position, created, muted⟩ := State.noticed_settled n w (.refl _ s.settling) absent
      refine ⟨_, settles, frame, intake, entries, State.noticed_puts n w rfl (Running.map_forget_nothing _).symm rfl, position,
        created, muted⟩
    case evicts =>
      have settles := exec_takeFragment_noticed hp hs hc hn hw absent interrupted
      have made := State.makeRoom_evicts (s := s.settling) nodup split full unnamed
        (fun x hx free => Entry.evictedBefore_of_earlier (hb x hx free)) fun x hx free => Entry.not_evictedBefore_of_later (ha x hx free)
      have frame := OnlyChanges.makeRoom s.settling
      rw [made] at settles frame
      have absent' : Index.find { s.index with entries := before ++ after } c.key = none := by
        refine List.find?_eq_none.mpr fun x hx => List.find?_eq_none.mp absent x ?_
        rw [split]
        simp only [List.mem_append, List.mem_cons] at hx ⊢
        tauto
      have distinct : ∀ x ∈ before ++ after, x.fields.key ≠ e.fields.key := by
        rw [split, List.map_append, List.map_cons, List.nodup_middle, List.nodup_cons, ← List.map_append] at nodup
        exact fun x hx same => nodup.1 (same ▸ List.mem_map_of_mem hx)
      have other : e.fields.key ≠ c.key := by
        simpa using List.find?_eq_none.mp absent e (by simp [split])
      obtain ⟨frame, intake, entries, -, -, -⟩ := State.noticed_settled n w frame absent'
      obtain ⟨noticesNew, evictions⟩ :=
        State.noticed_counters (s := s) (u := s.settling.evicting e.fields.key (before ++ after)) n (c := c) w
      have puts := State.noticed_puts (s := s) (u := s.settling.evicting e.fields.key (before ++ after)) n (c := c) w rfl rfl rfl
      exact ⟨_, settles, frame, intake, entries, evictions, noticesNew,
        puts.not_mem (State.evicted_not_mem_writes distinct) other, puts⟩
    case newer =>
      have frame := State.renewed_onlyChanges (s := s) (c := c) (w := w) e.fields.state
      have settles := exec_takeFragment_renewed hp hs hc hn hw hu he hr interrupted
      obtain ⟨newer, reissued⟩ := State.renewed_counters (s := s) n (c := c) w e.fields.state
      have received := State.Received.create (s.renewed c w e.fields.state) c w
      have records := State.renewed_creating (s := s) (c := c) (w := w) e.fields.state
      have index := State.settledWith_index (v := s.renewed c w e.fields.state) n c w
      refine ⟨_, settles, State.settledWith_onlyChanges n c w frame, State.settledWith_intake n c w frame,
        (congrArg Index.entries index).trans (State.renewed_entries _ he), State.renewed_puts n w _, newer, reissued,
        received.superseded.trans (congrArg (fun u => u.counters.superseded) records),
        received.created.trans (congrArg (fun u => u.counters.created) records), State.renewed_gone n w hu _, State.renewed_latched n w _,
        State.renewed_queue n w _, fun muted => ?_, (s.renewed c w e.fields.state).creating, State.renewed_area e.fields.state,
        State.renewed_time e.fields.state, ?_,
        State.renewed_joins _, State.renewed_stands _ hu⟩
      · obtain ⟨active, held, -⟩ := State.settledWith_muted (v := s.renewed c w e.fields.state) n c w muted
        exact ⟨active.trans (congrArg Records.active records), held.trans (congrArg Records.held records)⟩
      · have latched : ((s.renewed c w e.fields.state).settledWith n c w).records.latched = _ := received.latched
        rw [latched, records]
        rfl
end Sys2Proof.Machine
end

section
/-!
PROOFS. The timeout sweep of the context table (R63), as one equation on the state.
-/

namespace Sys2Proof.Machine

/-- The contexts `b`, in their places after `a`, have been swept, and those closed have been counted (R63). -/
def State.swept (a b : List (Option Context)) (s : State) : State :=
  let idle (c : Context) : Bool := c.timedOut s.time.epoch s.settings.contextTimeout
  s.onIntake fun x =>
    { x with
      contexts := a ++ b.map fun c => if c.any idle then none else c
      counters := { x.counters with timedOut := bumpBy (b.countP fun c => c.any idle) x.counters.timedOut } }

/-- One context swept, before the ones after it. -/
theorem State.swept_sweepContext {s : State} {a b : List (Option Context)} {x : Option Context}
    (h : s.intake.contexts = a ++ x :: b) :
    ∃ y, (s.sweepContext a.length).intake.contexts = (a ++ [y]) ++ b ∧
      (s.sweepContext a.length).swept (a ++ [y]) b = s.swept a (x :: b) := by
  have at_x : s.intake.contexts.getD a.length none = x := by simp [h]
  unfold State.sweepContext
  rw [at_x]
  cases x with
  | none => exact ⟨none, by simp [h], by simp [State.swept]⟩
  | some c =>
    dsimp only
    by_cases idle : c.timedOut s.time.epoch s.settings.contextTimeout = true
    · rw [if_pos idle]
      refine ⟨none, by simp [State.setContext, State.countIntake, h], ?_⟩
      simp [State.swept, State.setContext, State.countIntake, State.onIntake, idle, bumpBy_succ]
      exact fun _ _ => rfl
    · rw [if_neg idle]
      exact ⟨some c, by simp [h], by simp [State.swept, idle]⟩

theorem State.foldl_sweepContext {s : State} {a b : List (Option Context)} (h : s.intake.contexts = a ++ b) :
    (List.range' a.length b.length).foldl State.sweepContext s = s.swept a b := by
  induction b generalizing s a with
  | nil =>
    rw [List.append_nil] at h
    simp [State.swept, State.onIntake, ← h]
  | cons x b ih =>
    obtain ⟨y, contexts, swept⟩ := State.swept_sweepContext h
    have rest := ih contexts
    rw [List.length_append, List.length_singleton] at rest
    rw [List.length_cons, List.range'_succ, List.foldl_cons, rest, swept]

theorem State.sweepContexts_eq (s : State) : s.sweepContexts = s.swept [] s.intake.contexts := by
  rw [State.sweepContexts, List.range_eq_range']
  exact State.foldl_sweepContext (a := []) rfl

/-- Settles O22: the sweep is one equation on the reassembly unit (`State.sweepContexts_eq`). -/
theorem contextTimeoutClosesIdleContexts : Obligations.ContextTimeoutClosesIdleContexts := by
  intro s hp owed hc
  have ready : (decide (s.due.contextTimeout > 0) && s.intake.completing.isNone) = true := by simp [owed, hc]
  have swept : exec .contextTimeout s =
      .next ((s.onDue fun d => { d with contextTimeout := d.contextTimeout - 1 }).swept [] s.intake.contexts).settle := by
    rw [exec, execContextTimeout, State.occur_of_ready hp ready, State.sweepContexts_eq]
    rfl
  have due : OnlyChanges [.due] s (s.onDue fun d => { d with contextTimeout := d.contextTimeout - 1 }) := by
    intro x hx
    cases x <;> simp_all [Piece.same]
  exact ⟨_, swept, (due.andThen (.onIntake _ _) (by simp) (by simp)).settled (by simp), rfl, rfl⟩

end Sys2Proof.Machine
end

section
/-!
PROOFS. What the operations of the part keep of the queues and tables (R41, R60, R106, R154, R158, R159, R176): one lemma for each operation, in
the order of the chapters.
-/

namespace Sys2Proof.Machine

/-! ## The bounds, part by part -/

/-- The reassembly unit within its bounds, a completion that waits in a COLLECTING context (R41, R42, R60). -/
structure Intake.Within (x : Intake) : Prop where
  queue : x.queue.length ≤ 16
  contexts : x.contexts.length = 8
  errors : ∀ c, some c ∈ x.contexts → c.errors ≤ 2
  completing : ∀ n, x.completing = some n → ∃ c, x.contexts[n]? = some (some c)

/-- The report queue within its bound, and its countdown idle exactly while it is empty (R158, R159). -/
def Report.Within (q : Report) : Prop := q.queue.length ≤ 32 ∧ (q.queue = [] ↔ q.countdown = none)

/-- A pending write list within its bound, no key on it twice (R176). -/
def WritesWithin (ks : List Key) : Prop := ks.length ≤ 16 ∧ ks.Nodup

/-- The queues and tables that any event may fill, within their bounds. -/
structure State.Tidy (s : State) : Prop where
  intake : s.intake.Within
  held : s.records.held.length ≤ 8
  receipts : s.ack.receipts.length ≤ 16
  report : s.report.Within
  writes : WritesWithin s.store.writes

/-- The supply, and what the reminder step follows. -/
def State.clock (s : State) : Bool × Half × Bool × Word := (s.powered, s.ack.step, s.due.reminderStep, s.time.epoch)

/-- The management unit, with the program or the clear whose reply is deferred. -/
def State.desk (s : State) : Management × Option ProvisioningJob × Option Clear := (s.management, s.store.job, s.store.clear)

/-- An operation keeps the queues and tables within their bounds, and touches neither the reminder step nor requests and replies. -/
structure State.Upkeep (s t : State) : Prop where
  clock : t.clock = s.clock
  desk : t.desk = s.desk
  tidy : s.Tidy → t.Tidy

theorem State.Upkeep.refl (s : State) : s.Upkeep s := ⟨rfl, rfl, id⟩

theorem State.Upkeep.trans {s t u : State} (h : s.Upkeep t) (h' : t.Upkeep u) : s.Upkeep u :=
  ⟨h'.clock.trans h.clock, h'.desk.trans h.desk, h'.tidy ∘ h.tidy⟩

/-- A fold of operations that keep the bounds keeps them. -/
theorem State.Upkeep.foldl {α : Type} {f : State → α → State} (h : ∀ (s : State) (a : α), s.Upkeep (f s a)) (l : List α) (s : State) :
    s.Upkeep (l.foldl f s) := by
  induction l generalizing s with
  | nil => exact .refl s
  | cons a l ih => exact (h s a).trans (ih _)

/-- All that the bounds speak of. -/
def State.stock (s : State) :
    (Bool × Half × Bool × Word) × (Management × Option ProvisioningJob × Option Clear) ×
      Intake × List Record × List Receipt × Report × List Key :=
  (s.clock, s.desk, s.intake, s.records.held, s.ack.receipts, s.report, s.store.writes)

/-- An operation that touches nothing the bounds speak of. -/
theorem State.Upkeep.of_stock {s t : State} (h : t.stock = s.stock) : s.Upkeep t := by
  simp only [State.stock, Prod.mk.injEq] at h
  obtain ⟨clock, desk, intake, held, receipts, report, writes⟩ := h
  exact ⟨clock, desk, fun ⟨hi, hh, ha, hr, hw⟩ => ⟨intake ▸ hi, held ▸ hh, receipts ▸ ha, report ▸ hr, writes ▸ hw⟩⟩

/-- An operation that keeps the bounds, after one that touches nothing they speak of. -/
theorem State.Upkeep.from_stock {s t u : State} (h : t.Upkeep u) (same : t.stock = s.stock) : s.Upkeep u :=
  (State.Upkeep.of_stock same).trans h

/-! ## Updates of one block -/

section
variable (s : State)

theorem State.Upkeep.onRecords {f : Records → Records} (h : (f s.records).held.length ≤ s.records.held.length) :
    s.Upkeep (s.onRecords f) :=
  ⟨rfl, rfl, fun t => ⟨t.intake, h.trans t.held, t.receipts, t.report, t.writes⟩⟩

theorem State.Upkeep.onReport {f : Report → Report} (h : s.report.Within → (f s.report).Within) : s.Upkeep (s.onReport f) :=
  ⟨rfl, rfl, fun t => ⟨t.intake, t.held, t.receipts, h t.report, t.writes⟩⟩

theorem State.Upkeep.onAck {f : Acknowledgement → Acknowledgement} (step : (f s.ack).step = s.ack.step)
    (h : (f s.ack).receipts.length ≤ 16) : s.Upkeep (s.onAck f) :=
  ⟨by simp [State.clock, step], rfl, fun t => ⟨t.intake, t.held, h, t.report, t.writes⟩⟩

theorem State.Upkeep.onIntake {f : Intake → Intake} (h : s.intake.Within → (f s.intake).Within) : s.Upkeep (s.onIntake f) :=
  ⟨rfl, rfl, fun t => ⟨h t.intake, t.held, t.receipts, t.report, t.writes⟩⟩

/-- The history store with another pending write list. -/
theorem State.Upkeep.onStore {f : Store → Store} (job : (f s.store).job = s.store.job) (clear : (f s.store).clear = s.store.clear)
    (h : WritesWithin s.store.writes → WritesWithin (f s.store).writes) : s.Upkeep (s.onStore f) :=
  ⟨rfl, by simp [State.desk, job, clear], fun t => ⟨t.intake, t.held, t.receipts, t.report, h t.writes⟩⟩

theorem State.Upkeep.countIntake (f : IntakeCounters → IntakeCounters) : s.Upkeep (s.countIntake f) :=
  .onIntake s fun h => ⟨h.queue, h.contexts, h.errors, h.completing⟩

theorem State.Upkeep.countHistory (f : HistoryCounters → HistoryCounters) : s.Upkeep (s.countHistory f) := .of_stock rfl

theorem State.Upkeep.countArea (f : AreaCounters → AreaCounters) : s.Upkeep (s.countArea f) := .of_stock rfl

theorem State.Upkeep.countRecords (f : RecordCounters → RecordCounters) : s.Upkeep (s.countRecords f) := .of_stock rfl

/-! ## Reports and receipts (R154, R158, R159) -/

theorem State.Upkeep.joinReport (x : Summary) (d : Nat) : s.Upkeep (s.joinReport x d) := by
  rcases s.joinReport_cases x d with ⟨room, h⟩ | ⟨_, h⟩ <;> rw [h]
  · refine .onReport s fun _ => ⟨?_, ?_⟩
    · rw [List.length_append, List.length_singleton]
      exact room
    · have running : s.report.countdownAfter d ≠ none := by
        unfold Report.countdownAfter
        split_ifs <;> simp
      exact iff_of_false (by simp) running
  · exact .countRecords s _

theorem State.Upkeep.queueReceipt (r : Record) (k : ReceiptKind) : s.Upkeep (s.queueReceipt r k) := by
  rcases s.queueReceipt_cases r k with ⟨room, h⟩ | ⟨_, h⟩ <;> rw [h]
  · refine .onAck s rfl ?_
    rw [List.length_append, List.length_singleton]
    exact room
  · exact .countRecords s _

theorem State.Upkeep.takeReport (s : State) : s.Upkeep s.takeReport := by
  unfold State.takeReport
  exact (State.Upkeep.onReport (f := fun _ => ⟨[], none⟩) _ fun _ => ⟨Nat.zero_le 32, iff_of_true rfl rfl⟩).from_stock rfl

theorem State.Upkeep.decrement : s.Upkeep (s.onReport Report.decrement) :=
  .onReport s fun ⟨length, idle⟩ => ⟨length, idle.trans (by simp [Report.decrement])⟩

/-! ## Records (R106 to R108, R121, R130, R131) -/

theorem State.Upkeep.finish (code : Code) (r : Record) : s.Upkeep (s.finish code r) := by
  have receipt (u : State) (wanted : Bool) : u.Upkeep (if wanted then u.queueReceipt r .acknowledged else u) := by
    split
    · exact .queueReceipt u r _
    · exact .refl u
  have receipted := (State.Upkeep.joinReport s (s.summaryOf r code) (r.summaryDelay code)).trans
    (receipt _ (code = .acknowledged && r.attrs.receiptMode.wantsAcknowledged))
  have counted := receipted.trans (.countRecords _ (.countCode code))
  unfold State.finish
  dsimp only
  cases r.handle
  · exact counted
  · exact counted.trans (.onRecords _ le_rfl)

theorem State.Upkeep.unlist (r : Record) : s.Upkeep (s.onRecords (Records.unlist r)) := .onRecords s (List.length_filter_le _ _)

theorem State.Upkeep.complete (code : Code) (r : Record) : s.Upkeep (s.complete code r) :=
  (State.Upkeep.unlist s r).trans (.finish _ code r)

theorem State.Upkeep.latch (code : Code) (r : Record) : s.Upkeep (s.latch code r) := .onRecords s (List.length_filter_le _ _)

theorem State.Upkeep.endRecord (code : Code) (r : Record) : s.Upkeep (s.endRecord code r) := by
  unfold State.endRecord
  split
  · exact .latch s code r
  · exact .complete s code r

theorem State.Upkeep.endAll (code : Code) (rs : List Record) : s.Upkeep (s.endAll code rs) :=
  .foldl (fun s r => .endRecord s code r) rs s

theorem State.Upkeep.displace (s : State) : s.Upkeep s.displace := by
  unfold State.displace
  split
  · split
    · exact .complete s _ _
    · exact .refl s
  · exact .refl s

theorem State.Upkeep.enterActive (r : Record) : s.Upkeep (s.enterActive r) := by
  have seated (u : State) (n : Nat) : u.Upkeep (u.onRecords (Records.seat n)) := by
    obtain ⟨active, free, h⟩ := Records.seat_eq n u.records
    exact .onRecords u (by rw [h])
  exact (State.Upkeep.onRecords s le_rfl).trans ((State.Upkeep.displace _).trans (seated _ _))

/-- A held list with fewer than 8 records takes one more (R106). -/
theorem State.Upkeep.joinHeld {s u : State} (h : s.Upkeep u) (r : Record) (room : s.Tidy → u.records.held.length < 8) :
    s.Upkeep (u.joinHeld r) where
  clock := h.clock
  desk := h.desk
  tidy tidy := by
    obtain ⟨intake, -, receipts, report, writes⟩ := h.tidy tidy
    exact ⟨intake, by simpa [State.joinHeld, State.countArea] using room tidy, receipts, report, writes⟩

/-- A record to be held, where the list is full, joins it only after one has left (R108). -/
theorem State.Upkeep.hold (r : Record) : s.Upkeep (s.hold r) := by
  by_cases room : s.records.held.length < 8
  · rw [State.hold_of_room r room]
    exact .joinHeld (.refl s) r fun _ => room
  · obtain ⟨e, a, b, he, hl⟩ := Records.exists_earliestHeld (u := s.records) fun h => by simp [h] at room
    rw [State.hold_of_full r (Nat.not_lt.mp room) he]
    split
    · exact (State.Upkeep.countArea s _).trans (.finish _ _ r)
    · refine .joinHeld ((State.Upkeep.complete s .outOfArea e).trans (.countArea _ _)) r fun tidy => ?_
      have left : (s.complete .outOfArea e).overflowed.records.held = s.records.held.filter fun y => y.handle != e.handle := by
        rw [State.complete_eq_ended (by decide)]
        rfl
      refine left ▸ ?_
      refine Nat.lt_of_lt_of_le (List.length_filter_lt_length_iff_exists.mpr ⟨e, ?_, by simp⟩) tidy.held
      simp [hl]

theorem State.Upkeep.create (a : Alert) : s.Upkeep (s.create a) := by
  unfold State.create
  dsimp only
  split
  · exact (State.Upkeep.countRecords s _).trans (.finish _ _ _)
  · rw [State.judgeNew_eq]
    have judged (r : Record) (u : State) : u.Upkeep (u.judged r) := .of_stock rfl
    dsimp only
    split
    · exact (State.Upkeep.countRecords s _).trans ((judged _ _).trans (.enterActive _ _))
    · exact (State.Upkeep.countRecords s _).trans ((judged _ _).trans (.hold _ _))

theorem State.Upkeep.judgeHeld (r : Record) : s.Upkeep (s.judgeHeld r) := by
  unfold State.judgeHeld
  dsimp only
  split
  · exact (State.Upkeep.onRecords s (List.length_filter_le _ _)).trans ((State.Upkeep.countArea _ _).trans (.enterActive _ _))
  · exact .onRecords s (by simp [Records.rejudge])

/-! ## Deliveries (R125 to R127) -/

theorem State.Upkeep.lastFrame (r : Record) : s.Upkeep (s.lastFrame r) := by
  have counted : s.Upkeep (s.countDelivery r) := by
    unfold State.countDelivery
    dsimp only
    split
    · split
      · exact (State.Upkeep.countRecords s _).trans (.queueReceipt _ r _)
      · exact .countRecords s _
    · exact .countRecords s _
  unfold State.lastFrame
  dsimp only
  split
  · exact counted.trans ((State.Upkeep.onRecords _ le_rfl).trans (.onRecords _ le_rfl))
  · exact counted.trans ((State.Upkeep.onRecords _ le_rfl).trans ((State.Upkeep.onRecords _ le_rfl).trans (.finish _ _ _)))

theorem State.Upkeep.takeSequenceFrame (d : Delivery) : s.Upkeep (s.takeSequenceFrame d) := by
  unfold State.takeSequenceFrame
  split
  · dsimp only
    split
    · exact (State.Upkeep.lastFrame _ _).from_stock rfl
    · exact .of_stock rfl
  · exact .of_stock rfl

theorem State.Upkeep.takeDeliveryWork (s : State) : s.Upkeep s.takeDeliveryWork := by
  unfold State.takeDeliveryWork
  split
  · unfold State.beginDelivery
    split
    · exact (State.Upkeep.takeSequenceFrame _ _).from_stock rfl
    · exact .refl s
  · split
    · exact .of_stock rfl
    · exact .refl s

/-! ## The history index and the pending write list (R75, R84 to R89, R176, R177) -/

theorem WritesWithin.append {ks : List Key} {k : Key} (h : WritesWithin ks) (new : k ∉ ks) (room : ks.length < 16) :
    WritesWithin (ks ++ [k]) := by
  refine ⟨?_, List.nodup_append_comm.mp (List.nodup_cons.mpr ⟨new, h.2⟩)⟩
  rw [List.length_append, List.length_singleton]
  exact room

theorem WritesWithin.sublist {ks ks' : List Key} (h : WritesWithin ks) (sub : ks'.Sublist ks) : WritesWithin ks' :=
  ⟨sub.length_le.trans h.1, h.2.sublist sub⟩

theorem State.Upkeep.offer (k : Key) : s.Upkeep (s.offer k) := by
  rcases s.offer_cases k with ⟨_, h⟩ | ⟨new, room, h⟩ | ⟨_, h⟩ <;> rw [h]
  · exact .refl s
  · exact .onStore s rfl rfl fun w => w.append new room
  · exact .countHistory s _

theorem State.Upkeep.putEntry (f : EntryFields) : s.Upkeep (s.putEntry f) := (State.Upkeep.offer _ _).from_stock rfl

theorem State.Upkeep.forget (gone : Key → Bool) : s.Upkeep (s.onStore (Store.forget gone)) :=
  .onStore s rfl rfl fun w => w.sublist List.filter_sublist

theorem State.Upkeep.removeEntry (k : Key) : s.Upkeep (s.removeEntry k) := (State.Upkeep.forget _ _).from_stock rfl

theorem State.Upkeep.sweepUnpersisted (s : State) : s.Upkeep s.sweepUnpersisted := by
  rcases s.sweepUnpersisted_cases with h | ⟨e, _, _, new, room, _, h⟩ <;> rw [h]
  · exact .refl s
  · exact .onStore s rfl rfl fun w => w.append new room

theorem State.Upkeep.afterRemovals (due : Option Key) : s.Upkeep (s.afterRemovals due) := by
  rcases s.afterRemovals_cases due with ⟨_, _, h⟩ | ⟨_, h⟩ <;> rw [h]
  · exact .sweepUnpersisted s
  · exact .refl s

theorem State.Upkeep.makeRoom (s : State) : s.Upkeep s.makeRoom := by
  unfold State.makeRoom
  split
  · exact .refl s
  · split
    · exact (State.Upkeep.removeEntry s _).trans ((State.Upkeep.countHistory _ _).trans (.afterRemovals _ _))
    · exact .refl s

theorem State.Upkeep.takeNotice (k : Key) (r : BitVec 4) (horizon : Nat) : s.Upkeep (s.takeNotice k r horizon) := by
  unfold State.takeNotice
  split
  · exact (State.Upkeep.makeRoom s).trans ((State.Upkeep.putEntry _ _).trans (.countHistory _ _))
  · exact (State.Upkeep.endAll s _ _).trans ((State.Upkeep.putEntry _ _).trans (.countHistory _ _))
  · exact (State.Upkeep.endAll s _ _).trans ((State.Upkeep.putEntry _ _).trans (.countHistory _ _))
  · exact .refl s

theorem State.Upkeep.takeWithdrawal (k : Key) (r : BitVec 4) (horizon : Nat) : s.Upkeep (s.takeWithdrawal k r horizon) := by
  unfold State.takeWithdrawal
  split
  · exact (State.Upkeep.makeRoom s).trans ((State.Upkeep.putEntry _ _).trans (.countHistory _ _))
  · exact (State.Upkeep.endAll s _ _).trans ((State.Upkeep.putEntry _ _).trans (.countHistory _ _))
  · exact (State.Upkeep.putEntry s _).trans (.countHistory _ _)
  · exact .countHistory s _
  · exact .countHistory s _

theorem State.Upkeep.sweepExpired (s : State) : s.Upkeep s.sweepExpired := by
  unfold State.sweepExpired
  split
  · exact (State.Upkeep.foldl (fun u k => (State.Upkeep.removeEntry u k).trans (.countHistory _ _)) _ s).trans (.afterRemovals _ _)
  · exact .refl s

theorem State.Upkeep.restamp (s : State) : s.Upkeep s.restamp := .foldl (fun u _ => .putEntry u _) _ s

theorem State.Upkeep.refillIndex (s : State) : s.Upkeep s.refillIndex := by
  unfold State.refillIndex
  refine State.Upkeep.trans ?_ (.foldl (fun u _ => .putEntry u _) _ _)
  exact (State.Upkeep.forget _ _).from_stock rfl

/-! ## The history store (R173 to R182) -/

theorem State.Upkeep.checkRamOnly (s : State) : s.Upkeep s.checkRamOnly := by
  unfold State.checkRamOnly
  split
  · exact .onStore s rfl rfl fun _ => ⟨Nat.zero_le 16, List.nodup_nil⟩
  · exact .refl s

theorem State.Upkeep.openSuccessor (s : State) : s.Upkeep s.openSuccessor := by
  unfold State.openSuccessor
  split
  · split
    · exact .of_stock rfl
    · exact .refl s
  · exact .refl s

theorem State.Upkeep.closeCurrent (k : Nat) : s.Upkeep (s.closeCurrent k) := by
  unfold State.closeCurrent
  split
  · exact .of_stock rfl
  · exact .refl s

theorem State.Upkeep.examineReclaim (s : State) : s.Upkeep s.examineReclaim := by
  unfold State.examineReclaim
  split
  · split
    · unfold State.startReclaim
      dsimp only
      have offered (u : State) (ks : List Key) : u.Upkeep (u.offerAll ks) := .foldl (fun u k => .offer u k) ks u
      refine State.Upkeep.trans ?_ (.onStore _ rfl rfl id)
      exact (offered _ _).from_stock rfl
    · exact .refl s
  · exact .refl s

theorem State.Upkeep.startWrite (s : State) : s.Upkeep s.startWrite := by
  have taken (k : Key) : WritesWithin s.store.writes → WritesWithin (s.store.takeWrite k).writes :=
    fun w => w.sublist List.erase_sublist
  unfold State.startWrite
  split
  · split
    · exact .onStore s rfl rfl (taken _)
    · exact .onStore s rfl rfl (taken _)
  · exact .refl s

theorem State.Upkeep.slotProgramEnd (verify : SlotVerify) (w : SlotProgram) : s.Upkeep (s.slotProgramEnd verify w) := by
  have committed (u : State) : u.Upkeep (u.writeCommitted w) := by
    unfold State.writeCommitted
    dsimp only
    split
    · exact (State.Upkeep.sweepUnpersisted _).from_stock rfl
    · exact (State.Upkeep.sweepUnpersisted _).from_stock rfl
  have closed (u : State) (p : Prop) [Decidable p] : u.Upkeep (if p then u.closeCurrent w.sector else u) := by
    split
    · exact .closeCurrent u _
    · exact .refl u
  have failed (u : State) (x : Slot) : u.Upkeep (u.writeFailed w x) := by
    unfold State.writeFailed
    refine State.Upkeep.trans ?_ (closed _ _)
    split
    · exact .of_stock rfl
    · exact (State.Upkeep.sweepUnpersisted _).from_stock rfl
  have ended : s.Upkeep (s.onStore fun x => { x with running := none }) := .of_stock rfl
  have used (u : State) : u.Upkeep (u.slotUsed w.sector) := (closed u _).trans (.examineReclaim _)
  cases verify
  · exact ended.trans ((committed _).trans (used _))
  · exact ended.trans ((failed _ _).trans (used _))
  · exact ended.trans ((failed _ _).trans (used _))

theorem State.Upkeep.startAmend (s : State) : s.Upkeep s.startAmend := by
  unfold State.startAmend
  split
  · exact .of_stock rfl
  · exact .refl s

theorem State.Upkeep.startErase (s : State) : s.Upkeep s.startErase := by
  unfold State.startErase
  split
  · exact .of_stock rfl
  · exact .refl s

theorem State.Upkeep.endScan (s : State) : s.Upkeep s.endScan := by
  have indexed (f : Index → Index) : s.Upkeep (s.onIndex f) := .of_stock rfl
  have rebuilt : s.Upkeep s.rebuildIndex := by
    unfold State.rebuildIndex
    exact (indexed _).trans (.countHistory _ _)
  have emptied (u : State) : u.Upkeep (u.onStore fun x => { x with writes := [], retry := none, failures := [0, 0, 0, 0] }) :=
    .onStore u rfl rfl fun _ => ⟨Nat.zero_le 16, List.nodup_nil⟩
  have scanned (u : State) : u.Upkeep { u with scanning := false } := .of_stock rfl
  have loaded (u : State) : u.Upkeep u.loadOverrides := .of_stock rfl
  exact rebuilt.trans ((emptied _).trans ((State.Upkeep.checkRamOnly _).trans ((scanned _).trans
    ((State.Upkeep.examineReclaim _).trans (loaded _)))))
end

/-! ## The resolution of notices and withdrawals leaves the reassembly unit (R76 to R80) -/

section
variable (s : State)

/-- Listed records that complete, with a code that is no acknowledgement. -/
theorem OnlyChanges.endAll {code : Code} (hc : code ≠ .acknowledged) (rs : List Record) :
    OnlyChanges [.records, .report] s (s.endAll code rs) := by
  rw [State.endAll_eq hc]
  intro x hx
  cases x <;> simp_all [Piece.same, State.ended]

/-- An entry put and counted, after a change of the index, the store, the records and the report queue. -/
theorem OnlyChanges.entryPut {u : State} (h : OnlyChanges [.index, .records, .report, .store, .outputs] s u) (f : EntryFields)
    (count : HistoryCounters → HistoryCounters) :
    OnlyChanges [.index, .records, .report, .store, .outputs] s ((u.putEntry f).countHistory count) :=
  (h.trans ((OnlyChanges.putEntry f u).mono (by simp))).trans ((OnlyChanges.countHistory _ count).mono (by simp))

theorem OnlyChanges.takeNotice (k : Key) (r : BitVec 4) (horizon : Nat) :
    OnlyChanges [.index, .records, .report, .store, .outputs] s (s.takeNotice k r horizon) := by
  unfold State.takeNotice
  split
  · exact .entryPut s ((OnlyChanges.makeRoom s).mono (by simp)) _ _
  · exact .entryPut s ((OnlyChanges.endAll s (by decide) _).mono (by simp)) _ _
  · exact .entryPut s ((OnlyChanges.endAll s (by decide) _).mono (by simp)) _ _
  · exact .refl _ s

theorem OnlyChanges.takeWithdrawal (k : Key) (r : BitVec 4) (horizon : Nat) :
    OnlyChanges [.index, .records, .report, .store, .outputs] s (s.takeWithdrawal k r horizon) := by
  unfold State.takeWithdrawal
  split
  · exact .entryPut s ((OnlyChanges.makeRoom s).mono (by simp)) _ _
  · exact .entryPut s ((OnlyChanges.endAll s (by decide) _).mono (by simp)) _ _
  · exact .entryPut s (.refl _ s) _ _
  · exact (OnlyChanges.countHistory s _).mono (by simp)
  · exact (OnlyChanges.countHistory s _).mono (by simp)
end

/-! ## The reassembly unit (R41, R48 to R60, R63) -/

section
variable {x : Intake}

/-- A context changed while no completion waits, its errors within their bound. -/
theorem Intake.Within.set (h : x.Within) (hc : x.completing = none) (n : Nat) {c : Option Context}
    (few : ∀ d, c = some d → d.errors ≤ 2) : { x with contexts := x.contexts.set n c }.Within where
  queue := h.queue
  contexts := by rw [List.length_set, h.contexts]
  errors d hd := by
    rcases List.mem_or_eq_of_mem_set hd with hd | hd
    · exact h.errors d hd
    · exact few d hd.symm
  completing m hm := by simp [hc] at hm

theorem Intake.collecting_of_lookup {k : Key} {r : BitVec 4} {n : Nat} {c : Context} (h : x.lookup k r = some (n, c)) :
    x.contexts[n]? = some (some c) := Intake.mem_collecting.mp (List.mem_of_find?_eq_some h)

theorem Intake.collecting_of_victim {rank : Nat} {v : Nat × Context} (h : x.victim rank = some v) :
    x.contexts[v.1]? = some (some v.2) := Intake.mem_collecting.mp (List.mem_filter.mp (least_mem h)).1

end

section
variable {s : State} (hc : s.intake.completing = none)
include hc

theorem State.Upkeep.setContext (n : Nat) {c : Option Context} (few : ∀ d, c = some d → d.errors ≤ 2) :
    s.Upkeep (s.setContext n c) := .onIntake s fun h => h.set hc n few

/-- A context that is not closed has at most two errors (R60). -/
theorem State.Upkeep.contextError (n : Nat) (c : Context) : s.Upkeep (s.contextError n c) := by
  unfold State.contextError
  split
  · exact (State.Upkeep.countIntake s _).trans (.setContext (s := s.countIntake _) hc n (by simp))
  · next few => exact .setContext hc n (by rintro d ⟨⟩; simp at few ⊢; omega)

theorem State.Upkeep.afterAccept {n : Nat} {c : Context} (inTable : n < s.intake.contexts.length) (few : c.errors ≤ 2) :
    s.Upkeep (s.afterAccept n c) := by
  have errors : ∀ d, some c = some d → d.errors ≤ 2 := by
    rintro d ⟨⟩
    exact few
  unfold State.afterAccept
  split
  · split
    · refine (State.Upkeep.countIntake s _).trans (.onIntake _ fun h => ?_)
      obtain ⟨queue, contexts, errors, -⟩ := h.set hc n errors
      refine ⟨queue, contexts, errors, ?_⟩
      rintro m ⟨⟩
      exact ⟨c, List.getElem?_set_self inTable⟩
    · exact (State.Upkeep.countIntake s _).trans (.contextError (s := s.countIntake _) hc n _)
  · exact .setContext hc n errors

theorem State.Upkeep.allocate {n : Nat} (inTable : n < s.intake.contexts.length) (f : Fragment) (rank : Nat) :
    s.Upkeep (s.allocate n f rank) := by
  have counted : s.Upkeep (s.onIntake fun i => { i with allocations := i.allocations + 1 }) :=
    .onIntake s fun h => ⟨h.queue, h.contexts, h.errors, h.completing⟩
  exact counted.trans (.afterAccept (s := s.onIntake fun i => { i with allocations := i.allocations + 1 }) hc inTable (Nat.zero_le 2))

theorem State.Upkeep.allocateFor (f : Fragment) (rank : Nat) : s.Upkeep (s.allocateFor f rank) := by
  unfold State.allocateFor
  split
  · next n free => exact .allocate hc (List.findIdx?_eq_some_iff_findIdx_eq.mp free).1 f rank
  · split
    · next v victim =>
      obtain ⟨inTable, -⟩ := List.getElem?_eq_some_iff.mp (Intake.collecting_of_victim victim)
      exact (State.Upkeep.countIntake s _).trans (.allocate (s := s.countIntake _) hc inTable f rank)
    · exact .countIntake s _

theorem State.Upkeep.join {n : Nat} {c : Context} (at_n : s.intake.contexts[n]? = some (some c)) (few : c.errors ≤ 2) (f : Fragment) :
    s.Upkeep (s.join n c f) := by
  obtain ⟨inTable, -⟩ := List.getElem?_eq_some_iff.mp at_n
  have counted (count : IntakeCounters → IntakeCounters) : s.Upkeep (s.countIntake count) := .countIntake s count
  unfold State.join
  split
  · exact (counted _).trans (.contextError (s := s.countIntake _) hc n c)
  · split
    · dsimp only
      split
      · exact (counted _).trans (.contextError (s := s.countIntake _) hc n c)
      · next first =>
        refine (counted _).trans (.afterAccept (s := s.countIntake _) hc inTable ?_)
        exact Nat.le_of_lt_succ (Nat.not_le.mp first)
    · split
      · exact (counted _).trans (.setContext (s := s.countIntake _) hc n (by rintro d ⟨⟩; exact few))
      · exact .afterAccept hc inTable few

theorem State.Upkeep.takeNoticeFragment (tidy : s.Tidy) (f : Fragment) (w : Window) : s.Upkeep (s.takeNoticeFragment f w) := by
  unfold State.takeNoticeFragment
  split
  · exact .countIntake s _
  · split
    · next e found =>
      have at_n := Intake.collecting_of_lookup found
      exact .join hc at_n (tidy.intake.errors _ (List.mem_of_getElem? at_n)) f
    · exact .allocateFor hc f _

theorem State.Upkeep.takePayload (tidy : s.Tidy) (p : List Byte) : s.Upkeep (s.takePayload p) := by
  unfold State.takePayload
  split
  · exact .countIntake s _
  · split
    · unfold State.takeUnlisted
      split
      · exact .countIntake s _
      · split
        · exact (State.Upkeep.countIntake _ _).from_stock rfl
        · exact .countIntake s _
    · split
      · exact (State.Upkeep.countIntake s _).trans (.takeWithdrawal _ _ _ _)
      · exact .takeNoticeFragment hc tidy _ _

theorem State.Upkeep.sweepContexts : s.Upkeep s.sweepContexts := by
  rw [State.sweepContexts_eq]
  unfold State.swept
  refine .onIntake s fun h => ⟨h.queue, by simpa using h.contexts, fun c mem => ?_, fun m hm => by simp [hc] at hm⟩
  obtain ⟨d, hd, left⟩ := List.mem_map.mp mem
  split at left
  · cases left
  · exact h.errors c (left ▸ hd)
end

section
variable (s : State)

theorem State.Upkeep.finishCompletion : s.Upkeep s.finishCompletion := by
  have settling : s.Upkeep (s.onIntake fun i => { i with completing := none }) :=
    .onIntake s fun h => ⟨h.queue, h.contexts, h.errors, nofun⟩
  have settled (n : Nat) (c : Context) (u : State) (hc : u.intake.completing = none) : u.Upkeep (u.settleCompletion n c) := by
    have closed {v : State} (h : u.Upkeep v) (hv : v.intake.completing = none) : u.Upkeep (v.setContext n none) :=
      h.trans (.setContext hv n (by simp))
    unfold State.settleCompletion
    split
    · exact closed (.countIntake u _) hc
    · split
      · exact closed (.countIntake u _) hc
      · refine closed ((State.Upkeep.takeNotice u _ _ _).trans (.create _ _)) ?_
        exact (congrArg Intake.completing
          ((State.Received.create _ _ _).intake.trans (OnlyChanges.takeNotice u _ _ _ .intake (by simp)))).trans hc
  unfold State.finishCompletion
  split
  · exact .refl s
  · dsimp only
    split
    · exact settling.trans (settled _ _ _ rfl)
    · exact settling

theorem State.Upkeep.takeOldest (hc : s.intake.completing = none) (tidy : s.Tidy) (interrupted : Bool) (p : List Byte) :
    s.Upkeep (s.takeOldest interrupted p) := by
  have popped : s.Upkeep s.popFragment := .onIntake s fun h =>
    ⟨(List.drop_sublist 1 _).length_le.trans h.queue, h.contexts, h.errors, h.completing⟩
  have taken := popped.trans (.takePayload (s := s.popFragment) hc (popped.tidy tidy) p)
  cases interrupted
  · exact taken.trans (.finishCompletion _)
  · exact taken
end

end Sys2Proof.Machine
end

section
/-!
PROOFS. What every step keeps of the queues, the tables, the reply places and the reminder step (R145, R192, R193, R200).
-/

namespace Sys2Proof.Machine

/-! ## Requests and replies -/

/-- The request queue and the reply places within their bounds, one reservation for the one deferred reply (R192, R193, R200). -/
structure State.Attended (s : State) : Prop where
  requests : s.management.requests.length ≤ 4
  replies : s.management.replies.length + (if s.management.reserved then 1 else 0) ≤ 4
  reserved : s.management.reserved = (s.store.job.isSome || s.store.clear.isSome)
  oneDeferred : s.store.job = none ∨ s.store.clear = none

/-- The reminder step of a powered part, with the increase that is owed, follows the epoch count (R145, log entry 2). -/
def State.StepFollows (s : State) : Prop :=
  s.powered = true →
    (s.ack.step.toNat + (if s.due.reminderStep then 1 else 0)) % 65536 = s.time.epoch.toNat / 16 % 65536 ∧
      (s.due.reminderStep = true → s.time.epoch.toNat % 16 = 0)

/-- The bounds, in three parts. -/
theorem State.bounded_iff {s : State} : s.Bounded ↔ s.Tidy ∧ s.Attended ∧ s.StepFollows := by
  constructor
  · rintro ⟨queue, ⟨contexts, errors⟩, completing, held, receipts, report, writes, requests, replies, reserved, one, step⟩
    exact ⟨⟨⟨queue, contexts, errors, completing⟩, held, receipts, report, writes⟩, ⟨requests, replies, reserved, one⟩, step⟩
  · rintro ⟨⟨⟨queue, contexts, errors, completing⟩, held, receipts, report, writes⟩, ⟨requests, replies, reserved, one⟩, step⟩
    exact ⟨queue, ⟨contexts, errors⟩, completing, held, receipts, report, writes, requests, replies, reserved, one, step⟩

theorem State.Attended.of_desk {s t : State} (h : t.desk = s.desk) (a : s.Attended) : t.Attended := by
  simp only [State.desk, Prod.mk.injEq] at h
  obtain ⟨management, job, clear⟩ := h
  obtain ⟨requests, replies, reserved, one⟩ := a
  exact ⟨management ▸ requests, management ▸ replies, by rw [management, job, clear, reserved], by rwa [job, clear]⟩

/-- An operation keeps all the bounds, and does not touch the reminder step. -/
structure State.Service (s t : State) : Prop where
  clock : t.clock = s.clock
  tidy : s.Tidy → t.Tidy
  attended : s.Attended → t.Attended

theorem State.Upkeep.service {s t : State} (h : s.Upkeep t) : s.Service t := ⟨h.clock, h.tidy, .of_desk h.desk⟩

theorem State.Service.of_stock {s t : State} (h : t.stock = s.stock) : s.Service t := (State.Upkeep.of_stock h).service

theorem State.Service.trans {s t u : State} (h : s.Service t) (h' : t.Service u) : s.Service u :=
  ⟨h'.clock.trans h.clock, h'.tidy ∘ h.tidy, h'.attended ∘ h.attended⟩

theorem State.Service.bounded {s t : State} (h : s.Service t) (b : s.Bounded) : t.Bounded := by
  obtain ⟨tidy, attended, follows⟩ := State.bounded_iff.mp b
  refine State.bounded_iff.mpr ⟨h.tidy tidy, h.attended attended, ?_⟩
  have clock := h.clock
  simp only [State.clock, Prod.mk.injEq] at clock
  obtain ⟨powered, step, due, epoch⟩ := clock
  unfold State.StepFollows
  rwa [powered, step, due, epoch]

/-- The outputs follow (R166, R174). -/
theorem State.Service.settle (s : State) : s.Service s.settle := .of_stock rfl

/-- An event whose effect is within the bounds. -/
theorem State.Bounded.of_occur {s t : State} {ready : Bool} {effect : State → State} (h : s.occur ready effect = .next t)
    (b : s.Bounded) (hu : ready = true → (effect s).Bounded) : t.Bounded := by
  rcases State.occur_cases h with ⟨_, hr, rfl⟩ | ⟨_, rfl⟩
  · exact (State.Service.settle _).bounded (hu hr)
  · exact b

theorem State.Bounded.of_service {s t : State} {ready : Bool} {effect : State → State} (h : s.occur ready effect = .next t)
    (b : s.Bounded) (hu : ready = true → s.Service (effect s)) : t.Bounded :=
  .of_occur h b fun hr => (hu hr).bounded b

theorem State.Bounded.of_upkeep {s t : State} {ready : Bool} {effect : State → State} (h : s.occur ready effect = .next t)
    (b : s.Bounded) (hu : s.Upkeep (effect s)) : t.Bounded :=
  .of_service h b fun _ => hu.service

/-! ## Replies (R193, R194, R200) -/

section
variable {s : State}

/-- A reply made at once takes a free place. -/
theorem State.Service.answer (free : s.management.placeFree = true) (p : List Byte) (result : Result) (data : List Byte) :
    s.Service (s.answer p result data) := by
  refine ⟨rfl, fun ⟨hi, hh, ha, hr, hw⟩ => ⟨hi, hh, ha, hr, hw⟩, fun a => ⟨a.requests, ?_, a.reserved, a.oneDeferred⟩⟩
  have place := of_decide_eq_true free
  change _ < 4 at place
  change (s.management.replies ++ [_]).length + (if s.management.reserved then 1 else 0) ≤ 4
  rw [List.length_append, List.length_singleton]
  omega

/-- A reply made at once, after an operation that leaves requests and replies. -/
theorem State.Upkeep.answer {t : State} (h : s.Upkeep t) (free : s.management.placeFree = true) (p : List Byte) (result : Result)
    (data : List Byte) : s.Service (t.answer p result data) := by
  refine h.service.trans (.answer ?_ p result data)
  have desk := h.desk
  simp only [State.desk, Prod.mk.injEq] at desk
  rwa [desk.1]

/-- A deferred reply takes the place reserved for it, its program or clear being outstanding no more. -/
theorem State.Attended.deferred {t : State} (a : s.Attended) (r : Request) (tag : Byte) (result : Result)
    (outstanding : s.store.job.isSome || s.store.clear.isSome) (job : t.store.job = none) (clear : t.store.clear = none)
    (same : t.management = s.management) : (t.deferredReply r tag result).Attended := by
  obtain ⟨requests, replies, reserved, -⟩ := a
  rw [reserved, if_pos outstanding] at replies
  refine ⟨?_, ?_, ?_, .inl job⟩
  · simpa [State.deferredReply, State.onManagement, same] using requests
  · simpa [State.deferredReply, State.onManagement, same] using replies
  · change false = (t.store.job.isSome || t.store.clear.isSome)
    rw [job, clear]
    rfl

/-- A place is reserved for the one program or clear that becomes outstanding. -/
theorem State.Attended.reserve {t : State} (a : s.Attended) (free : s.management.placeFree = true) (unoccupied : s.store.occupied = false)
    (same : t.management = { s.management with reserved := true }) (one : t.store.job = none ∨ t.store.clear = none)
    (outstanding : t.store.job.isSome || t.store.clear.isSome) : t.Attended := by
  obtain ⟨requests, -, reserved, -⟩ := a
  have place := of_decide_eq_true free
  have unreserved : s.management.reserved = false := reserved.trans unoccupied
  rw [unreserved] at place
  change _ < 4 at place
  refine ⟨?_, ?_, ?_, one⟩
  · rwa [same]
  · rw [same]
    exact place
  · rw [same, outstanding]
end

/-! ## CLEAR HISTORY and the header amends (R179, R181, R187) -/

section
variable (s : State)

/-- The reply to the clear, which is outstanding. -/
theorem State.Service.finishClear {c : Clear} (hc : s.store.clear = some c) (tag : Byte) : s.Service (s.finishClear tag) := by
  refine ⟨rfl, fun ⟨hi, hh, ha, hr, hw⟩ => ⟨hi, hh, ha, hr, hw⟩, fun a => ?_⟩
  have noJob : s.store.job = none := a.oneDeferred.resolve_right (by simp [hc])
  exact a.deferred .clearHistory tag .done (by simp [hc]) noJob rfl rfl

theorem State.Service.settleClear : s.Service s.settleClear := by
  unfold State.settleClear
  split
  · exact (State.Upkeep.refl s).service
  · next c hc =>
    split_ifs
    · exact (State.Upkeep.refl s).service
    · have kept : s.checkRamOnly.store.clear = some c := by
        have desk := (State.Upkeep.checkRamOnly s).desk
        simp only [State.desk, Prod.mk.injEq] at desk
        exact desk.2.2.trans hc
      exact (State.Upkeep.checkRamOnly s).service.trans (.finishClear _ kept _)
    · exact (State.Upkeep.refl s).service
    · split
      · refine ⟨rfl, fun ⟨hi, hh, ha, hr, hw⟩ => ⟨hi, hh, ha, hr, hw⟩, fun a => ?_⟩
        have outstanding (opening : Bool) : s.management.reserved = (s.store.job.isSome || (some { c with opening }).isSome) :=
          a.reserved.trans (by rw [hc]; rfl)
        exact ⟨a.requests, a.replies, outstanding true, .inl (a.oneDeferred.resolve_right (by simp [hc]))⟩
      · exact .finishClear s hc _

theorem State.Service.opened (k : Nat) (q : Half) : s.Service (s.opened k q) := by
  unfold State.opened
  split
  · next c hc =>
    split
    · refine State.Service.trans ?_ (.finishClear _ (c := c) ?_ _)
      · exact .of_stock rfl
      · exact hc
    · exact .of_stock rfl
  · exact .of_stock rfl

theorem State.Service.amendEnd (passed : Bool) (r : AmendRequest) : s.Service (s.amendEnd passed r) := by
  have stopped : s.Upkeep (s.onStore fun x => { x with running := none }) := .of_stock rfl
  have marked (u : State) (f : Sector → Sector) : u.Upkeep (u.onSector r.sector f) := .of_stock rfl
  unfold State.amendEnd
  dsimp only
  split
  · have taken := stopped.trans (marked _ (Sector.program r.amend))
    unfold State.amendPassed
    dsimp only
    split
    · exact taken.service.trans (.opened _ _ _)
    · exact (taken.trans ((State.Upkeep.openSuccessor _).trans (.examineReclaim _))).service
    · exact taken.service.trans (.settleClear _)
    · exact taken.service
  · have doubted := stopped.trans (marked _ fun x => { x with doubt := some r.amend })
    unfold State.amendFailed
    dsimp only
    split_ifs
    · exact (doubted.trans (.onStore _ rfl rfl id)).service
    · exact doubted.service
    · have retired (u : State) : u.Upkeep (u.onStore (Store.retireForGood r.sector)) := .of_stock rfl
      exact (doubted.trans ((retired _).trans ((State.Upkeep.checkRamOnly _).trans (.openSuccessor _)))).service.trans (.settleClear _)

theorem State.Service.endErase (passed : Bool) (k : Nat) : s.Service (s.endErase passed k) := by
  have stopped : s.Upkeep (s.onStore fun x => { x with erase := none }) := .of_stock rfl
  have counted (u : State) (f : Sector → Sector) (count : HistoryCounters → HistoryCounters) :
      u.Upkeep ((u.onSector k f).countHistory count) := .of_stock rfl
  unfold State.endErase
  dsimp only
  split
  · unfold State.erasePassed
    have reclaimed (u : State) : u.Upkeep (u.onStore fun x => { x with reclaims := x.reclaims.filter (· != k) }) := .of_stock rfl
    exact (stopped.trans ((counted _ _ _).trans ((reclaimed _).trans ((State.Upkeep.openSuccessor _).trans
      (.examineReclaim _))))).service.trans (.settleClear _)
  · unfold State.eraseFailed
    have retired (u : State) : u.Upkeep (u.onStore fun x => (x.retireForGood k).requestAmend k .worn) := .of_stock rfl
    exact (stopped.trans ((counted _ _ _).trans ((retired _).trans ((State.Upkeep.checkRamOnly _).trans
      (.examineReclaim _))))).service.trans (.settleClear _)

/-! ## Provisioning programs (R185, R186) -/

theorem State.Service.provisioningEnd {j : ProvisioningJob} (hj : s.store.job = some j) (passed : Bool) :
    s.Service (s.provisioningEnd passed j) := by
  have answered {u : State} (h : s.Upkeep u) (result : Result) : s.Service (u.endJob j result) := by
    obtain ⟨clock, desk, tidy⟩ := h
    simp only [State.desk, Prod.mk.injEq] at desk
    obtain ⟨management, job, clear⟩ := desk
    refine ⟨clock, fun t => ?_, fun a => ?_⟩
    · obtain ⟨hi, hh, ha, hr, hw⟩ := tidy t
      exact ⟨hi, hh, ha, hr, hw⟩
    · have noClear : u.store.clear = none := clear.trans (a.oneDeferred.resolve_left (by simp [hj]))
      exact a.deferred _ j.tag result (by simp [hj]) rfl noClear management
  have again {u : State} (h : s.Upkeep u) (j' : ProvisioningJob) : s.Service (u.onStore fun x => { x with job := some j' }) := by
    obtain ⟨clock, desk, tidy⟩ := h
    simp only [State.desk, Prod.mk.injEq] at desk
    obtain ⟨management, job, clear⟩ := desk
    refine ⟨clock, fun t => ?_, fun a => ?_⟩
    · obtain ⟨hi, hh, ha, hr, hw⟩ := tidy t
      exact ⟨hi, hh, ha, hr, hw⟩
    · have noClear : u.store.clear = none := clear.trans (a.oneDeferred.resolve_left (by simp [hj]))
      have reserved : u.management.reserved = true := by rw [management, a.reserved, hj]; rfl
      exact ⟨management ▸ a.requests, management ▸ a.replies, reserved, .inr noClear⟩
  have counted (count : HistoryCounters → HistoryCounters) : s.Upkeep ((s.onStore fun x => { x with running := none }).countHistory count) :=
    .of_stock rfl
  have programmed (u : State) (f : ProvisioningSlot → ProvisioningSlot) : u.Upkeep (u.onProvisioningSlot j.slot f) := .of_stock rfl
  have reloaded (u : State) : u.Upkeep (u.loadOverride j.slot) := .of_stock rfl
  unfold State.provisioningEnd
  dsimp only
  split
  · unfold State.provisioningPassed
    dsimp only
    split
    · exact answered ((counted _).trans ((programmed _ _).trans (reloaded _))) _
    · exact answered ((counted _).trans (programmed _ _)) _
  · unfold State.provisioningFailed
    dsimp only
    split
    · split
      · exact again ((counted _).trans (programmed _ _)) _
      · exact answered ((counted _).trans (programmed _ _)) _
    · split
      · exact answered ((counted _).trans (programmed _ _)) _
      · exact again ((counted _).trans (programmed _ _)) _
end

/-! ## Requests (R192 to R202) -/

/-- The oldest request leaves the request queue (R192). -/
theorem State.Service.popRequest (s : State) : s.Service s.popRequest :=
  ⟨rfl, fun ⟨hi, hh, ha, hr, hw⟩ => ⟨hi, hh, ha, hr, hw⟩,
    fun a => ⟨(List.drop_sublist 1 _).length_le.trans a.requests, a.replies, a.reserved, a.oneDeferred⟩⟩

section
variable {s : State} (free : s.management.placeFree = true)
include free

/-- A request whose own meaning answers it once, or reserves the place of its reply. -/
theorem State.Service.carryOut (r : Request) {own : List Byte → State → State}
    (h : ∀ p (u : State), u.management.placeFree = true → u.Service (own p u)) : s.Service (s.carryOut r own) := by
  have popped := State.Service.popRequest s
  unfold State.carryOut
  dsimp only
  split
  · exact popped.trans (.answer (s := s.popRequest) free _ _ _)
  · exact popped.trans (h _ s.popRequest free)

variable (p : List Byte)

theorem State.Service.getCounters : s.Service (s.getCounters p) := by
  have cleared (u : State) (group : Nat) : u.Upkeep (u.clearGroup group) := by
    match group with
    | 0 | 1 | 3 | 4 | _ + 5 => exact .of_stock rfl
    | 2 => exact .countIntake u fun _ => .zero
  unfold State.getCounters
  dsimp only
  split
  · exact .answer free _ _ _
  · split_ifs
    · exact .answer free _ _ _
    · exact (State.Service.answer free _ _ _).trans (cleared _ _).service
    · exact .answer free _ _ _

theorem State.Service.setTime : s.Service (s.setTime p) := by
  unfold State.setTime
  refine State.Upkeep.answer ?_ free _ _ _
  exact (State.Upkeep.restamp _).from_stock rfl

theorem State.Service.setPosition : s.Service (s.setPosition p) := by
  unfold State.setPosition
  split
  · unfold State.acceptPosition
    refine State.Upkeep.answer ?_ free _ _ _
    exact (State.Upkeep.foldl State.Upkeep.judgeHeld _ _).from_stock rfl
  · exact .answer free _ _ _

theorem State.Service.loadWindow : s.Service (s.loadWindow p) := by
  unfold State.loadWindow
  dsimp only
  split
  · exact .answer free _ _ _
  · split_ifs
    · exact .answer free _ _ _
    · exact .answer free _ _ _
    · refine State.Upkeep.answer ?_ free _ _ _
      exact .of_stock rfl

theorem State.Service.muteWindow : s.Service (s.muteWindow p) := by
  unfold State.muteWindow
  dsimp only
  split
  · exact .answer free _ _ _
  · split_ifs
    · exact .answer free _ _ _
    · exact .answer free _ _ _
    · exact .answer free _ _ _
    · refine State.Upkeep.answer ?_ free _ _ _
      exact .of_stock rfl

theorem State.Service.readWindow : s.Service (s.readWindow p) := by
  unfold State.readWindow
  dsimp only
  split <;> exact .answer free _ _ _

/-- A provisioning program is requested while none, and no clear, is outstanding. -/
theorem State.Service.requestProgram (unoccupied : s.store.occupied = false) (target : ProvisioningTarget) :
    s.Service (s.requestProgram p target) := by
  refine ⟨rfl, fun ⟨hi, hh, ha, hr, hw⟩ => ⟨hi, hh, ha, hr, hw⟩, fun a => ?_⟩
  obtain ⟨-, noClear⟩ : s.store.job = none ∧ s.store.clear = none := by simpa [Store.occupied] using unoccupied
  exact a.reserve free unoccupied rfl (.inr noClear) rfl

theorem State.Service.provision : s.Service (s.provision p) := by
  unfold State.provision
  dsimp only
  split
  · exact .answer free _ _ _
  · split_ifs with far busy locked
    · exact .answer free _ _ _
    · exact .answer free _ _ _
    · exact .answer free _ _ _
    · split
      · exact .answer free _ _ _
      · exact .requestProgram free p (Bool.eq_false_of_not_eq_true busy) _

theorem State.Service.lockProvision : s.Service (s.lockProvision p) := by
  unfold State.lockProvision
  dsimp only
  split_ifs with far busy locked
  · exact .answer free _ _ _
  · exact .answer free _ _ _
  · exact .answer free _ _ _
  · exact .requestProgram free p (Bool.eq_false_of_not_eq_true busy) _

theorem State.Service.acknowledge : s.Service (s.acknowledge p) := by
  unfold State.acknowledge
  split
  · exact .answer free _ _ _
  · split
    · exact .answer free _ _ _
    · exact .answer free _ _ _
    · exact (State.Upkeep.complete s _ _).answer free _ _ _
    · refine State.Upkeep.answer ?_ free _ _ _
      split
      · exact .latch s _ _
      · exact .refl s

theorem State.Service.fetchRecord : s.Service (s.fetchRecord p) := by
  unfold State.fetchRecord
  split
  · exact .answer free _ _ _
  · split
    · exact .answer free _ _ _
    · exact .answer free _ _ _
    · exact .answer free _ _ _
    · exact (State.Upkeep.onRecords s (by simp [Records.update])).answer free _ _ _

theorem State.Service.configure : s.Service (s.configure p) := by
  unfold State.configure
  split
  · exact .answer free _ _ _
  · refine State.Upkeep.answer ?_ free _ _ _
    exact .of_stock rfl

/-- A clear begins while no clear and no provisioning program is outstanding. -/
theorem State.Service.clearHistory : s.Service (s.clearHistory p) := by
  unfold State.clearHistory
  split_ifs with busy
  · exact .answer free _ _ _
  · have filled := State.Upkeep.refillIndex s.reserve
    have desk := filled.desk
    simp only [State.desk, Prod.mk.injEq] at desk
    obtain ⟨management, job, clear⟩ := desk
    obtain ⟨noJob, -⟩ : s.store.job = none ∧ s.store.clear = none := by simpa [Store.occupied] using busy
    refine State.Service.trans ?_ (State.Service.settleClear _)
    refine ⟨filled.clock, fun ⟨hi, hh, ha, hr, hw⟩ => ?_, fun a => ?_⟩
    · obtain ⟨hi, hh, ha, hr, hw⟩ := filled.tidy ⟨hi, hh, ha, hr, hw⟩
      exact ⟨hi, hh, ha, hr, hw⟩
    · refine a.reserve free (Bool.eq_false_of_not_eq_true busy) management (.inl (job.trans noJob)) ?_
      exact Bool.or_true _
end

/-! ## The link path (R11 to R18) -/

section
variable (s : State)

theorem State.Service.sortM {f : Frame} (room : s.roomForM f = true) : s.Service (s.sortM f) := by
  unfold State.sortM
  unfold State.roomForM at room
  dsimp only
  split_ifs with fragment
  · rw [if_pos fragment] at room
    refine State.Upkeep.service (State.Upkeep.trans (t := s.onPort .m PortState.dropHead) (.of_stock rfl) (.onIntake _ fun h => ?_))
    refine ⟨?_, h.contexts, h.errors, h.completing⟩
    rw [List.length_append, List.length_singleton]
    exact of_decide_eq_true room
  · exact .of_stock rfl
  · exact .of_stock rfl

theorem State.Service.sortP {f : Frame} (room : s.roomForP f = true) : s.Service (s.sortP f) := by
  unfold State.sortP
  unfold State.roomForP at room
  dsimp only
  split_ifs with management
  · rw [if_pos management] at room
    refine ⟨rfl, fun ⟨hi, hh, ha, hr, hw⟩ => ⟨hi, hh, ha, hr, hw⟩, fun a => ⟨?_, a.replies, a.reserved, a.oneDeferred⟩⟩
    simp only [State.onManagement, List.length_append, List.length_singleton]
    exact of_decide_eq_true room
  · exact .of_stock rfl
  · exact .of_stock rfl

theorem State.Service.doneWith (port : Port) (source : Source) : s.Service (s.doneWith port source) := by
  have shorter {α : Type} {l : List α} {n : Nat} (h : l.length ≤ n) : (l.drop 1).length ≤ n := (List.drop_sublist 1 l).length_le.trans h
  unfold State.doneWith
  cases source with
  | reply =>
    refine ⟨rfl, fun ⟨hi, hh, ha, hr, hw⟩ => ⟨hi, hh, ha, hr, hw⟩, fun a => ⟨a.requests, ?_, a.reserved, a.oneDeferred⟩⟩
    exact (Nat.add_le_add_right (shorter le_rfl) _).trans a.replies
  | receipt => exact ⟨rfl, fun ⟨hi, hh, ha, hr, hw⟩ => ⟨hi, hh, shorter ha, hr, hw⟩, .of_desk rfl⟩
  | forwarded => exact .of_stock rfl
  | delivery => exact (State.Upkeep.refl s).service
  | report => exact (State.Upkeep.refl s).service

theorem State.Service.frameSent (port : Port) : s.Service (s.frameSent port) := by
  cases h : (s.link.port port).sending with
  | none =>
    simp only [State.frameSent, h]
    exact (State.Upkeep.refl s).service
  | some x =>
    rw [State.frameSent_of_sending h]
    refine State.Service.trans ?_ (.doneWith _ port x.source)
    exact .of_stock rfl

theorem State.Upkeep.arbitrateM : s.Upkeep s.arbitrateM := by
  unfold State.arbitrateM
  split
  · split
    · exact .of_stock rfl
    · exact .refl s
  · split
    · exact .of_stock rfl
    · exact .refl s

theorem State.Upkeep.arbitrateP : s.Upkeep s.arbitrateP := by
  have flagged (u : State) (b : Bool) : u.Upkeep (u.setLastForwarded b) := .of_stock rfl
  have forwarded : s.Upkeep s.takeForwarded := by
    unfold State.takeForwarded
    split
    · exact .of_stock rfl
    · exact .refl s
  have replied : s.Upkeep s.takeReply := by
    unfold State.takeReply
    split
    · exact .of_stock rfl
    · exact .refl s
  unfold State.arbitrateP
  split
  · exact (State.Upkeep.takeSequenceFrame s _).trans (flagged _ _)
  · split_ifs
    · exact replied.trans (flagged _ _)
    · exact forwarded
    · exact (State.Upkeep.takeDeliveryWork s).trans (flagged _ _)
    · exact (State.Upkeep.takeReport s).trans (flagged _ _)
    · exact forwarded
end

/-! ## The epoch and its events (R1, R133, R145, R160) -/

section
variable (s : State)

theorem State.Upkeep.checkPosition : s.Upkeep s.checkPosition := by
  unfold State.checkPosition
  split
  · exact .of_stock rfl
  · exact .refl s

theorem State.Upkeep.examineHeld : s.Upkeep s.examineHeld :=
  .foldl (fun u r => (State.Upkeep.complete u _ r).trans (.countArea _ _)) _ s

theorem State.Upkeep.takeDecrement : s.Upkeep s.takeDecrement := (State.Upkeep.decrement _).from_stock rfl
end

/-- The step that is owed, made: it follows the epoch count with none owed. -/
theorem step_made {step : Half} {epoch : Nat} (h : (step.toNat + 1) % 65536 = epoch / 16 % 65536) :
    (step + 1).toNat % 65536 = epoch / 16 % 65536 := by
  rw [BitVec.toNat_add, Nat.mod_mod]
  exact h

theorem State.takeStep_bounded {s : State} (b : s.Bounded) (owed : s.due.reminderStep = true) : s.takeStep.Bounded := by
  obtain ⟨⟨hi, hh, ha, hr, hw⟩, attended, follows⟩ := State.bounded_iff.mp b
  refine State.bounded_iff.mpr ⟨⟨hi, hh, ha, hr, hw⟩, .of_desk (s := s) rfl attended, fun on => ⟨?_, nofun⟩⟩
  obtain ⟨step, -⟩ := follows on
  rw [owed] at step
  exact step_made step

/-- The epoch count in the epoch after, once no step is owed. -/
theorem epoch_after {step : Half} {epoch : Word} (h : step.toNat % 65536 = epoch.toNat / 16 % 65536) :
    (step.toNat + (if stepEpoch (epoch + 1) then 1 else 0)) % 65536 = (epoch + 1).toNat / 16 % 65536 ∧
      (stepEpoch (epoch + 1) = true → (epoch + 1).toNat % 16 = 0) := by
  have one : (1 : Word).toNat = 1 := rfl
  have := epoch.isLt
  rw [stepEpoch_succ, BitVec.toNat_add, one]
  simp only [decide_eq_true_eq]
  split <;> omega

/-- An increase of the epoch count, once no step is owed, owes the step of a multiple of 16. -/
theorem State.owe_bounded {s : State} (b : s.Bounded) (on : s.powered = true) (made : s.due.reminderStep = false) :
    ((s.onTime Timebase.advance).onDue (EpochDue.owe (s.time.epoch + 1))).Bounded := by
  obtain ⟨⟨hi, hh, ha, hr, hw⟩, attended, follows⟩ := State.bounded_iff.mp b
  refine State.bounded_iff.mpr ⟨⟨hi, hh, ha, hr, hw⟩, .of_desk (s := s) rfl attended, fun _ => ?_⟩
  obtain ⟨step, -⟩ := follows on
  rw [made] at step
  exact epoch_after step

theorem State.advanceEpoch_bounded {s : State} (b : s.Bounded) (on : s.powered = true) : s.advanceEpoch.Bounded := by
  have decremented : (if s.due.flushCountdown then s.takeDecrement else s).Bounded := by
    split
    · exact (State.Upkeep.takeDecrement s).service.bounded b
    · exact b
  have powered : (if s.due.flushCountdown then s.takeDecrement else s).powered = true := by split <;> exact on
  unfold State.advanceEpoch
  generalize (if s.due.flushCountdown then s.takeDecrement else s) = u at decremented powered
  dsimp only
  split
  · next owed => exact State.owe_bounded (State.takeStep_bounded decremented owed) powered rfl
  · next none => exact State.owe_bounded decremented powered (Bool.eq_false_of_not_eq_true none)

/-! ## Resets and the loss of power (R21, R190, R202) -/

/-- A part whose queues and tables are in their reset state. -/
theorem State.Bounded.of_reset {t : State} (intake : t.intake = .reset) (records : t.records = .reset) (ack : t.ack = .reset)
    (report : t.report = .reset) (management : t.management = .reset) (writes : t.store.writes = []) (job : t.store.job = none)
    (clear : t.store.clear = none) (due : t.due = .none) (epoch : t.time.epoch = 0) : t.Bounded := by
  obtain ⟨hi, hh, ha, hr, hw⟩ := (State.bounded_iff.mp State.reset_bounded).1
  refine State.bounded_iff.mpr ⟨⟨intake ▸ hi, records ▸ hh, ack ▸ ha, report ▸ hr, writes ▸ hw⟩, ?_, fun _ => ?_⟩
  · exact State.reset_bounded |> State.bounded_iff.mp |>.2.1.of_desk (by simp only [State.desk, management, job, clear]; rfl)
  · rw [ack, due, epoch]
    exact ⟨rfl, nofun⟩

theorem State.endReset_bounded (soft : Bool) (rate : BitVec 2) (worn : Nat) (s : State) : (s.endReset soft rate worn).Bounded := by
  obtain ⟨a, x, left, quiet, -⟩ := s.endReset_cases soft rate worn
  rw [left]
  exact .of_reset rfl rfl rfl rfl rfl quiet.writes quiet.job quiet.clear rfl (by cases soft <;> rfl)

theorem State.losePower_bounded (s : State) : s.losePower.Bounded := .of_reset rfl rfl rfl rfl rfl rfl rfl rfl rfl rfl

/-- A RESET that a check refuses has a place for its reply; any other resets the part. -/
theorem State.carryOut_reset_bounded {s : State} (b : s.Bounded) (ready : s.resetReady = true) (rate : BitVec 2) (verify : SlotVerify)
    (worn : Nat) : (s.carryOut .reset fun _ => State.softReset rate verify worn).Bounded := by
  cases hq : s.management.requests with
  | nil => simp [State.resetReady, hq] at ready
  | cons p rest =>
    have head : s.headRequest = p := by rw [State.headRequest, hq]; rfl
    simp only [State.resetReady, hq, Bool.and_eq_true, Bool.or_eq_true] at ready
    obtain ⟨-, passes | free⟩ := ready
    · have passes : commonCheck .reset s.scanning s.headRequest = none := by rw [head]; simpa using passes
      simp only [State.carryOut, passes]
      exact State.endReset_bounded _ _ _ _
    · cases passes : commonCheck .reset s.scanning s.headRequest with
      | none =>
        simp only [State.carryOut, passes]
        exact State.endReset_bounded _ _ _ _
      | some result =>
        simp only [State.carryOut, passes]
        exact ((State.Service.popRequest s).trans (.answer (s := s.popRequest) free _ _ _)).bounded b

/-! ## Every step -/

theorem State.requestReady_placeFree {s : State} {r : Request} (h : s.requestReady r = true) : s.management.placeFree = true := by
  unfold State.requestReady at h
  split at h
  · exact (Bool.and_eq_true_iff.mp h).2
  · cases h

theorem State.unknownReady_placeFree {s : State} (h : s.unknownReady = true) : s.management.placeFree = true := by
  unfold State.unknownReady at h
  split at h
  · exact (Bool.and_eq_true_iff.mp h).2
  · cases h

/-- A request that can be executed has a free place for its reply. -/
theorem State.Bounded.of_request {s t : State} (b : s.Bounded) {r : Request} {own : List Byte → State → State}
    (h : s.occur (s.requestReady r) (State.carryOut r own) = .next t)
    (ho : ∀ p (u : State), u.management.placeFree = true → u.Service (own p u)) : t.Bounded :=
  .of_service h b fun ready => .carryOut (State.requestReady_placeFree ready) r ho

theorem exec_bounded {s t : State} (b : s.Bounded) (c : Instr) (h : exec c s = .next t) : t.Bounded := by
  obtain ⟨tidy, -, -⟩ := State.bounded_iff.mp b
  cases c with
  | powerOnReset rate worn =>
    cases h
    exact (State.Service.settle _).bounded (State.endReset_bounded _ _ _ _)
  | pinReset rate worn => exact .of_occur h b fun _ => State.endReset_bounded _ _ _ _
  | scanEnd => exact .of_upkeep h b (.endScan s)
  | epoch =>
    rcases State.occur_cases h with ⟨on, _, rfl⟩ | ⟨_, rfl⟩
    · exact (State.Service.settle _).bounded (State.advanceEpoch_bounded b on)
    · exact b
  | contextTimeout =>
    rw [exec, execContextTimeout] at h
    refine .of_service h b fun ready => ?_
    obtain ⟨-, idle⟩ := Bool.and_eq_true_iff.mp ready
    have idle : s.intake.completing = none := by simpa using idle
    refine State.Upkeep.service (.from_stock (.sweepContexts ?_) rfl)
    exact idle
  | expirySweep =>
    rw [exec, execExpirySweep] at h
    exact .of_upkeep h b ((State.Upkeep.sweepExpired _).from_stock rfl)
  | positionStale =>
    rw [exec, execPositionStale] at h
    exact .of_upkeep h b ((State.Upkeep.checkPosition _).from_stock rfl)
  | heldLifetimeEnd =>
    rw [exec, execHeldLifetimeEnd] at h
    exact .of_upkeep h b ((State.Upkeep.examineHeld _).from_stock rfl)
  | recordExpiry =>
    rw [exec, execRecordExpiry] at h
    exact .of_upkeep h b ((State.Upkeep.endAll _ _ _).from_stock rfl)
  | flushCountdown => exact .of_upkeep h b (.takeDecrement s)
  | reminderStep => exact .of_occur h b fun owed => State.takeStep_bounded b owed
  | headerEnd port byte => exact .of_upkeep h b (.of_stock rfl)
  | frameEnd port byte => exact .of_upkeep h b (.of_stock rfl)
  | gapError port => exact .of_upkeep h b (.of_stock rfl)
  | mSorter =>
    rw [exec, execMSorter] at h
    split at h
    · exact .of_service h b fun room => .sortM s room
    · exact .of_upkeep h b (.refl s)
  | pSorter =>
    rw [exec, execPSorter] at h
    split at h
    · exact .of_service h b fun room => .sortP s room
    · exact .of_upkeep h b (.refl s)
  | holdInput port level =>
    cases h
    exact State.Service.bounded (s := s) (.of_stock rfl) b
  | pPortArbiter => exact .of_upkeep h b (.arbitrateP s)
  | mPortArbiter => exact .of_upkeep h b (.arbitrateM s)
  | frameSent port => exact .of_service h b fun _ => .frameSent s port
  | takeFragment interrupted =>
    rw [exec, execTakeFragment] at h
    split at h
    · exact .of_upkeep h b (.finishCompletion s)
    · next idle _ => exact .of_upkeep h b (.takeOldest s idle tidy interrupted _)
    · exact .of_upkeep h b (.refl s)
  | getStatus => exact b.of_request h fun p u free => .answer free p _ _
  | getCounters => exact b.of_request h fun p u free => .getCounters free p
  | setTime => exact b.of_request h fun p u free => .setTime free p
  | setPosition => exact b.of_request h fun p u free => .setPosition free p
  | loadWindow => exact b.of_request h fun p u free => .loadWindow free p
  | muteWindow => exact b.of_request h fun p u free => .muteWindow free p
  | readWindow => exact b.of_request h fun p u free => .readWindow free p
  | provision => exact b.of_request h fun p u free => .provision free p
  | lockProvision => exact b.of_request h fun p u free => .lockProvision free p
  | acknowledge => exact b.of_request h fun p u free => .acknowledge free p
  | fetchRecord => exact b.of_request h fun p u free => .fetchRecord free p
  | flushAlerts => exact b.of_request h fun p u free => (State.Upkeep.endAll u _ _).answer free p _ _
  | configure => exact b.of_request h fun p u free => .configure free p
  | clearHistory => exact b.of_request h fun p u free => .clearHistory free p
  | reset rate verify worn => exact .of_occur h b fun ready => State.carryOut_reset_bounded b ready rate verify worn
  | unknownRequest =>
    refine .of_service h b fun ready => ?_
    have free := State.unknownReady_placeFree ready
    exact (State.Service.popRequest s).trans (.answer (s := s.popRequest) free _ _ _)
  | historyWrite => exact .of_upkeep h b (.startWrite s)
  | slotProgramEnd verify =>
    rw [exec, execSlotProgramEnd] at h
    split at h
    · exact .of_upkeep h b (.slotProgramEnd s _ _)
    · exact .of_upkeep h b (.refl s)
  | headerAmend => exact .of_upkeep h b (.startAmend s)
  | headerAmendEnd passed =>
    rw [exec, execHeaderAmendEnd] at h
    split at h
    · exact .of_service h b fun _ => .amendEnd s _ _
    · exact .of_upkeep h b (.refl s)
  | eraseStart => exact .of_upkeep h b (.startErase s)
  | eraseSuspend ran => exact .of_upkeep h b (.of_stock rfl)
  | eraseResume => exact .of_upkeep h b (.of_stock rfl)
  | minimumRunEnd => exact .of_upkeep h b (.of_stock rfl)
  | eraseEnd passed =>
    rw [exec, execEraseEnd] at h
    split at h
    · exact .of_service h b fun _ => .endErase s _ _
    · exact .of_upkeep h b (.refl s)
  | provisioningProgram => exact .of_upkeep h b (.of_stock rfl)
  | provisioningProgramEnd passed =>
    rw [exec, execProvisioningProgramEnd] at h
    split at h
    · next job => exact .of_service h b fun _ => .provisioningEnd s job _
    · exact .of_upkeep h b (.refl s)
  | byteReceived port byte => exact .of_upkeep h b (.of_stock rfl)
  | powerLoss =>
    rw [exec, execPowerLoss] at h
    cases h
    split
    · exact State.losePower_bounded s
    · exact b

/-- Settles O55, event by event (`exec_bounded`). -/
theorem queuesStayBounded : Obligations.QueuesStayBounded := by
  intro s t b h
  cases hq : s.pending with
  | nil =>
    simp only [step, hq] at h
    cases h
    exact b
  | cons c rest =>
    simp only [step, hq] at h
    have queued : ({ s with pending := rest } : State).Bounded := State.Service.bounded (s := s) (.of_stock rfl) b
    exact exec_bounded queued c h

end Sys2Proof.Machine
end

section
/-!
PROOFS. A part of a notice that does not complete it (R48 to R56, R59, R60): one equation on the reassembly unit for each of its ends.
-/

namespace Sys2Proof.Machine

/-! ## Errors of a context (R60) -/

section
variable {s : State} {n : Nat} {c : Context}

/-- The third error closes the context. -/
theorem State.contextError_of_third (h : 3 ≤ c.errors + 1) :
    s.contextError n c =
      s.onIntake fun x =>
        { x with contexts := x.contexts.set n none, counters := { x.counters with failed := bump x.counters.failed } } :=
  if_pos h

theorem State.contextError_of_few (h : ¬ 3 ≤ c.errors + 1) :
    s.contextError n c = s.onIntake fun x => { x with contexts := x.contexts.set n (some { c with errors := c.errors + 1 }) } :=
  if_neg h

/-- A context that is not whole keeps collecting (R56). -/
theorem State.afterAccept_of_missing (h : c.whole = false) :
    s.afterAccept n c = s.onIntake fun x => { x with contexts := x.contexts.set n (some c) } := by
  rw [State.afterAccept, if_neg (by simp [h])]
  rfl

/-- A complete text at odds with its digest (R59). -/
theorem State.afterAccept_of_mismatch (h : c.whole = true) (differs : checkOf c.text ≠ c.digest) :
    s.afterAccept n c = (s.countIntake fun x => { x with digestMismatches := bump x.digestMismatches }).contextError n c.cleared := by
  rw [State.afterAccept, if_pos h, if_neg differs]
end

/-! ## A context that starts with a part (R50, R53) -/

/-- The context that starts, or starts again, with a part. -/
def Fragment.started (f : Fragment) (rank errors : Nat) (sequence : Half) (epoch : Word) : Context :=
  { key := f.key, revision := f.revision, digest := f.digest, lifetimeCode := f.lifetimeCode, rank := rank, errors := errors,
    sequence := sequence, progress := epoch, zone := f.zone, cell := f.cell,
    parts := (List.replicate f.total none).set (f.index - 1) (some f.text),
    trailer := if f.index = f.total then f.trailer else none }

section
variable {f : Fragment} {rank errors : Nat} {sequence : Half} {epoch : Word}

theorem Fragment.accept_newContext : (f.newContext rank sequence epoch).accept f epoch = f.started rank 0 sequence epoch := by
  rw [Context.accept_eq]
  cases h : f.trailer <;> simp [Fragment.newContext, Fragment.started, h]

/-- A conflict starts the context again with the part that brought it. -/
theorem Fragment.accept_restarted {c : Context} (hc : c.key = f.key ∧ c.revision = f.revision) (hl : f.total = c.parts.length) :
    Context.accept f epoch { c.cleared with errors := errors, digest := f.digest, lifetimeCode := f.lifetimeCode } =
      f.started c.rank errors c.sequence epoch := by
  obtain ⟨key, revision⟩ := hc
  rw [Context.accept_eq]
  cases h : f.trailer <;> simp [Context.cleared, Fragment.started, key, revision, hl, h]

/-- One part of several does not make a context whole. -/
theorem Fragment.started_missing (several : 2 ≤ f.total) : (f.started rank errors sequence epoch).whole = false := by
  obtain ⟨j, other, inTable⟩ : ∃ j, j ≠ f.index - 1 ∧ j < f.total := by
    by_cases first : f.index - 1 = 0
    · exact ⟨1, by omega, by omega⟩
    · exact ⟨0, by omega, by omega⟩
  refine List.all_eq_false.mpr ⟨none, List.mem_of_getElem? (i := j) ?_, by simp⟩
  rw [Fragment.started, List.getElem?_set_ne (Ne.symm other), List.getElem?_replicate_of_lt inTable]

variable (hi : f.index = 1) (ht : f.total = 1)
include hi ht

theorem Fragment.started_alone : (f.started rank errors sequence epoch).parts = [some f.text] := by
  simp [Fragment.started, hi, ht]

/-- The one part of a notice, at odds with its digest, is an error of its context (R59). -/
theorem State.afterAccept_started_mismatch (differs : checkOf f.text ≠ f.digest) (s : State) (n : Nat) :
    s.afterAccept n (f.started rank errors sequence epoch) =
      (s.countIntake fun x => { x with digestMismatches := bump x.digestMismatches }).contextError n
        { f.started rank errors sequence epoch with parts := [none], trailer := none } := by
  have parts := Fragment.started_alone (rank := rank) (errors := errors) (sequence := sequence) (epoch := epoch) hi ht
  have text : (f.started rank errors sequence epoch).text = f.text := by simp [Context.text, parts]
  have whole : (f.started rank errors sequence epoch).whole = true := by simp [Context.whole, parts]
  rw [State.afterAccept_of_mismatch whole (text ▸ differs), Context.cleared, parts]
  rfl
end

/-! ## Allocation (R50, R51) -/

section
variable {s : State} {f : Fragment} {rank n : Nat}

theorem State.allocate_eq :
    s.allocate n f rank =
      (s.onIntake fun x => { x with allocations := x.allocations + 1 }).afterAccept n
        (f.started rank 0 s.intake.allocations s.time.epoch) := by
  rw [State.allocate, Fragment.accept_newContext]

theorem State.allocate_several (several : 2 ≤ f.total) :
    s.allocate n f rank =
      s.onIntake fun x =>
        { x with
          allocations := x.allocations + 1
          contexts := x.contexts.set n (some (f.started rank 0 x.allocations s.time.epoch)) } := by
  rw [State.allocate_eq, State.afterAccept_of_missing (Fragment.started_missing several)]
  rfl

theorem State.allocate_mismatching (hi : f.index = 1) (ht : f.total = 1) (differs : checkOf f.text ≠ f.digest) :
    s.allocate n f rank =
      s.onIntake fun x =>
        { x with
          allocations := x.allocations + 1
          contexts := x.contexts.set n
            (some { f.started rank 0 x.allocations s.time.epoch with parts := [none], trailer := none, errors := 1 })
          counters := { x.counters with digestMismatches := bump x.counters.digestMismatches } } := by
  rw [State.allocate_eq, State.afterAccept_started_mismatch hi ht differs]
  exact State.contextError_of_few (by simp [Fragment.started])

theorem Intake.victim_eq_none {x : Intake} (h : ∀ c, some c ∈ x.contexts → c.rank < rank) : x.victim rank = none := by
  refine least_eq_none.mpr (List.filter_eq_nil_iff.mpr ?_)
  rintro ⟨m, c⟩ mem
  have at_m : x.contexts[m]? = some (some c) := Intake.mem_collecting.mp mem
  simpa using h c (List.mem_of_getElem? at_m)

/-- A fragment less important than every context of a full table is shed. -/
theorem State.allocateFor_shed (full : s.intake.contexts.findIdx? Option.isNone = none)
    (h : ∀ c, some c ∈ s.intake.contexts → c.rank < rank) :
    s.allocateFor f rank = s.countIntake fun x => { x with contextShed := bump x.contextShed } := by
  simp only [State.allocateFor, Intake.freeContext, full, Intake.victim_eq_none h]
end

/-! ## A further part (R52 to R56, R59) -/

section
variable {s : State} {f : Fragment} {n : Nat} {c : Context}

theorem State.join_total (h : f.total ≠ c.parts.length) :
    s.join n c f = (s.countIntake fun x => { x with totalMismatches := bump x.totalMismatches }).contextError n c := if_pos h

section
variable (hl : f.total = c.parts.length) (differs : f.digest ≠ c.digest ∨ f.lifetimeCode ≠ c.lifetimeCode)
include hl differs

theorem State.join_conflict :
    s.join n c f =
      if 3 ≤ c.errors + 1 then (s.countIntake fun x => { x with conflicts := bump x.conflicts }).contextError n c
      else
        (s.countIntake fun x => { x with conflicts := bump x.conflicts }).afterAccept n
          (Context.accept f s.time.epoch
            { c.cleared with errors := c.errors + 1, digest := f.digest, lifetimeCode := f.lifetimeCode }) := by
  have conflict : (f.digest ≠ c.digest || f.lifetimeCode ≠ c.lifetimeCode) = true := by simpa using differs
  rw [State.join, if_neg (not_not.mpr hl), if_pos conflict]
  rfl

theorem State.join_conflict_third (third : 3 ≤ c.errors + 1) :
    s.join n c f = (s.countIntake fun x => { x with conflicts := bump x.conflicts }).contextError n c := by
  rw [State.join_conflict hl differs, if_pos third]

theorem State.join_conflict_restarts (few : ¬ 3 ≤ c.errors + 1) (hc : c.key = f.key ∧ c.revision = f.revision) :
    s.join n c f =
      (s.countIntake fun x => { x with conflicts := bump x.conflicts }).afterAccept n
        (f.started c.rank (c.errors + 1) c.sequence s.time.epoch) := by
  rw [State.join_conflict hl differs, if_neg few, Fragment.accept_restarted hc hl]
end

section
variable (hl : f.total = c.parts.length) (hd : f.digest = c.digest) (hc : f.lifetimeCode = c.lifetimeCode)
include hl hd hc

theorem State.join_agreeing :
    s.join n c f =
      if (c.parts.getD (f.index - 1) none).isSome then
        (s.countIntake fun x => { x with duplicateFragments := bump x.duplicateFragments }).setContext n
          (some { c with progress := s.time.epoch })
      else s.afterAccept n (c.accept f s.time.epoch) := by
  rw [State.join, if_neg (not_not.mpr hl), if_neg (by simp [hd, hc])]

theorem State.join_repeated {x : List Byte} (received : c.parts.getD (f.index - 1) none = some x) :
    s.join n c f =
      s.onIntake fun y =>
        { y with
          contexts := y.contexts.set n (some { c with progress := s.time.epoch })
          counters := { y.counters with duplicateFragments := bump y.counters.duplicateFragments } } := by
  rw [State.join_agreeing hl hd hc, if_pos (by rw [received]; rfl)]
  rfl

theorem State.join_missing (missing : c.parts.getD (f.index - 1) none = none) :
    s.join n c f = s.afterAccept n (c.accept f s.time.epoch) := by
  rw [State.join_agreeing hl hd hc, if_neg (by rw [missing]; simp)]

theorem State.join_kept (missing : c.parts.getD (f.index - 1) none = none)
    (more : (c.parts.set (f.index - 1) (some f.text)).all Option.isSome = false) :
    s.join n c f = s.onIntake fun x => { x with contexts := x.contexts.set n (some (c.accept f s.time.epoch)) } := by
  rw [State.join_missing hl hd hc missing, State.afterAccept_of_missing (c := c.accept f s.time.epoch) more]

theorem State.join_mismatching (missing : c.parts.getD (f.index - 1) none = none)
    (whole : (c.parts.set (f.index - 1) (some f.text)).all Option.isSome = true)
    (differs : checkOf ((c.parts.set (f.index - 1) (some f.text)).flatMap fun x => x.getD []) ≠ c.digest) :
    s.join n c f =
      (s.countIntake fun x => { x with digestMismatches := bump x.digestMismatches }).contextError n
        { c with
          parts := List.replicate c.parts.length none, trailer := none, progress := s.time.epoch, zone := f.zone, cell := f.cell } := by
  rw [State.join_missing hl hd hc missing, State.afterAccept_of_mismatch (c := c.accept f s.time.epoch) whole differs]
  simp [Context.cleared, Context.accept]
end
end

/-! ## The step -/

/-- The oldest fragment has left the queue. -/
def State.popped (s : State) (rest : List (List Byte)) : State :=
  s.onIntake fun x => { x with queue := rest, counters := { x.counters with taken := bump x.counters.taken } }

theorem State.popFragment_eq {s : State} {p : List Byte} {rest : List (List Byte)} (hq : s.intake.queue = p :: rest) :
    s.popFragment = s.popped rest := by simp [State.popFragment, State.popped, State.onIntake, hq]

section
variable {s : State} {p : List Byte} {rest : List (List Byte)} {f : Fragment} {w : Window} (hp : s.powered = true)
  (hs : s.scanning = false) (hc : s.intake.completing = none) (hq : s.intake.queue = p :: rest) (hf : readFragment p = some f)
  (hw : s.windows.classify f.key.stream = some w) (hn : f.withdraw = false)
  (hd : s.index.resolveNotice f.key f.revision ≠ .duplicate) (interrupted : Bool) {left : Intake}
include hp hs hc hq hf hw hn

/-- A part that changes the reassembly unit only, and brings no completion. -/
theorem exec_takeFragment_collects (taken : (s.popped rest).takeNoticeFragment f w = { s with intake := left })
    (idle : left.completing = none) :
    ∃ t, exec (.takeFragment interrupted) s = .next t ∧ OnlyChanges [.intake, .outputs] s t ∧ t.intake = left := by
  have popped := State.popFragment_eq hq
  have whole : s.popFragment.takePayload p = { s with intake := left } := by
    rw [popped]
    exact (State.takePayload_notice (s := s.popped rest) hf hw hn).trans taken
  refine ⟨_, exec_takeFragment hp hs hc hq interrupted, ?_⟩
  rw [State.takeOldest_of_uncompleted (whole ▸ idle), whole]
  exact ⟨((OnlyChanges.onIntake s fun _ => left).mono (by simp)).settled (by simp), rfl⟩

include hd

/-- A part that finds no context (R50, R51). -/
theorem exec_takeFragment_allocates (hl : s.intake.lookup f.key f.revision = none) (idle : left.completing = none)
    (allocated : (s.popped rest).allocateFor f w.attrs.cls.rank = { s with intake := left }) :
    ∃ t, exec (.takeFragment interrupted) s = .next t ∧ OnlyChanges [.intake, .outputs] s t ∧ t.intake = left :=
  exec_takeFragment_collects hp hs hc hq hf hw hn interrupted
    ((State.takeNoticeFragment_allocates (s := s.popped rest) hd hl).trans allocated) idle

/-- A part that finds its context (R52 to R56). -/
theorem exec_takeFragment_collected {n : Nat} {c : Context} (hl : s.intake.lookup f.key f.revision = some (n, c))
    (idle : left.completing = none) (joined : (s.popped rest).join n c f = { s with intake := left }) :
    ∃ t, exec (.takeFragment interrupted) s = .next t ∧ OnlyChanges [.intake, .outputs] s t ∧ t.intake = left :=
  exec_takeFragment_collects hp hs hc hq hf hw hn interrupted
    ((State.takeNoticeFragment_collected (s := s.popped rest) hd hl).trans joined) idle
end

/-- Settles O17, end by end, from the equations of allocation and joining. -/
theorem takeFragmentCollects : Obligations.TakeFragmentCollects := by
  intro s interrupted p rest f w hp hs hc hq hf hw hn hd
  have index : f.total = 1 → f.index = 1 := by
    have := readFragment_index hf
    omega
  have allocates {left : Intake} := exec_takeFragment_allocates hp hs hc hq hf hw hn hd interrupted (left := left)
  have joins {n c} {left : Intake} :=
    exec_takeFragment_collected hp hs hc hq hf hw hn hd interrupted (left := left) (n := n) (c := c)
  dsimp only
  refine ⟨fun n c hl full victim => ?evicts, fun hl full ranks => ?shed, fun n hl free ht differs => ?mismatching,
    fun n c hl => ⟨fun ht => ?total, fun ht differs => ?conflict, fun ht hdig hlife missing whole differs => ?digest⟩,
    fun n hl free several => ?allocates, fun n c hl ht hdig hlife missing more => ?kept, fun n c x hl ht hdig hlife received => ?repeated⟩
  case evicts =>
    have evicted := State.allocateFor_victim (s := s.popped rest) (f := f) full (Intake.victim_of_isVictim victim)
    refine ⟨fun several => allocates hl hc (evicted.trans ?_), fun ht differs => allocates hl hc (evicted.trans ?_)⟩
    · exact State.allocate_several several
    · exact State.allocate_mismatching (index ht) ht differs
  case shed => exact allocates hl hc (State.allocateFor_shed (s := s.popped rest) full ranks)
  case mismatching =>
    refine allocates hl hc ((State.allocateFor_free (s := s.popped rest) f free).trans ?_)
    exact State.allocate_mismatching (index ht) ht differs
  case total =>
    refine ⟨fun third => joins hl hc ((State.join_total ht).trans ?_), fun few => joins hl hc ((State.join_total ht).trans ?_)⟩
    · exact State.contextError_of_third third
    · exact State.contextError_of_few few
  case conflict =>
    have restarts (few : ¬ 3 ≤ c.errors + 1) := State.join_conflict_restarts (s := s.popped rest) (n := n) ht differs few
      (Intake.lookup_key hl)
    refine ⟨fun third => joins hl hc ((State.join_conflict_third ht differs third).trans ?_),
      fun few several => joins hl hc ((restarts few).trans ?_), fun alone mismatch => ⟨fun errors => ?_, fun errors => ?_⟩⟩
    · exact State.contextError_of_third third
    · exact State.afterAccept_of_missing (Fragment.started_missing several)
    all_goals
      refine joins hl hc ((restarts (by omega)).trans
        ((State.afterAccept_started_mismatch (index alone) alone mismatch _ n).trans ?_))
      rw [errors]
    · exact State.contextError_of_few (by simp [Fragment.started])
    · exact State.contextError_of_third (Nat.le_refl 3)
  case digest =>
    have mismatching := State.join_mismatching (s := s.popped rest) (n := n) ht hdig hlife missing whole differs
    refine ⟨fun third => joins hl hc (mismatching.trans ?_), fun few => joins hl hc (mismatching.trans ?_)⟩
    · exact State.contextError_of_third third
    · exact State.contextError_of_few few
  case allocates =>
    refine allocates hl hc ((State.allocateFor_free (s := s.popped rest) f free).trans ?_)
    exact State.allocate_several several
  case kept =>
    have kept := State.join_kept (s := s.popped rest) (n := n) ht hdig hlife missing more
    rw [Context.accept_eq] at kept
    exact joins hl hc kept
  case repeated => exact joins hl hc (State.join_repeated (s := s.popped rest) ht hdig hlife received)

end Sys2Proof.Machine
end

section
/-!
PROOFS. A withdrawal on the history index (R79, R80, R82, R86): one equation for each of its outcomes, and what the entry put and the records
ended leave.
-/

namespace Sys2Proof.Machine

/-! ## The resolution of a withdrawal (R79, R80) -/

section
variable {s : State} {k : Key} {r : BitVec 4}

theorem State.takeWithdrawal_orphan (absent : s.index.find k = none) (horizon : Nat) :
    s.takeWithdrawal k r horizon =
      (s.makeRoom.putEntry (s.time.stamp k r .withdrawn horizon)).countHistory fun c =>
        { c with withdrawalsOrphan := bump c.withdrawalsOrphan } := by
  have orphan : s.index.resolveWithdrawal k r = .orphan := by rw [Index.resolveWithdrawal, absent]
  rw [State.takeWithdrawal, orphan]

section
variable {e : Entry} (he : s.index.find k = some e)
include he

section
variable (seen : e.fields.state = .noticeSeen)
include seen

theorem State.takeWithdrawal_apply (hr : newerRevision r e.fields.revision = true ∨ r = e.fields.revision) (horizon : Nat) :
    s.takeWithdrawal k r horizon =
      ((s.endKey .withdrawn k).putEntry (s.time.stamp k r .withdrawn horizon)).countHistory fun c =>
        { c with withdrawalsApplied := bump c.withdrawalsApplied } := by
  have apply : s.index.resolveWithdrawal k r = .apply := by simp [Index.resolveWithdrawal, he, seen, hr]
  rw [State.takeWithdrawal, apply]

theorem State.takeWithdrawal_stale (hr : newerRevision r e.fields.revision = false) (other : r ≠ e.fields.revision) (horizon : Nat) :
    s.takeWithdrawal k r horizon = s.countHistory fun c => { c with withdrawalsStale := bump c.withdrawalsStale } := by
  have stale : s.index.resolveWithdrawal k r = .stale := by simp [Index.resolveWithdrawal, he, seen, hr, other]
  rw [State.takeWithdrawal, stale]
end

section
variable (withdrawn : e.fields.state = .withdrawn)
include withdrawn

theorem State.takeWithdrawal_raise (hr : newerRevision r e.fields.revision = true) (horizon : Nat) :
    s.takeWithdrawal k r horizon =
      (s.putEntry (s.time.stamp k r .withdrawn horizon)).countHistory fun c =>
        { c with withdrawalsRaised := bump c.withdrawalsRaised } := by
  have raise : s.index.resolveWithdrawal k r = .raise := by simp [Index.resolveWithdrawal, he, withdrawn, hr]
  rw [State.takeWithdrawal, raise]

theorem State.takeWithdrawal_duplicate (hr : newerRevision r e.fields.revision = false) (horizon : Nat) :
    s.takeWithdrawal k r horizon = s.countHistory fun c => { c with withdrawalsDuplicate := bump c.withdrawalsDuplicate } := by
  have duplicate : s.index.resolveWithdrawal k r = .duplicate := by simp [Index.resolveWithdrawal, he, withdrawn, hr]
  rw [State.takeWithdrawal, duplicate]
end
end
end

/-! ## The records of the key (R82, R131) -/

/-- Whatever the record unit, no record of the key is left on a list. -/
theorem State.endKey_gone {s : State} {code : Code} (hc : code ≠ .acknowledged) (k : Key) :
    ∀ x ∈ (s.endKey code k).records.active ++ (s.endKey code k).records.held, x.key ≠ k := by
  rw [State.endKey, State.endAll_eq hc]
  intro x hx key
  have left : x ∈ (s.records.active ++ s.records.held).filter fun y =>
      y.handle ∉ ((s.records.active ++ s.records.held).filter fun r => r.key == k).map Record.handle := by
    rw [List.filter_append]
    exact hx
  obtain ⟨listed, other⟩ := List.mem_filter.mp left
  exact of_decide_eq_true other (List.mem_map_of_mem (List.mem_filter.mpr ⟨listed, beq_iff_eq.mpr key⟩))

/-- The records of a key end apart from the index, the store and the receipts. -/
theorem State.endKey_kept {s : State} {code : Code} (hc : code ≠ .acknowledged) (k : Key) :
    (s.endKey code k).index = s.index ∧ (s.endKey code k).store = s.store ∧ (s.endKey code k).ack = s.ack := by
  rw [State.endKey, State.endAll_eq hc]
  exact ⟨rfl, rfl, rfl⟩

/-- An eviction, where room is made, leaves no entry of a key that had none. -/
theorem Index.absent_of_split {x : Index} {k : Key} (absent : x.find k = none) {before after : List Entry} {e : Entry}
    (split : x.entries = before ++ e :: after) : Index.find { x with entries := before ++ after } k = none ∧ e.fields.key ≠ k := by
  have none : ∀ y ∈ x.entries, ¬ (y.fields.key == k) = true := List.find?_eq_none.mp absent
  rw [split] at none
  refine ⟨List.find?_eq_none.mpr fun y hy => none y ?_, fun same => none e (by simp) (beq_iff_eq.mpr same)⟩
  simp only [List.mem_append, List.mem_cons] at hy ⊢
  tauto

/-- No entry left has the key of the one evicted (R69). -/
theorem Index.distinct_of_split {x : Index} (nodup : (x.entries.map fun e => e.fields.key).Nodup) {before after : List Entry} {e : Entry}
    (split : x.entries = before ++ e :: after) : ∀ y ∈ before ++ after, y.fields.key ≠ e.fields.key := by
  rw [split, List.map_append, List.map_cons, List.nodup_middle, List.nodup_cons, ← List.map_append] at nodup
  exact fun y hy same => nodup.1 (same ▸ List.mem_map_of_mem hy)

/-! ## An entry put and counted (R75, R176) -/

/-- The state once an entry has been put and counted, and the outputs have followed. -/
def State.putAndCounted (f : EntryFields) (count : HistoryCounters → HistoryCounters) (s : State) : State :=
  ((s.putEntry f).countHistory count).settle

section
variable (f : EntryFields) (count : HistoryCounters → HistoryCounters) (s : State)

theorem State.putAndCounted_onlyChanges : OnlyChanges [.index, .store, .outputs] s (s.putAndCounted f count) :=
  ((OnlyChanges.putEntry f s).trans ((OnlyChanges.countHistory _ count).mono (by simp))).settled (by simp)

theorem State.putAndCounted_entries : (s.putAndCounted f count).index.entries = (s.index.put f).entries := State.putEntry_entries f s

/-- Of the counters that of the deferred writes changes besides what is counted. -/
theorem State.putAndCounted_counter {counter : HistoryCounters → Half}
    (h : ∀ c deferrals, counter (count { c with writeDeferrals := deferrals }) = counter (count c)) :
    counter (s.putAndCounted f count).index.counters = counter (count s.index.counters) := by
  obtain ⟨deferrals, counters⟩ := State.putEntry_counters f s
  exact (congrArg (counter ∘ count) counters).trans (h _ _)

/-- The record unit, the report queue and the receipts stay. -/
theorem State.putAndCounted_kept :
    (s.putAndCounted f count).records = s.records ∧ (s.putAndCounted f count).report = s.report ∧
      (s.putAndCounted f count).ack = s.ack :=
  have frame := s.putAndCounted_onlyChanges f count
  ⟨frame .records (by simp), frame .report (by simp), frame .ack (by simp)⟩

/-- The entry put in place of that of its key. -/
theorem State.putAndCounted_present {e : Entry} (h : s.index.find f.key = some e) :
    (s.putAndCounted f count).index.entries =
      s.index.entries.map fun x => if x.fields.key = f.key then { x with fields := f, persisted := false } else x := by
  rw [State.putAndCounted_entries, Index.put_of_present h]

/-- The entry put as the newest. -/
theorem State.putAndCounted_absent (h : s.index.find f.key = none) :
    (s.putAndCounted f count).index.entries = s.index.entries ++ [{ fields := f, persisted := false, location := none }] := by
  rw [State.putAndCounted_entries, Index.put_of_absent h]

variable {f count}

theorem EntriesPut.of_putAndCounted {s u : State} {gone : Key → Bool} (counts : ∀ c, (count c).writeDeferrals = c.writeDeferrals)
    (ram : u.store.ramOnly = s.store.ramOnly) (running : u.store.running = s.store.running.map (Running.forget gone))
    (deferrals : u.index.counters.writeDeferrals = s.index.counters.writeDeferrals) :
    EntriesPut s (u.putAndCounted f count) gone u.store.writes [f.key] :=
  .of_putEntry ram running deferrals rfl rfl (counts _)

/-- An entry put while none is removed. -/
theorem EntriesPut.of_putAndCounted_same {s u : State} (counts : ∀ c, (count c).writeDeferrals = c.writeDeferrals)
    (store : u.store = s.store) (index : u.index = s.index) :
    EntriesPut s (u.putAndCounted f count) (fun _ => false) s.store.writes [f.key] := by
  have puts := EntriesPut.of_putAndCounted (s := s) (u := u) (f := f) (gone := fun _ => false) counts (by rw [store])
    (by rw [store, Running.map_forget_nothing]) (by rw [index])
  rwa [store] at puts
end

/-! ## The step -/

/-- The state in which a withdrawal is resolved. -/
def State.withdrawing (s : State) (rest : List (List Byte)) : State :=
  (s.popped rest).countIntake fun x => { x with withdrawals := bump x.withdrawals }

section
variable {s : State} {p : List Byte} {rest : List (List Byte)} {f : Fragment} {w : Window} (hp : s.powered = true)
  (hs : s.scanning = false) (hc : s.intake.completing = none) (hq : s.intake.queue = p :: rest) (hf : readFragment p = some f)
  (hw : s.windows.classify f.key.stream = some w) (hn : f.withdraw = true) (interrupted : Bool)
include hp hs hc hq hf hw hn

theorem exec_takeFragment_withdraws :
    exec (.takeFragment interrupted) s = .next ((s.withdrawing rest).takeWithdrawal f.key f.revision w.horizon).settle := by
  have popped := State.popFragment_eq hq
  have taken : s.popFragment.takePayload p = (s.withdrawing rest).takeWithdrawal f.key f.revision w.horizon := by
    have same : (s.popped rest).windows.classify f.key.stream = some w := hw
    rw [popped]
    unfold State.takePayload
    rw [hf]
    dsimp only
    rw [same]
    exact if_pos hn
  have idle : (s.popFragment.takePayload p).intake.completing = none := by
    rw [taken]
    exact (congrArg Intake.completing (OnlyChanges.takeWithdrawal _ _ _ _ .intake (by simp))).trans hc
  rw [exec_takeFragment hp hs hc hq interrupted, State.takeOldest_of_uncompleted idle, taken]
end

/-- What is counted and changed by a withdrawal, whatever its outcome. -/
theorem State.withdrawing_settled (k : Key) (r : BitVec 4) (horizon : Nat) (s : State) (rest : List (List Byte)) :
    OnlyChanges [.intake, .index, .records, .ack, .report, .store, .outputs] s ((s.withdrawing rest).takeWithdrawal k r horizon).settle ∧
      ((s.withdrawing rest).takeWithdrawal k r horizon).settle.intake = (s.withdrawing rest).intake := by
  have frame := OnlyChanges.takeWithdrawal (s.withdrawing rest) k r horizon
  have counted : OnlyChanges [.intake] s (s.withdrawing rest) := (OnlyChanges.onIntake s _).trans (.onIntake _ _)
  exact ⟨((counted.mono (by simp)).trans (frame.mono (by simp))).settled (by simp), frame .intake (by simp)⟩

section
variable {s : State} {k : Key} (hu : s.records.Ordered)
include hu

/-- The records of a key that end WITHDRAWN, in an ordered record unit (R82, R131). -/
theorem State.endKey_withdrawn :
    let t := s.endKey .withdrawn k
    t.records.active = s.records.active.filter (fun x => x.key ≠ k) ∧ t.records.held = s.records.held.filter (fun x => x.key ≠ k) ∧
      t.records.latched =
        (match s.records.active.find? fun x => x.key = k && x.state = .delivering with
         | some x => some { x with latched := some .withdrawn, ackDeferred := false, reminder := none }
         | none => s.records.latched) ∧
      t.records.delivery = s.records.delivery ∧ t.records.free = s.records.free ++ slotsFreed (s.records.toEnd k) ∧
      t.records.counters.withdrawn = bumpBy (s.records.toEnd k).length s.records.counters.withdrawn ∧
      SummariesJoin s t ((s.records.toEnd k).map fun x => ⟨s.summaryOf x .withdrawn, x.attrs.reportDelay⟩) := by
  have joins := (s.onRecords fun u => u.without .withdrawn k).ended_joins .withdrawn (s.records.toEnd k)
  rw [State.endKey_eq hu (by decide)]
  refine ⟨rfl, rfl, ?_, rfl, rfl, rfl, joins⟩
  change Option.or _ _ = _
  cases s.records.active.find? fun x => x.key = k && x.state = .delivering <;> rfl
end

/-- Settles O19, outcome by outcome, from the equations of the withdrawal. -/
theorem takeFragmentWithdraws : Obligations.TakeFragmentWithdraws := by
  intro s interrupted p rest f w hp hs hc hq hf hw hn
  obtain ⟨frame, intake⟩ := State.withdrawing_settled f.key f.revision w.horizon s rest
  refine ⟨_, exec_takeFragment_withdraws hp hs hc hq hf hw hn interrupted, frame, (congrArg Intake.queue intake :),
    (congrArg Intake.contexts intake :), (congrArg (fun x : Intake => x.counters.withdrawals) intake :),
    fun absent room => ?orphan, fun e he seen hr => ?apply,
    fun absent nodup before e after split full unnamed hb ha => ?evicts, fun e he seen hr other => ?stale,
    fun e he withdrawn hr => ?raise, fun e he withdrawn hr => ?duplicate⟩
  case orphan =>
    have stays : (s.withdrawing rest).makeRoom = s.withdrawing rest := if_pos room
    rw [State.takeWithdrawal_orphan (s := s.withdrawing rest) absent, stays]
    exact ⟨State.putAndCounted_absent _ _ (s.withdrawing rest) absent, .of_putAndCounted_same (fun _ => rfl) rfl rfl,
      State.putAndCounted_counter _ _ (s.withdrawing rest) (counter := HistoryCounters.withdrawalsOrphan) fun _ _ => rfl,
      State.putAndCounted_kept _ _ (s.withdrawing rest)⟩
  case apply =>
    obtain ⟨index, store, ack⟩ := State.endKey_kept (s := s.withdrawing rest) (code := .withdrawn) (by decide) f.key
    have present : ((s.withdrawing rest).endKey .withdrawn f.key).index.find f.key = some e := index ▸ he
    rw [State.takeWithdrawal_apply (s := s.withdrawing rest) he seen hr]
    obtain ⟨records, report, acks⟩ := State.putAndCounted_kept (s.time.stamp f.key f.revision .withdrawn w.horizon)
      (fun c => { c with withdrawalsApplied := bump c.withdrawalsApplied }) ((s.withdrawing rest).endKey .withdrawn f.key)
    refine ⟨(State.putAndCounted_present _ _ _ present).trans ?_, .of_putAndCounted_same (fun _ => rfl) store index,
      (State.putAndCounted_counter _ _ _ (counter := HistoryCounters.withdrawalsApplied) fun _ _ => rfl).trans ?_, ?_, fun hu => ?_⟩
    · rw [index]
      rfl
    · rw [index]
      rfl
    · intro x hx
      have hx : x ∈ ((s.withdrawing rest).endKey .withdrawn f.key).records.active ++
          ((s.withdrawing rest).endKey .withdrawn f.key).records.held := records ▸ hx
      exact State.endKey_gone (by decide) f.key x hx
    · obtain ⟨active, held, latched, delivery, free, withdrawn, joins⟩ := State.endKey_withdrawn (s := s.withdrawing rest) hu (k := f.key)
      exact ⟨(congrArg Records.active records).trans active, (congrArg Records.held records).trans held,
        (congrArg Records.latched records).trans latched, (congrArg Records.delivery records).trans delivery,
        (congrArg Records.free records).trans free, (congrArg (fun u : Records => u.counters.withdrawn) records).trans withdrawn,
        acks.trans ack, report.trans joins.1, (congrArg (fun u : Records => u.counters.reportOverflow) records).trans joins.2⟩
  case evicts =>
    obtain ⟨absent', other⟩ := Index.absent_of_split absent split
    have distinct := Index.distinct_of_split nodup split
    have made := State.makeRoom_evicts (s := s.withdrawing rest) nodup split full unnamed
      (fun x hx free => Entry.evictedBefore_of_earlier (hb x hx free)) fun x hx free => Entry.not_evictedBefore_of_later (ha x hx free)
    have puts : EntriesPut s (State.putAndCounted (s.time.stamp f.key f.revision .withdrawn w.horizon)
        (fun c => { c with withdrawalsOrphan := bump c.withdrawalsOrphan })
        ((s.withdrawing rest).evicting e.fields.key (before ++ after)))
        (fun x => x == e.fields.key) (s.writesWithout e.fields.key (before ++ after)) [f.key] :=
      .of_putAndCounted (fun _ => rfl) rfl rfl rfl
    rw [State.takeWithdrawal_orphan (s := s.withdrawing rest) absent, made]
    exact ⟨State.putAndCounted_absent _ _ ((s.withdrawing rest).evicting e.fields.key (before ++ after)) absent',
      State.putAndCounted_counter _ _ ((s.withdrawing rest).evicting e.fields.key (before ++ after))
        (counter := HistoryCounters.indexEvictions) fun _ _ => rfl,
      puts.not_mem (State.evicted_not_mem_writes distinct) other, puts⟩
  case stale =>
    rw [State.takeWithdrawal_stale (s := s.withdrawing rest) he seen hr other]
    exact ⟨rfl, rfl, rfl, rfl, rfl, rfl⟩
  case raise =>
    rw [State.takeWithdrawal_raise (s := s.withdrawing rest) he withdrawn hr]
    exact ⟨State.putAndCounted_present _ _ (s.withdrawing rest) he, .of_putAndCounted_same (fun _ => rfl) rfl rfl,
      State.putAndCounted_counter _ _ (s.withdrawing rest) (counter := HistoryCounters.withdrawalsRaised) fun _ _ => rfl,
      State.putAndCounted_kept _ _ (s.withdrawing rest)⟩
  case duplicate =>
    rw [State.takeWithdrawal_duplicate (s := s.withdrawing rest) he withdrawn hr]
    exact ⟨rfl, rfl, rfl, rfl, rfl, rfl⟩

end Sys2Proof.Machine
end

section
/-!
PROOFS. A notice new to the index becomes a record (R58, R73, R76, R117, R118, R120, R121): whatever waits for completion, and the one-part
notice that is settled at once.
-/

namespace Sys2Proof.Machine

/-! ## Where the new record stands -/

/-- Of the record unit the created records count for nothing in where a new record stands, and of the rest only the area unit, the report queue
and the epoch count do. -/
theorem NewRecordStands.of_creating {s v t : State} {w : Window} {r : Record} (h : NewRecordStands v.creating t w r)
    (area : v.area = s.area) (records : v.records = s.records) (report : v.report = s.report) (time : v.time = s.time) :
    NewRecordStands s t w r := by
  have created : v.creating.records = s.creating.records := congrArg (fun u : Records =>
    { u with counters := { u.counters with created := bump u.counters.created } }) records
  have area' : v.creating.area = s.area := area
  have report' : v.creating.report = s.report := report
  have summary (x : Record) (code : Code) : v.creating.summaryOf x code = s.summaryOf x code :=
    congrArg (fun t : Timebase => (⟨x.handleValue, x.key.stream, x.key.issueWord x.area.isSome, x.revision, code, t.epoch⟩ : Summary)) time
  unfold NewRecordStands SummariesJoin at h ⊢
  simp only [created, area', report', summary] at h
  exact h

section
variable {s u : State} {c : Context} {w : Window}

/-- The record of a new notice, once room has been made for its entry and that has been put. -/
theorem State.noticed_stands (hu : s.records.Ordered) (n : Nat) (h : OnlyChanges [.index, .store, .outputs] s.settling u) :
    NewRecordStands s ((s.noticed u c w).settledWith n c w) w (c.recordIn w s.area.position s.time.epoch) := by
  have frame := State.noticed_onlyChanges (c := c) w h
  have area : (s.noticed u c w).area = s.area := frame .area (by simp)
  have records : (s.noticed u c w).records = s.records := frame .records (by simp)
  have time : (s.noticed u c w).time = s.time := frame .time (by simp)
  have stands := State.create_stands (s := s.noticed u c w) (records ▸ hu.seated) c w
  rw [State.newRecord, area, time] at stands
  exact NewRecordStands.of_creating stands area records (frame .report (by simp)) time
end

/-! ## A place in the active list (R118, R120, R121) -/

/-- A list in order of rank has one place for a rank, after those of its own. -/
theorem exists_rank_split {α : Type} (rank : α → Nat) (k : Nat) {l : List α} (h : l.Pairwise fun x y => rank x ≤ rank y) :
    ∃ a b, l = a ++ b ∧ (∀ x ∈ a, rank x ≤ k) ∧ ∀ x ∈ b, k < rank x := by
  induction l with
  | nil => exact ⟨[], [], rfl, by simp, by simp⟩
  | cons x l ih =>
    obtain ⟨first, later⟩ := List.pairwise_cons.mp h
    by_cases before : rank x ≤ k
    · obtain ⟨a, b, hl, ha, hb⟩ := ih later
      exact ⟨x :: a, b, congrArg (x :: ·) hl, List.forall_mem_cons.mpr ⟨before, ha⟩, hb⟩
    · refine ⟨[], x :: l, rfl, by simp, List.forall_mem_cons.mpr ⟨Nat.not_le.mp before, fun y hy => ?_⟩⟩
      exact Nat.lt_of_lt_of_le (Nat.not_le.mp before) (first y hy)

section
variable {u : Records} (hu : u.Ordered)
include hu

theorem Records.Ordered.exists_place (k : Nat) :
    ∃ a b, u.active = a ++ b ∧ (∀ x ∈ a, x.attrs.cls.rank ≤ k) ∧ ∀ x ∈ b, k < x.attrs.cls.rank :=
  exists_rank_split (fun x : Record => x.attrs.cls.rank) k (hu.order.imp fun h => h.elim Nat.le_of_lt fun same => same.1.le)

/-- With a place on the active list there is a free slot (R115, R120). -/
theorem Records.Ordered.exists_free (room : u.active.length < if u.latched.isSome then 15 else 16) :
    ∃ k, u.free.head? = some k := by
  have all := hu.slots.length_eq
  have taken : (u.live.filterMap fun x => x.handle.map Handle.slot).length ≤ u.live.length := List.length_filterMap_le _ _
  have held := hu.held
  have live : u.live.length = u.active.length + u.held.length + if u.latched.isSome then 1 else 0 := by
    cases h : u.latched <;> simp [Records.live, h, Nat.add_assoc]
  rw [List.length_append, List.length_range] at all
  cases hf : u.free with
  | nil =>
    rw [hf] at all
    simp only [List.length_nil] at all
    split_ifs at room live <;> omega
  | cons k free => exact ⟨k, rfl⟩
end

/-- An unmuted record without an area, with a place on the active list. -/
theorem NewRecordStands.of_room {m t : State} {w : Window} {r : Record} (h : NewRecordStands m t w r) (hu : m.records.Ordered)
    (unmuted : w.attrs.muted = false) (noArea : r.area = none)
    (room : m.records.active.length < if m.records.latched.isSome then 15 else 16) :
    t.area.counters = m.area.counters ∧ t.report = m.report ∧ t.records.held = m.records.held ∧
      t.records.free = m.records.free.drop 1 ∧ t.records.generations = m.records.generations ∧
      ∃ before after, m.records.active = before ++ after ∧ (∀ x ∈ before, x.attrs.cls.rank ≤ r.attrs.cls.rank) ∧
        (∀ x ∈ after, r.attrs.cls.rank < x.attrs.cls.rank) ∧
        t.records.active = before ++
          { r with handle := handleFrom m.records.free m.records.generations, entered := m.records.entries } :: after := by
  obtain ⟨-, -, -, ignored, -, shown⟩ := h
  obtain ⟨before, after, split, hb, ha⟩ := hu.exists_place r.attrs.cls.rank
  obtain ⟨held, counters, placed⟩ := shown unmuted (.inl (by rw [noArea]; rfl))
  obtain ⟨active, free, generations, report, -⟩ := (placed before after split hb ha).1 room
  obtain ⟨-, same⟩ := ignored unmuted
  rw [same (by simp [noArea])] at counters
  exact ⟨counters, report, held, free, generations, before, after, split, hb, ha, active⟩

/-! ## The step -/

/-- Pieces that stay after all are not among those changed. -/
theorem OnlyChanges.without {xs : List Piece} {y : Piece} {s t : State} (h : OnlyChanges (y :: xs) s t) (same : y.same s t) :
    OnlyChanges xs s t := by
  intro x hx
  by_cases e : x = y
  · exact e ▸ same
  · exact h x (by simp [e, hx])

/-- A context taken and left again. -/
theorem List.set_set_of_getElem? {α : Type} {l : List α} {n : Nat} {x y : α} (h : l[n]? = some x) : (l.set n y).set n x = l := by
  obtain ⟨inTable, rfl⟩ := List.getElem?_eq_some_iff.mp h
  rw [List.set_set, List.set_getElem_self]

/-- The state in which a notice that has found a free context, and completed it, is settled. -/
def State.completes (s : State) (rest : List (List Byte)) (n : Nat) (c : Context) : State :=
  s.onIntake fun x =>
    { x with
      queue := rest, completing := some n, allocations := x.allocations + 1, contexts := x.contexts.set n (some c)
      counters := { x.counters with taken := bump x.counters.taken, completions := bump x.counters.completions } }

section
variable {s : State} {p : List Byte} {rest : List (List Byte)} {f : Fragment} {w : Window} {n : Nat}

/-- A one-part notice new to an index with room, in a free context, becomes a record at once (R50, R57, R58, R76). -/
theorem exec_takeFragment_becomesRecord (hp : s.powered = true) (hs : s.scanning = false) (hc : s.intake.completing = none)
    (hq : s.intake.queue = p :: rest) (hf : readFragment p = some f) (hw : s.windows.classify f.key.stream = some w)
    (hn : f.withdraw = false) (ht : f.total = 1) (matching : checkOf f.text = f.digest) (absent : s.index.find f.key = none)
    (room : s.index.entries.length < 160) (hl : s.intake.lookup f.key f.revision = none)
    (free : s.intake.contexts.findIdx? Option.isNone = some n) :
    let c := f.alone w.attrs.cls.rank 0 s.intake.allocations s.time.epoch
    let v := s.completes rest n c
    exec (.takeFragment false) s = .next ((v.noticed v.settling c w).settledWith n c w) := by
  intro c v
  have new : s.index.resolveNotice f.key f.revision ≠ .duplicate := by simp [Index.resolveNotice, absent]
  obtain ⟨-, whole⟩ := exec_takeFragment_alone hp hs hc hq hf hw hn new ht matching hl n id
    (State.allocateFor_free (s := s.popFragment) f free) fun _ => rfl
  obtain ⟨at_n, -⟩ := List.findIdx?_eq_some_iff_getElem.mp free
  have settles := exec_takeFragment_noticed (s := v) (c := c) hp hs rfl (List.getElem?_set_self at_n) hw absent true
  have stays : v.settling.makeRoom = v.settling := if_pos room
  rw [stays] at settles
  exact whole.trans settles
end

/-- Settles O18: the completion of a new notice in general (`State.noticed_stands`), and a one-part notice carried to that completion and through
it. -/
theorem takeFragmentCreatesARecord : Obligations.TakeFragmentCreatesARecord := by
  constructor
  · intro s interrupted n c w hp hs hu hc hn hw absent
    have room := OnlyChanges.makeRoom s.settling
    have frame := State.noticed_onlyChanges (c := c) w room
    have area : (s.noticed s.settling.makeRoom c w).area = s.area := frame .area (by simp)
    have records : (s.noticed s.settling.makeRoom c w).records = s.records := frame .records (by simp)
    refine ⟨_, exec_takeFragment_noticed hp hs hc hn hw absent interrupted, State.settledWith_onlyChanges n c w (frame.mono (by simp)),
      ?_, ?_, State.noticed_stands hu n room⟩
    · rw [State.settledWith_position, area]
    · rw [State.settledWith_created, records]
  · intro s p rest f w n hp hs hu hc hq hf hw hn ht trailer matching unmuted absent room hl free place
    obtain ⟨at_n, isFree, -⟩ := List.findIdx?_eq_some_iff_getElem.mp free
    let c := f.alone w.attrs.cls.rank 0 s.intake.allocations s.time.epoch
    let v := s.completes rest n c
    have settles := exec_takeFragment_becomesRecord hp hs hc hq hf hw hn ht matching absent room hl free
    obtain ⟨frame, intake, entries, position, created, -⟩ := State.noticed_settled (s := v) (c := c) n w (.refl _ v.settling) absent
    obtain ⟨noticesNew, -⟩ := State.noticed_counters (s := v) (u := v.settling) n (c := c) w
    have stands := State.noticed_stands (s := v) (c := c) (w := w) hu n (.refl _ v.settling)
    obtain ⟨areaCounters, report, held, freed, generations, before, after, split, hb, ha, active⟩ := stands.of_room hu unmuted trailer place
    obtain ⟨latched, delivery, -⟩ := stands
    obtain ⟨k, head⟩ := hu.exists_free place
    refine ⟨_, settles, ?frame, congrArg Intake.queue intake, ?contexts, congrArg Intake.completing intake,
      congrArg (fun x : Intake => x.counters.completions) intake, entries,
      State.noticed_puts n w rfl (Running.map_forget_nothing _).symm rfl, noticesNew, created, held, latched, freed, generations, delivery,
      before, after, _, split, active, hb, ha, ?fields⟩
    case frame =>
      have area : _ = s.area := congrArg₂ Area.mk position areaCounters
      have changed := ((OnlyChanges.onIntake s _).mono (by simp)).trans frame
      exact ((changed.mono (by simp)).without (y := .area) area).without (y := .report) report
    case contexts =>
      have atFree : s.intake.contexts[n]? = some none :=
        (List.getElem?_eq_getElem at_n).trans (congrArg some (Option.isNone_iff_eq_none.mp isFree))
      exact (congrArg Intake.contexts intake).trans (List.set_set_of_getElem? atFree)
    case fields =>
      have text : ([some f.text].flatMap fun x => x.getD []) = f.text := by simp
      exact ⟨⟨⟨s.records.generations.getD k 0, k⟩, congrArg (Option.map _) head, head, rfl⟩, rfl, rfl, rfl, rfl, rfl, text, trailer,
        congrArg (fun x => some (s.area.position.verdict x)) trailer, rfl, rfl, rfl, rfl, rfl, rfl, rfl, rfl⟩

end Sys2Proof.Machine
end

section
/-!
PROOFS. The operations that leave the lists of records, and the titles of the index entries, as they are (R69, R81): one lemma for each, in the order
of the chapters.
-/

namespace Sys2Proof.Machine

/-- The part of an entry that the records rely on: its key, its revision, and whether that was a notice or a withdrawal. -/
abbrev Title := Key × BitVec 4 × EntryState

def EntryFields.title (f : EntryFields) : Title := (f.key, f.revision, f.state)

/-- The titles of the entries, in index order. -/
def Index.titles (x : Index) : List Title := (x.entries.map Entry.fields).map EntryFields.title

/-- What the law of the index speaks of: whether the scan runs, the records on the lists, the titles of the entries. -/
def State.ledger (s : State) : Bool × List Record × List Record × List Title :=
  (s.scanning, s.records.active, s.records.held, s.index.titles)

/-- A change of the index that keeps the fields of its entries. -/
theorem State.onIndex_ledger (s : State) {f : Index → Index}
    (h : (f s.index).entries.map Entry.fields = s.index.entries.map Entry.fields) : (s.onIndex f).ledger = s.ledger :=
  congrArg (fun fs => (s.scanning, s.records.active, s.records.held, fs.map EntryFields.title)) h

section
variable (s : State)

/-! ## Updates of one block -/

@[simp] theorem State.onIntake_ledger (f : Intake → Intake) : (s.onIntake f).ledger = s.ledger := rfl
@[simp] theorem State.onSector_ledger (k : Nat) (f : Sector → Sector) : (s.onSector k f).ledger = s.ledger := rfl
@[simp] theorem State.onProvisioningSlot_ledger (n : Nat) (f : ProvisioningSlot → ProvisioningSlot) :
    (s.onProvisioningSlot n f).ledger = s.ledger := rfl
@[simp] theorem State.onStore_ledger (f : Store → Store) : (s.onStore f).ledger = s.ledger := rfl
@[simp] theorem State.countIntake_ledger (f : IntakeCounters → IntakeCounters) : (s.countIntake f).ledger = s.ledger := rfl
@[simp] theorem State.countHistory_ledger (f : HistoryCounters → HistoryCounters) : (s.countHistory f).ledger = s.ledger := rfl
@[simp] theorem State.countArea_ledger (f : AreaCounters → AreaCounters) : (s.countArea f).ledger = s.ledger := rfl
@[simp] theorem State.countRecords_ledger (f : RecordCounters → RecordCounters) : (s.countRecords f).ledger = s.ledger := rfl

/-- A fold of operations that leave the lists and the titles leaves them. -/
theorem State.foldl_ledger {α : Type} {f : State → α → State} (h : ∀ s a, (f s a).ledger = s.ledger) (l : List α) (s : State) :
    (l.foldl f s).ledger = s.ledger := by
  induction l generalizing s with
  | nil => rfl
  | cons a l ih => exact (ih _).trans (h s a)

/-! ## The link path (R11 to R18) -/

@[simp] theorem State.sortM_ledger (f : Frame) : (s.sortM f).ledger = s.ledger := by
  unfold State.sortM
  dsimp only
  split_ifs <;> rfl

@[simp] theorem State.sortP_ledger (f : Frame) : (s.sortP f).ledger = s.ledger := by
  unfold State.sortP
  dsimp only
  split_ifs <;> rfl

@[simp] theorem State.frameSent_ledger (port : Port) : (s.frameSent port).ledger = s.ledger := by
  unfold State.frameSent
  split
  · next x _ => cases x.source <;> rfl
  · rfl

@[simp] theorem State.arbitrateM_ledger : s.arbitrateM.ledger = s.ledger := by
  unfold State.arbitrateM
  split <;> split <;> rfl

@[simp] theorem State.takeForwarded_ledger : s.takeForwarded.ledger = s.ledger := by
  unfold State.takeForwarded
  split <;> rfl

@[simp] theorem State.takeReply_ledger : s.takeReply.ledger = s.ledger := by
  unfold State.takeReply
  split <;> rfl

/-! ## Reports, receipts, the end of a record that is on no list (R130, R154, R158) -/

@[simp] theorem State.joinReport_ledger (x : Summary) (d : Nat) : (s.joinReport x d).ledger = s.ledger := by
  rcases s.joinReport_cases x d with ⟨_, h⟩ | ⟨_, h⟩ <;> rw [h] <;> rfl

@[simp] theorem State.queueReceipt_ledger (r : Record) (k : ReceiptKind) : (s.queueReceipt r k).ledger = s.ledger := by
  rcases s.queueReceipt_cases r k with ⟨_, h⟩ | ⟨_, h⟩ <;> rw [h] <;> rfl

@[simp] theorem State.freeSlot_ledger (h : Handle) : (s.onRecords (Records.freeSlot h)).ledger = s.ledger := rfl

@[simp] theorem State.finish_ledger (code : Code) (r : Record) : (s.finish code r).ledger = s.ledger := by
  unfold State.finish
  cases r.handle <;> split_ifs <;> simp

@[simp] theorem State.countDelivery_ledger (r : Record) : (s.countDelivery r).ledger = s.ledger := by
  unfold State.countDelivery
  dsimp only
  split_ifs <;> simp

/-! ## The pending write list (R176, R177) -/

@[simp] theorem State.offer_ledger (k : Key) : (s.offer k).ledger = s.ledger := by
  rcases s.offer_cases k with ⟨_, h⟩ | ⟨_, _, h⟩ | ⟨_, h⟩ <;> rw [h] <;> rfl

@[simp] theorem State.offerAll_ledger (ks : List Key) : (s.offerAll ks).ledger = s.ledger := foldl_ledger (fun s k => s.offer_ledger k) ks s

@[simp] theorem State.sweepUnpersisted_ledger : s.sweepUnpersisted.ledger = s.ledger := by rw [State.sweepUnpersisted_eq]; rfl

/-! ## The history store (R173 to R187) -/

@[simp] theorem State.checkRamOnly_ledger : s.checkRamOnly.ledger = s.ledger := by
  unfold State.checkRamOnly
  split <;> rfl

@[simp] theorem State.openSuccessor_ledger : s.openSuccessor.ledger = s.ledger := by
  unfold State.openSuccessor
  split
  · split <;> rfl
  · rfl

@[simp] theorem State.closeCurrent_ledger (k : Nat) : (s.closeCurrent k).ledger = s.ledger := by
  unfold State.closeCurrent
  split <;> rfl

@[simp] theorem State.closeWhenUsed_ledger (k : Nat) : (s.closeWhenUsed k).ledger = s.ledger := by
  unfold State.closeWhenUsed
  split <;> simp

/-- A reclaim takes the locations of entries, not their fields. -/
@[simp] theorem State.startReclaim_ledger (k : Nat) : (s.startReclaim k).ledger = s.ledger := by
  unfold State.startReclaim
  dsimp only
  rw [State.onStore_ledger, State.offerAll_ledger]
  exact s.onIndex_ledger (entriesReclaimed_fields k s.index.entries)

@[simp] theorem State.examineReclaim_ledger : s.examineReclaim.ledger = s.ledger := by
  rcases s.examineReclaim_cases with ⟨_, k, _, h⟩ | h <;> simp [h]

@[simp] theorem State.finishClear_ledger (tag : Byte) : (s.finishClear tag).ledger = s.ledger := rfl

@[simp] theorem State.settleClear_ledger : s.settleClear.ledger = s.ledger := by
  unfold State.settleClear
  cases s.store.clear with
  | none => rfl
  | some c =>
    dsimp only
    cases (s.sectorsIn .erased).head? <;> split_ifs <;> simp

@[simp] theorem State.beginClear_ledger (tag : Byte) : (s.beginClear tag).ledger = s.ledger := by simp [State.beginClear]

@[simp] theorem State.startWrite_ledger : s.startWrite.ledger = s.ledger := by
  unfold State.startWrite
  split
  · split <;> rfl
  · rfl

/-- An entry that becomes persisted keeps its fields. -/
@[simp] theorem State.persist_ledger (k : Key) (location : Nat × Nat) : (s.onIndex (Index.persist k location)).ledger = s.ledger := by
  refine s.onIndex_ledger ?_
  rw [Index.persist, List.map_map]
  refine List.map_congr_left fun e _ => ?_
  simp only [Function.comp]
  split <;> rfl

@[simp] theorem State.slotProgramEnd_ledger (verify : SlotVerify) (w : SlotProgram) : (s.slotProgramEnd verify w).ledger = s.ledger := by
  have failed (u : State) (x : Slot) : (u.writeFailed w x).ledger = u.ledger := by
    simp [State.writeFailed, apply_ite State.ledger]
  have committed (u : State) : (u.writeCommitted w).ledger = u.ledger := by
    simp [State.writeCommitted, apply_ite State.ledger]
  cases verify <;> simp [State.slotProgramEnd, State.slotUsed, failed, committed]

@[simp] theorem State.startAmend_ledger : s.startAmend.ledger = s.ledger := by
  unfold State.startAmend
  split <;> rfl

@[simp] theorem State.opened_ledger (k : Nat) (q : Half) : (s.opened k q).ledger = s.ledger := by
  unfold State.opened
  split
  · split <;> simp
  · rfl

@[simp] theorem State.amendEnd_ledger (passed : Bool) (r : AmendRequest) : (s.amendEnd passed r).ledger = s.ledger := by
  cases passed with
  | true => cases h : r.amend <;> simp [State.amendEnd, State.amendPassed, h]
  | false =>
    simp only [State.amendEnd, State.amendFailed, Bool.false_eq_true, if_false]
    split_ifs <;> simp

@[simp] theorem State.startErase_ledger : s.startErase.ledger = s.ledger := by
  unfold State.startErase
  split <;> rfl

@[simp] theorem State.endErase_ledger (passed : Bool) (k : Nat) : (s.endErase passed k).ledger = s.ledger := by
  cases passed <;> simp [State.endErase, State.erasePassed, State.eraseFailed]

@[simp] theorem State.endJob_ledger (j : ProvisioningJob) (result : Result) : (s.endJob j result).ledger = s.ledger := rfl

@[simp] theorem State.loadOverride_ledger (n : Nat) : (s.loadOverride n).ledger = s.ledger := rfl

@[simp] theorem State.provisioningEnd_ledger (passed : Bool) (j : ProvisioningJob) : (s.provisioningEnd passed j).ledger = s.ledger := by
  cases passed with
  | true => cases h : j.target <;> simp [State.provisioningEnd, State.provisioningPassed, h]
  | false =>
    simp only [State.provisioningEnd, State.provisioningFailed, Bool.false_eq_true, if_false]
    cases j.target with
    | copy n b =>
      dsimp only
      split <;> simp
    | lock again => cases again <;> simp

/-! ## Requests that touch neither records nor the index -/

@[simp] theorem State.answer_ledger (p : List Byte) (result : Result) (data : List Byte) : (s.answer p result data).ledger = s.ledger := rfl

@[simp] theorem State.getCounters_ledger (p : List Byte) : (s.getCounters p).ledger = s.ledger := by
  have cleared (u : State) (group : Nat) : (u.clearGroup group).ledger = u.ledger := by
    unfold State.clearGroup
    split <;> rfl
  unfold State.getCounters
  dsimp only
  split
  · rfl
  · split_ifs <;> simp [cleared]

@[simp] theorem State.loadWindow_ledger (p : List Byte) : (s.loadWindow p).ledger = s.ledger := by
  unfold State.loadWindow
  dsimp only
  split
  · rfl
  · split_ifs <;> rfl

@[simp] theorem State.muteWindow_ledger (p : List Byte) : (s.muteWindow p).ledger = s.ledger := by
  unfold State.muteWindow
  dsimp only
  split
  · rfl
  · split_ifs <;> rfl

@[simp] theorem State.readWindow_ledger (p : List Byte) : (s.readWindow p).ledger = s.ledger := by
  unfold State.readWindow
  dsimp only
  split <;> rfl

@[simp] theorem State.provision_ledger (p : List Byte) : (s.provision p).ledger = s.ledger := by
  unfold State.provision
  dsimp only
  split
  · rfl
  · split_ifs
    · rfl
    · rfl
    · rfl
    · split <;> rfl

@[simp] theorem State.lockProvision_ledger (p : List Byte) : (s.lockProvision p).ledger = s.ledger := by
  unfold State.lockProvision
  dsimp only
  split_ifs <;> rfl

@[simp] theorem State.configure_ledger (p : List Byte) : (s.configure p).ledger = s.ledger := by
  unfold State.configure
  split <;> rfl

/-! ## The reassembly unit, but for what it resolves -/

@[simp] theorem State.contextError_ledger (n : Nat) (c : Context) : (s.contextError n c).ledger = s.ledger := by
  unfold State.contextError
  split <;> rfl

@[simp] theorem State.afterAccept_ledger (n : Nat) (c : Context) : (s.afterAccept n c).ledger = s.ledger := by
  unfold State.afterAccept State.awaitCompletion
  split_ifs <;> simp [State.setContext]

@[simp] theorem State.allocateFor_ledger (f : Fragment) (rank : Nat) : (s.allocateFor f rank).ledger = s.ledger := by
  unfold State.allocateFor State.allocate
  split
  · simp
  · split <;> simp

@[simp] theorem State.join_ledger (n : Nat) (c : Context) (f : Fragment) : (s.join n c f).ledger = s.ledger := by
  unfold State.join
  dsimp only
  split_ifs <;> simp [State.setContext]

@[simp] theorem State.takeNoticeFragment_ledger (f : Fragment) (w : Window) : (s.takeNoticeFragment f w).ledger = s.ledger := by
  unfold State.takeNoticeFragment
  split
  · rfl
  · split <;> simp

@[simp] theorem State.takeUnlisted_ledger (p : List Byte) : (s.takeUnlisted p).ledger = s.ledger := by
  unfold State.takeUnlisted
  split
  · rfl
  · split <;> rfl

/-! ## The events of an epoch -/

@[simp] theorem State.sweepContexts_ledger : s.sweepContexts.ledger = s.ledger := by rw [State.sweepContexts_eq]; rfl

@[simp] theorem State.checkPosition_ledger : s.checkPosition.ledger = s.ledger := by
  unfold State.checkPosition
  split <;> rfl

end

end Sys2Proof.Machine
end

section
/-!
PROOFS. The operations of the record unit keep the alerts their lists cite (R81, R105 to R110, R117, R121, R126, R130, R131): a record leaves, moves
or changes in place, and of new alerts only that of a new record joins.
-/

namespace Sys2Proof.Machine

/-! ## The alerts the lists cite -/

/-- The title of the entry a listed record relies on (R81). -/
def Record.cite (r : Record) : Title := (r.key, r.revision, .noticeSeen)

/-- What the records on the active list and on the held list cite. -/
def Records.cites (u : Records) : List Title := (u.active ++ u.held).map Record.cite

theorem Records.mem_cites {u : Records} {c : Title} : c ∈ u.cites ↔ ∃ r ∈ u.active ++ u.held, r.cite = c := List.mem_map

/-- Lists whose every record stands in for one of other lists, of the same alert, cite no other alert. -/
theorem Records.cites_subset {u v : Records} {new : List Title}
    (active : ∀ x ∈ v.active, x.cite ∈ new ∨ ∃ y ∈ u.active ++ u.held, y.cite = x.cite)
    (held : ∀ x ∈ v.held, x.cite ∈ new ∨ ∃ y ∈ u.active ++ u.held, y.cite = x.cite) : v.cites ⊆ new ++ u.cites := by
  intro c hc
  obtain ⟨x, hx, rfl⟩ := Records.mem_cites.mp hc
  have stands := (List.mem_append.mp hx).elim (active x) (held x)
  exact List.mem_append.mpr (stands.imp_right Records.mem_cites.mpr)

/-- An operation keeps the scan and the titles of the entries, and what its lists cite was cited before, or is among these new titles. -/
structure State.Relists (new : List Title) (s t : State) : Prop where
  scanning : t.scanning = s.scanning
  titles : t.index.titles = s.index.titles
  cites : t.records.cites ⊆ new ++ s.records.cites

section
variable {new : List Title}

theorem State.Relists.of_ledger {s t : State} (h : t.ledger = s.ledger) : s.Relists new t := by
  simp only [State.ledger, Prod.mk.injEq] at h
  obtain ⟨scanning, active, held, titles⟩ := h
  refine ⟨scanning, titles, ?_⟩
  rw [Records.cites, active, held]
  exact List.subset_append_right _ _

theorem State.Relists.refl (s : State) : s.Relists new s := .of_ledger rfl

theorem State.Relists.trans {s t u : State} (h : s.Relists new t) (h' : t.Relists new u) : s.Relists new u where
  scanning := h'.scanning.trans h.scanning
  titles := h'.titles.trans h.titles
  cites := fun _ hc => (List.mem_append.mp (h'.cites hc)).elim (List.mem_append_left _) fun hc => h.cites hc

/-- A step of operations the second of which leaves the lists and the titles. -/
theorem State.Relists.then_ledger {s t u : State} (h : s.Relists new t) (h' : u.ledger = t.ledger) : s.Relists new u :=
  h.trans (.of_ledger h')

/-- An operation after one that leaves the lists and the titles. -/
theorem State.Relists.from_ledger {s t u : State} (h : t.Relists new u) (same : t.ledger = s.ledger) : s.Relists new u :=
  (State.Relists.of_ledger same).trans h

theorem State.Relists.foldl {α : Type} {f : State → α → State} {l : List α} (h : ∀ a ∈ l, ∀ s : State, s.Relists new (f s a))
    (s : State) : s.Relists new (l.foldl f s) := by
  induction l generalizing s with
  | nil => exact .refl s
  | cons a l ih => exact (h a (by simp) s).trans (ih (fun b hb => h b (List.mem_cons_of_mem a hb)) _)

theorem State.Relists.onRecords {s : State} {f : Records → Records} (h : (f s.records).cites ⊆ new ++ s.records.cites) :
    s.Relists new (s.onRecords f) := ⟨rfl, rfl, h⟩

/-! ## Records leave (R121, R130, R131) -/

variable (s : State)

/-- A record that is still listed cites what it cited. -/
theorem Records.stands {u : Records} {x : Record} (h : x ∈ u.active ++ u.held) :
    x.cite ∈ new ∨ ∃ y ∈ u.active ++ u.held, y.cite = x.cite := .inr ⟨x, h, rfl⟩

theorem Records.unlist_cites (x : Record) (u : Records) : (u.unlist x).cites ⊆ new ++ u.cites :=
  Records.cites_subset (fun _ h => Records.stands (List.mem_append_left _ (List.mem_filter.mp h).1))
    fun _ h => Records.stands (List.mem_append_right _ (List.mem_filter.mp h).1)

theorem State.Relists.complete (code : Code) (r : Record) : s.Relists new (s.complete code r) :=
  (State.Relists.onRecords (s.records.unlist_cites r)).then_ledger (State.finish_ledger _ code r)

theorem State.Relists.latch (code : Code) (r : Record) : s.Relists new (s.latch code r) := .onRecords (s.records.unlist_cites r)

theorem State.Relists.endRecord (code : Code) (r : Record) : s.Relists new (s.endRecord code r) := by
  unfold State.endRecord
  split
  · exact .latch s code r
  · exact .complete s code r

theorem State.Relists.endAll (code : Code) (rs : List Record) : s.Relists new (s.endAll code rs) :=
  .foldl (fun r _ u => .endRecord u code r) s

theorem State.Relists.displace (s : State) : s.Relists new s.displace := by
  unfold State.displace
  split
  · split
    · exact .complete s _ _
    · exact .refl s
  · exact .refl s

/-! ## Records enter (R107, R108, R117, R121) -/

theorem State.Relists.seat (n : Nat) : s.Relists new (s.onRecords (Records.seat n)) := by
  have held : (s.records.seat n).held = s.records.held := by
    obtain ⟨active, free, h⟩ := s.records.seat_eq n
    rw [h]
  refine .onRecords (Records.cites_subset (fun x hx => ?_) fun x hx => Records.stands (List.mem_append_right _ (held ▸ hx)))
  rcases Records.mem_seat hx with h | ⟨y, hy, _, _, rfl⟩
  · exact Records.stands (List.mem_append_left _ h)
  · exact .inr ⟨y, List.mem_append_left _ hy, rfl⟩

variable {r : Record} (cited : r.cite ∈ new)
include cited

theorem State.Relists.enterActive : s.Relists new (s.enterActive r) := by
  refine State.Relists.trans (State.Relists.onRecords (Records.cites_subset (fun x hx => ?_) fun x hx => ?_))
    ((State.Relists.displace _).trans (.seat _ _))
  · rcases (mem_insertBefore _ _ _ _).mp hx with rfl | h
    · exact .inl cited
    · exact Records.stands (List.mem_append_left _ h)
  · exact Records.stands (List.mem_append_right _ hx)

theorem State.Relists.joinHeld : s.Relists new (s.joinHeld r) := by
  refine State.Relists.then_ledger (.onRecords (Records.cites_subset (fun x hx => ?_) fun x hx => ?_)) (State.countArea_ledger _ _)
  · exact Records.stands (List.mem_append_left _ hx)
  · rcases List.mem_append.mp hx with h | h
    · exact Records.stands (List.mem_append_right _ h)
    · exact List.mem_singleton.mp h ▸ .inl cited

theorem State.Relists.hold : s.Relists new (s.hold r) := by
  rcases s.hold_cases r with h | h | ⟨e, _, h⟩ <;> rw [h]
  · exact .joinHeld s cited
  · exact .of_ledger rfl
  · exact (State.Relists.onRecords (s.records.unlist_cites e)).trans ((State.Relists.joinHeld _ cited).from_ledger rfl)
end

/-- The creation of a record brings the alert of its context alone. -/
theorem State.Relists.create (s : State) (c : Context) (w : Window) : s.Relists [(c.key, c.revision, .noticeSeen)] (s.create (c.alert w)) := by
  have counted (r : Record) : (s.creating.judged r).ledger = s.ledger := rfl
  have cited : (s.newRecord c w).cite ∈ [(c.key, c.revision, .noticeSeen)] := List.mem_singleton.mpr rfl
  cases hm : w.attrs.muted with
  | true =>
    rw [State.create_muted s c w hm]
    exact .of_ledger rfl
  | false =>
    rw [State.create_unmuted s c w hm]
    split
    · exact (State.Relists.enterActive _ cited).from_ledger (counted _)
    · exact (State.Relists.hold _ cited).from_ledger (counted _)

/-! ## Records change in place (R126, R127, R128, R139, R146) -/

section
variable (s : State)

/-- A change of active records in place that keeps their alerts. -/
theorem Records.cites_of_map {u v : Records} {f : Record → Record} (keeps : ∀ x, (f x).cite = x.cite) (active : v.active = u.active.map f)
    (held : v.held = u.held) : v.cites ⊆ [] ++ u.cites := by
  refine Records.cites_subset (fun x hx => ?_) fun x hx => Records.stands (List.mem_append_right _ (held ▸ hx))
  obtain ⟨y, hy, rfl⟩ := List.mem_map.mp (active ▸ hx)
  exact .inr ⟨y, List.mem_append_left _ hy, (keeps y).symm⟩

theorem Records.update_cites (x : Record) {f : Record → Record} (u : Records) (keeps : ∀ y, (f y).cite = y.cite := by exact fun _ => rfl) :
    (u.update x f).cites ⊆ [] ++ u.cites := by
  refine Records.cites_of_map (fun y => ?_) rfl rfl
  split
  · exact keeps y
  · rfl

theorem State.Relists.takeStep : s.Relists [] s.takeStep := by
  refine ⟨rfl, rfl, Records.cites_of_map (fun r => ?_) rfl rfl⟩
  unfold Record.remindAt
  split <;> rfl

theorem State.Relists.advanceEpoch : s.Relists [] s.advanceEpoch := by
  have decremented : s.Relists [] (if s.due.flushCountdown then s.takeDecrement else s) := by split <;> exact .of_ledger rfl
  have stepped (u : State) : u.Relists [] (if u.due.reminderStep then u.takeStep else u) := by
    split
    · exact .takeStep u
    · exact .refl u
  exact (decremented.trans (stepped _)).trans (.of_ledger rfl)

theorem State.Relists.lastFrame (r : Record) : s.Relists [] (s.lastFrame r) := by
  have counted : s.Relists [] ((s.countDelivery r).onRecords fun x => { x with delivery := none }) :=
    .of_ledger (s.countDelivery_ledger r)
  unfold State.lastFrame
  dsimp only
  split
  · exact counted.trans (.onRecords (Records.update_cites r _))
  · exact (counted.then_ledger rfl).then_ledger (State.finish_ledger _ _ _)

theorem State.Relists.takeSequenceFrame (d : Delivery) : s.Relists [] (s.takeSequenceFrame d) := by
  unfold State.takeSequenceFrame
  split
  · dsimp only
    split
    · exact (State.Relists.lastFrame _ _).from_ledger rfl
    · exact .of_ledger rfl
  · exact .of_ledger rfl

theorem State.Relists.takeDeliveryWork : s.Relists [] s.takeDeliveryWork := by
  unfold State.takeDeliveryWork
  split
  · unfold State.beginDelivery
    split
    · refine State.Relists.trans (.onRecords ?_) (.takeSequenceFrame _ _)
      exact Records.update_cites _ s.records
    · exact .refl s
  · split
    · exact ⟨rfl, rfl, Records.update_cites _ s.records⟩
    · exact .refl s

theorem State.Relists.arbitrateP : s.Relists [] s.arbitrateP := by
  unfold State.arbitrateP
  split
  · exact (State.Relists.takeSequenceFrame s _).then_ledger rfl
  · split_ifs
    · exact .of_ledger s.takeReply_ledger
    · exact .of_ledger s.takeForwarded_ledger
    · exact (State.Relists.takeDeliveryWork s).then_ledger rfl
    · exact .of_ledger rfl
    · exact .of_ledger s.takeForwarded_ledger

/-! ## Requests and events on the lists (R93, R109, R110, R128, R135, R139) -/

theorem State.Relists.judgeHeld {new : List Title} {r : Record} (cited : r.cite ∈ new) : s.Relists new (s.judgeHeld r) := by
  unfold State.judgeHeld
  dsimp only
  split
  · refine State.Relists.trans (State.Relists.then_ledger (.onRecords ?_) (State.countArea_ledger _ _)) (.enterActive _ ?_)
    · exact Records.cites_subset (fun _ h => Records.stands (List.mem_append_left _ h))
        fun _ h => Records.stands (List.mem_append_right _ (List.mem_filter.mp h).1)
    · exact cited
  · refine .onRecords (Records.cites_subset (fun _ h => Records.stands (List.mem_append_left _ h)) fun x hx => ?_)
    obtain ⟨y, hy, rfl⟩ := List.mem_map.mp hx
    refine .inr ⟨y, List.mem_append_right _ hy, ?_⟩
    split <;> rfl

/-- Every held record is judged again: the newcomers on the active list were held (R109). -/
theorem State.Relists.setPosition (p : List Byte) : s.Relists [] (s.setPosition p) := by
  unfold State.setPosition
  split
  · unfold State.acceptPosition
    let u := (s.onArea fun a => { a with position := .given (coordinateAt p 2) (coordinateAt p 6) (halfAt p 10).toNat s.time.epoch }).countArea
      fun c => { c with positionUpdates := bump c.positionUpdates }
    obtain ⟨scanning, titles, cites⟩ : s.Relists s.records.cites (s.records.held.foldl State.judgeHeld u) :=
      (State.Relists.foldl (fun r hr v => .judgeHeld v (Records.mem_cites.mpr ⟨r, List.mem_append_right _ hr, rfl⟩)) u).from_ledger rfl
    exact ⟨scanning, titles, fun c hc => by simpa using cites hc⟩
  · exact .of_ledger rfl

theorem State.Relists.examineHeld : s.Relists [] s.examineHeld :=
  .foldl (fun r _ u => (State.Relists.complete u .outOfArea r).then_ledger (State.countArea_ledger _ _)) s

theorem State.Relists.acknowledge (p : List Byte) : s.Relists [] (s.acknowledge p) := by
  unfold State.acknowledge
  split
  · exact .of_ledger rfl
  · split
    · exact .of_ledger rfl
    · exact .of_ledger rfl
    · exact (State.Relists.complete s _ _).then_ledger rfl
    · refine State.Relists.then_ledger ?_ (State.answer_ledger _ _ _ _)
      split
      · exact .latch s _ _
      · exact .refl s

theorem State.Relists.fetchRecord (p : List Byte) : s.Relists [] (s.fetchRecord p) := by
  unfold State.fetchRecord
  split
  · exact .of_ledger rfl
  · split
    · exact .of_ledger rfl
    · exact .of_ledger rfl
    · exact .of_ledger rfl
    · exact ⟨rfl, rfl, Records.update_cites _ s.records⟩

end

end Sys2Proof.Machine
end

section
/-!
PROOFS. The expiry sweep (R84, R88, R177, R178): entries removed one after another as one removal, and what it brings to the pending write list.
-/

namespace Sys2Proof.Machine

/-! ## Keys forgotten (R88, R178) -/

theorem Running.forget_forget (g h : Key → Bool) (r : Running) : (r.forget g).forget h = r.forget fun k => g k || h k := by
  cases r <;> simp [Running.forget, Bool.or_assoc]

theorem Store.forget_forget (g h : Key → Bool) (x : Store) : (x.forget g).forget h = x.forget fun k => g k || h k := by
  cases hr : x.retry <;>
    simp [Store.forget, Option.map_map, Function.comp_def, Running.forget_forget, List.filter_filter, Bool.and_comm, hr]

theorem Store.forget_nothing (x : Store) : x.forget (fun _ => false) = x := by
  have retry : x.retry.filter (fun _ => true) = x.retry := by cases x.retry <;> rfl
  simp [Store.forget, Running.map_forget_nothing, retry]

/-! ## Entries removed (R84) -/

/-- The state once the entries of some keys have been removed and counted as expired. -/
def State.expiring (s : State) (ks : List Key) : State :=
  { s with
    index :=
      { entries := s.index.entries.filter fun e => e.fields.key ∉ ks
        counters := { s.index.counters with entriesExpired := bumpBy ks.length s.index.counters.entriesExpired } }
    store := s.store.forget (· ∈ ks) }

theorem State.foldl_removeEntry (ks : List Key) (s : State) :
    ks.foldl (fun s k => (s.removeEntry k).countHistory fun c => { c with entriesExpired := bump c.entriesExpired }) s = s.expiring ks := by
  induction ks generalizing s with
  | nil =>
    simp [State.expiring, Store.forget_nothing]
  | cons k ks ih =>
    have forgotten : (s.store.forget (· == k)).forget (· ∈ ks) = s.store.forget (· ∈ k :: ks) := by
      rw [Store.forget_forget]
      exact congrArg (s.store.forget ·) (funext fun x => by simp [beq_eq_decide])
    have left : (s.index.entries.filter fun e => e.fields.key != k).filter (fun e => e.fields.key ∉ ks) =
        s.index.entries.filter fun e => e.fields.key ∉ k :: ks := by
      rw [List.filter_filter]
      exact List.filter_congr fun e _ => by simp [bne, Bool.and_comm, beq_eq_decide]
    rw [List.foldl_cons, ih]
    simp only [State.expiring, State.removeEntry, State.countHistory, State.onIndex, State.onStore, forgotten, left, List.length_cons,
      bumpBy_succ]

/-! ## The sweep (R84) -/

/-- Whether an entry has expired and no live record names its key (R84). -/
def State.lapsed (s : State) (e : Entry) : Bool := e.fields.expiry.toNat ≤ s.time.wall.toNat && !s.named e.fields.key

/-- A sweep made while time is set and the scan is over. -/
theorem State.sweepExpired_eq {s : State} (set : s.time.timeSet = true) (idle : s.scanning = false) :
    s.sweepExpired = (s.expiring s.expiredKeys).afterRemovals s.store.retry := by
  have runs : (s.time.timeSet && !s.scanning) = true := by simp [set, idle]
  rw [State.sweepExpired, if_pos runs, State.foldl_removeEntry]

/-- No sweep is made while time is unset or the scan runs. -/
theorem State.sweepExpired_rests {s : State} (h : s.time.timeSet = false ∨ s.scanning = true) : s.sweepExpired = s := by
  have rests : ¬ (s.time.timeSet && !s.scanning) = true := by rcases h with h | h <;> simp [h]
  rw [State.sweepExpired, if_neg rests]

/-- A removal that leaves the retry brings no sweep of unpersisted entries. -/
theorem State.afterRemovals_of_kept {s : State} {due : Option Key} (h : s.store.retry = due) : s.afterRemovals due = s := by
  rcases s.afterRemovals_cases due with ⟨some, none, _⟩ | ⟨_, same⟩
  · simp [← h, none] at some
  · exact same

/-- A removal that has dropped the retry brings one (R177, log entry 12). -/
theorem State.afterRemovals_of_dropped {s : State} {k : Key} (h : s.store.retry = none) :
    s.afterRemovals (some k) = s.onStore fun x => { x with writes := sweptList s.store.ramOnly s.index.entries x.writes } := by
  rw [State.afterRemovals, if_pos (by simp [h]), State.sweepUnpersisted_eq]

/-- Whatever a removal brings, it is the pending write list that changes. -/
theorem State.afterRemovals_eq (due : Option Key) (s : State) :
    ∃ writes, s.afterRemovals due = s.onStore fun x => { x with writes := writes } := by
  rcases s.afterRemovals_cases due with ⟨_, _, h⟩ | ⟨_, h⟩
  · exact ⟨_, h.trans s.sweepUnpersisted_eq⟩
  · exact ⟨s.store.writes, h⟩

theorem OnlyChanges.sweepExpired (s : State) : OnlyChanges [.index, .store, .outputs] s s.sweepExpired := by
  by_cases h : s.time.timeSet = true ∧ s.scanning = false
  · obtain ⟨writes, swept⟩ := State.afterRemovals_eq s.store.retry (s.expiring s.expiredKeys)
    rw [State.sweepExpired_eq h.1 h.2, swept]
    refine OnlyChanges.trans (t := s.expiring s.expiredKeys) (fun x hx => ?_) ((OnlyChanges.onStore _ _).mono (by simp))
    cases x <;> simp_all [Piece.same, State.expiring]
  · rw [State.sweepExpired_rests (by simpa [imp_iff_or_not, or_comm] using h)]
    exact .refl _ s

theorem OnlyChanges.onDue (s : State) (f : EpochDue → EpochDue) : OnlyChanges [.due] s (s.onDue f) := by
  intro x hx
  cases x <;> simp_all [Piece.same]

theorem exec_expirySweep {s : State} (hp : s.powered = true) (owed : 0 < s.due.expirySweep) :
    exec .expirySweep s = .next (s.onDue fun d => { d with expirySweep := d.expirySweep - 1 }).sweepExpired.settle := by
  rw [exec, execExpirySweep, State.occur_of_ready hp (decide_eq_true owed)]

section
variable {s : State}

theorem State.mem_expiredKeys {k : Key} : k ∈ s.expiredKeys ↔ ∃ e ∈ s.index.entries, s.lapsed e = true ∧ e.fields.key = k := by
  simp only [State.expiredKeys, State.lapsed, List.mem_map, List.mem_filter, and_assoc]

/-- The keys that stay on the pending write list (R88). -/
theorem State.expiring_writes :
    (s.expiring s.expiredKeys).store.writes =
      s.store.writes.filter fun k => !s.index.entries.any fun e => s.lapsed e && e.fields.key == k :=
  List.filter_congr fun k _ => Bool.eq_iff_iff.mpr (by simp [State.mem_expiredKeys])

/-- A retry stays due where its entry has not lapsed (R178). -/
theorem State.expiring_retry_kept (h : ∀ k, s.store.retry = some k → ∀ e ∈ s.index.entries, e.fields.key = k → s.lapsed e = false) :
    (s.expiring s.expiredKeys).store.retry = s.store.retry := by
  cases due : s.store.retry with
  | none => simp [State.expiring, due]
  | some k =>
    have kept : k ∉ s.expiredKeys := fun mem => by
      obtain ⟨e, he, lapsed, same⟩ := State.mem_expiredKeys.mp mem
      simp [h k due e he same] at lapsed
    simp [State.expiring, due, kept]

/-- A retry due for an entry that has lapsed is dropped (R178). -/
theorem State.expiring_retry_dropped {e : Entry} (he : e ∈ s.index.entries) (lapsed : s.lapsed e = true)
    (due : s.store.retry = some e.fields.key) : (s.expiring s.expiredKeys).store.retry = none := by
  have removed : e.fields.key ∈ s.expiredKeys := State.mem_expiredKeys.mpr ⟨e, he, lapsed, rfl⟩
  simp [State.expiring, due, removed]

variable (hn : (s.index.entries.map fun e => e.fields.key).Nodup)
include hn

/-- Of entries with different keys, those whose key expires are those that have lapsed. -/
theorem State.key_mem_expiredKeys_iff {e : Entry} (he : e ∈ s.index.entries) : e.fields.key ∈ s.expiredKeys ↔ s.lapsed e = true := by
  rw [State.mem_expiredKeys]
  constructor
  · rintro ⟨x, hx, lapsed, same⟩
    rwa [List.inj_on_of_nodup_map hn hx he same] at lapsed
  · exact fun h => ⟨e, he, h, rfl⟩

theorem State.expiring_entries : (s.expiring s.expiredKeys).index.entries = s.index.entries.filter fun e => !s.lapsed e :=
  List.filter_congr fun e he => Bool.eq_iff_iff.mpr (by simp [State.key_mem_expiredKeys_iff hn he])
end

/-- Settles O23: the removals as one (`State.foldl_removeEntry`), then the sweep where the retry was among them. -/
theorem expirySweepRemovesExpiredEntries : Obligations.ExpirySweepRemovesExpiredEntries := by
  intro s hp owed hn gone
  let u := s.onDue fun d => { d with expirySweep := d.expirySweep - 1 }
  have run : exec .expirySweep s = .next u.sweepExpired.settle := exec_expirySweep hp owed
  have frame : OnlyChanges [.index, .store, .due, .outputs] s u.sweepExpired.settle :=
    ((OnlyChanges.onDue s _).andThen (.sweepExpired u) (by simp) (by simp)).settled (by simp)
  constructor
  · intro set idle
    let v := u.expiring u.expiredKeys
    have swept : u.sweepExpired = v.afterRemovals s.store.retry := State.sweepExpired_eq (s := u) set idle
    have entries : v.index.entries = s.index.entries.filter fun e => !gone e := State.expiring_entries (s := u) hn
    have count : u.expiredKeys.length = s.index.entries.countP gone := by
      rw [State.expiredKeys, List.length_map, ← List.countP_eq_length_filter]
      rfl
    obtain ⟨writes, brought⟩ := State.afterRemovals_eq s.store.retry v
    rw [swept] at run frame
    refine ⟨_, run, frame, ?due, ?entries, ?counters, fun kept => ?kept, fun e he lapsed due => ?dropped⟩
    case due => rw [brought]; rfl
    case entries => rw [brought]; exact entries
    case counters => rw [brought, ← count]; rfl
    case kept =>
      have retry : v.store.retry = s.store.retry := State.expiring_retry_kept (s := u) kept
      rw [State.afterRemovals_of_kept retry]
      exact ⟨State.expiring_writes (s := u), retry⟩
    case dropped =>
      have retry : v.store.retry = none := State.expiring_retry_dropped (s := u) he lapsed due
      rw [due, State.afterRemovals_of_dropped retry]
      exact ⟨congrArg (sweptList _ _) (State.expiring_writes (s := u)), retry⟩
  · intro rests
    have rested : u.sweepExpired = u := State.sweepExpired_rests (s := u) rests
    rw [rested] at run
    exact ⟨_, run, ((OnlyChanges.onDue s _).mono (by simp)).settled (by simp), rfl⟩

end Sys2Proof.Machine
end

section
/-!
PROOFS. What becomes of the titles of the index (R69, R70, R75, R83 to R86, R89): an entry put, room made for one, and entries put one after another.
-/

namespace Sys2Proof.Machine

/-! ## Titles that back citations (R69, R81) -/

/-- Titles of different keys, with all that is cited among them. -/
structure Backs (titles cites : List Title) : Prop where
  keys : (titles.map Prod.fst).Nodup
  cited : cites ⊆ titles

section
variable {titles cites : List Title} (h : Backs titles cites)
include h

theorem Backs.mono {fewer : List Title} (sub : fewer ⊆ cites) : Backs titles fewer := ⟨h.keys, fun _ hc => h.cited (sub hc)⟩

/-- One key has one title. -/
theorem Backs.eq_of_key {t u : Title} (ht : t ∈ titles) (hu : u ∈ titles) (same : t.1 = u.1) : t = u :=
  List.inj_on_of_nodup_map h.keys ht hu same

theorem Backs.filter {kept : Key → Bool} (all : ∀ c ∈ cites, kept c.1 = true) : Backs (titles.filter fun t => kept t.1) cites where
  keys := h.keys.sublist (List.filter_sublist.map _)
  cited c hc := List.mem_filter.mpr ⟨h.cited hc, all c hc⟩
end

/-! ## A title recorded (R70, R75) -/

/-- The titles after that of an entry has been put: in the place of that of its key, or as the newest. -/
def recorded (titles : List Title) (t : Title) : List Title :=
  if t.1 ∈ titles.map Prod.fst then titles.map fun u => if u.1 = t.1 then t else u else titles ++ [t]

theorem recorded_length_le (titles : List Title) (t : Title) : (recorded titles t).length ≤ titles.length + 1 := by
  unfold recorded
  split <;> simp

theorem recorded_length_of_mem {titles : List Title} {t : Title} (h : t.1 ∈ titles.map Prod.fst) :
    (recorded titles t).length = titles.length := by simp [recorded, h]

/-- A title that stands, recorded again, changes nothing. -/
theorem recorded_of_mem {titles : List Title} {t : Title} (keys : (titles.map Prod.fst).Nodup) (h : t ∈ titles) :
    recorded titles t = titles := by
  rw [recorded, if_pos (List.mem_map_of_mem h)]
  refine (List.map_congr_left fun u hu => ?_).trans titles.map_id
  split
  · next same => exact List.inj_on_of_nodup_map keys h hu same.symm
  · rfl

/-- A title recorded backs what cites it, and what was cited of other keys. -/
theorem Backs.recorded {titles cites cites' : List Title} {t : Title} (h : Backs titles cites)
    (cited : ∀ c ∈ cites', c = t ∨ (c ∈ cites ∧ c.1 ≠ t.1)) : Backs (recorded titles t) cites' := by
  unfold Machine.recorded
  split
  · next present =>
    have keys : (titles.map fun u => if u.1 = t.1 then t else u).map Prod.fst = titles.map Prod.fst := by
      rw [List.map_map]
      refine List.map_congr_left fun u _ => ?_
      simp only [Function.comp]
      split
      · next same => exact same.symm
      · rfl
    refine ⟨keys ▸ h.keys, fun c hc => List.mem_map.mpr ?_⟩
    rcases cited c hc with rfl | ⟨mem, other⟩
    · obtain ⟨u, hu, same⟩ := List.mem_map.mp present
      exact ⟨u, hu, if_pos same⟩
    · exact ⟨c, h.cited mem, if_neg other⟩
  · next absent =>
    refine ⟨?_, fun c hc => List.mem_append.mpr ?_⟩
    · rw [List.map_append, List.map_singleton]
      exact List.nodup_append_comm.mp (List.nodup_cons.mpr ⟨absent, h.keys⟩)
    · exact (cited c hc).symm.imp (fun old => h.cited old.1) fun new => List.mem_singleton.mpr new

/-! ## Titles recorded one after another -/

/-- Titles that stand, recorded again, change nothing. -/
theorem foldl_recorded_of_subset {titles ts : List Title} (keys : (titles.map Prod.fst).Nodup) (h : ts ⊆ titles) :
    ts.foldl recorded titles = titles := by
  induction ts with
  | nil => rfl
  | cons t ts ih =>
    obtain ⟨ht, rest⟩ := List.cons_subset.mp h
    rw [List.foldl_cons, recorded_of_mem keys ht, ih rest]

theorem foldl_recorded_length_le (titles ts : List Title) : (ts.foldl recorded titles).length ≤ titles.length + ts.length := by
  induction ts generalizing titles with
  | nil => simp
  | cons t ts ih =>
    have first := recorded_length_le titles t
    have rest := ih (recorded titles t)
    rw [List.foldl_cons, List.length_cons]
    omega

/-- Titles of which those of one key agree, recorded one after another, are all backed. -/
theorem Backs.foldl_recorded {titles cites ts : List Title} (h : Backs titles cites)
    (agree : ∀ t ∈ ts, ∀ c ∈ cites ++ ts, c.1 = t.1 → c = t) : Backs (ts.foldl Machine.recorded titles) (cites ++ ts) := by
  induction ts generalizing titles cites with
  | nil => simpa using h
  | cons t ts ih =>
    have first : Backs (Machine.recorded titles t) (cites ++ [t]) := h.recorded fun c hc => by
      rcases List.mem_append.mp hc with old | new
      · by_cases same : c.1 = t.1
        · exact .inl (agree t (by simp) c (by simp [old]) same)
        · exact .inr ⟨old, same⟩
      · exact .inl (List.mem_singleton.mp new)
    have rest := ih first fun u hu c hc => agree u (by simp [hu]) c (by simpa using hc)
    simpa using rest

/-! ## The titles of the index -/

theorem Index.titles_length (x : Index) : x.titles.length = x.entries.length := by simp [Index.titles]

theorem Index.titles_keys (x : Index) : x.titles.map Prod.fst = x.entries.map fun e => e.fields.key := by
  simp [Index.titles, EntryFields.title]

theorem Index.title_mem {x : Index} {e : Entry} (h : e ∈ x.entries) : e.fields.title ∈ x.titles :=
  List.mem_map_of_mem (List.mem_map_of_mem h)

theorem Index.find_some {x : Index} {k : Key} {e : Entry} (h : x.find k = some e) : e ∈ x.entries ∧ e.fields.key = k :=
  ⟨List.mem_of_find?_eq_some h, beq_iff_eq.mp (List.find?_some h :)⟩

theorem Index.find_eq_none_iff {x : Index} {k : Key} : x.find k = none ↔ k ∉ x.titles.map Prod.fst := by
  simp [Index.find, Index.titles_keys]

theorem Index.titles_put (x : Index) (f : EntryFields) : (x.put f).titles = recorded x.titles f.title := by
  cases h : x.find f.key with
  | none =>
    have absent : f.title.1 ∉ x.titles.map Prod.fst := Index.find_eq_none_iff.mp h
    rw [Index.put_of_absent h, recorded, if_neg absent]
    simp [Index.titles]
  | some e =>
    obtain ⟨mem, key⟩ := Index.find_some h
    have present : f.title.1 ∈ x.titles.map Prod.fst := List.mem_map.mpr ⟨_, Index.title_mem mem, key⟩
    rw [Index.put_of_present h, recorded, if_pos present]
    simp only [Index.titles, List.map_map]
    exact List.map_congr_left fun y _ => apply_ite (fun e : Entry => e.fields.title) _ _ _

theorem State.putEntry_titles (f : EntryFields) (s : State) : (s.putEntry f).index.titles = recorded s.index.titles f.title := by
  rw [← Index.titles_put, Index.titles, State.putEntry_entries]
  rfl

/-- Entries put one after another, each of a title that is known beforehand. -/
theorem State.foldl_putEntry_titles {α : Type} {f : State → α → EntryFields} {title : α → Title} (h : ∀ s a, (f s a).title = title a)
    (l : List α) (s : State) :
    (l.foldl (fun s a => s.putEntry (f s a)) s).index.titles = (l.map title).foldl recorded s.index.titles := by
  induction l generalizing s with
  | nil => rfl
  | cons a l ih => rw [List.foldl_cons, ih, State.putEntry_titles, h, List.map_cons, List.foldl_cons]

theorem OnlyChanges.foldl_putEntry {α : Type} (f : State → α → EntryFields) (l : List α) (s : State) :
    OnlyChanges [.index, .store, .outputs] s (l.foldl (fun s a => s.putEntry (f s a)) s) := by
  induction l generalizing s with
  | nil => exact .refl _ s
  | cons a l ih => exact (OnlyChanges.putEntry _ s).trans (ih _)

theorem Index.titles_filter (x : Index) (kept : Key → Bool) :
    Index.titles { x with entries := x.entries.filter fun e => kept e.fields.key } = x.titles.filter fun t => kept t.1 := by
  simp only [Index.titles, List.map_map, List.filter_map]
  rfl

/-! ## Room made (R85, R86) -/

/-- All that becomes of the titles where room is made: where no entry is left out, the index has room, or a live record names every key. -/
theorem State.makeRoom_titles (s : State) :
    (s.makeRoom.index.titles = s.index.titles ∧ (s.index.entries.length < 160 ∨ ∀ e ∈ s.index.entries, s.named e.fields.key = true)) ∨
      ∃ e ∈ s.index.entries, s.named e.fields.key = false ∧
        s.makeRoom.index.titles = s.index.titles.filter fun t => t.1 != e.fields.key := by
  unfold State.makeRoom
  split
  · next room => exact .inl ⟨rfl, .inl room⟩
  · cases hv : s.evictionVictim with
    | none =>
      refine .inl ⟨rfl, .inr fun e he => ?_⟩
      have filtered := List.filter_eq_nil_iff.mp (least_eq_none.mp hv) e he
      simpa using filtered
    | some e =>
      obtain ⟨mem, unnamed⟩ := List.mem_filter.mp (least_mem hv)
      refine .inr ⟨e, mem, by simpa using unnamed, ?_⟩
      obtain ⟨writes, brought⟩ := State.afterRemovals_eq s.store.retry
        ((s.removeEntry e.fields.key).countHistory fun c => { c with indexEvictions := bump c.indexEvictions })
      dsimp only
      rw [brought]
      exact s.index.titles_filter (· != e.fields.key)

/-- What a listed record cites, it names. -/
theorem State.named_of_cited {s : State} {c : Title} (h : c ∈ s.records.cites) : s.named c.1 = true := by
  obtain ⟨r, hr, rfl⟩ := Records.mem_cites.mp h
  exact List.any_eq_true.mpr ⟨r, List.mem_append_left _ hr, beq_self_eq_true _⟩

section
variable {s : State} (h : Backs s.index.titles s.records.cites)
include h

/-- The entries left back what was backed, and none is new. -/
theorem Backs.makeRoom : Backs s.makeRoom.index.titles s.records.cites ∧ s.makeRoom.index.titles ⊆ s.index.titles := by
  rcases s.makeRoom_titles with ⟨same, _⟩ | ⟨e, _, unnamed, left⟩
  · exact ⟨same ▸ h, fun _ ht => same ▸ ht⟩
  · have kept (c : Title) (hc : c ∈ s.records.cites) : (c.1 != e.fields.key) = true := bne_iff_ne.mpr fun same => by
      have named := State.named_of_cited hc
      simp [same, unnamed] at named
    exact ⟨left ▸ h.filter (kept := (· != e.fields.key)) kept, fun t ht => (List.mem_filter.mp (left ▸ ht)).1⟩

/-- With at most 24 records listed, at most 25 keys are named: a full index has an entry to leave out (R70, R85). -/
theorem Backs.makeRoom_length (few : s.records.cites.length ≤ 24) (full : s.index.entries.length ≤ 160) :
    s.makeRoom.index.entries.length < 160 := by
  rw [← Index.titles_length]
  rcases s.makeRoom_titles with ⟨same, room | named⟩ | ⟨e, he, _, left⟩
  · rwa [same, Index.titles_length]
  · have keys : s.index.titles.map Prod.fst ⊆ s.records.live.map Record.key := by
      rw [Index.titles_keys]
      intro k hk
      obtain ⟨e, he, rfl⟩ := List.mem_map.mp hk
      obtain ⟨r, hr, same⟩ := List.any_eq_true.mp (named e he)
      exact List.mem_map.mpr ⟨r, hr, beq_iff_eq.mp same⟩
    have bound := (List.subperm_of_subset h.keys keys).length_le
    have latched : s.records.latched.toList.length ≤ 1 := by cases s.records.latched <;> simp
    simp only [List.length_map, Records.live, List.length_append, Records.cites] at bound few
    rw [same]
    omega
  · have fewer : (s.index.titles.filter fun t => t.1 != e.fields.key).length < s.index.titles.length :=
      List.length_filter_lt_length_iff_exists.mpr ⟨e.fields.title, Index.title_mem he, by simp [EntryFields.title]⟩
    rw [Index.titles_length] at fewer
    rw [left]
    omega
end

end Sys2Proof.Machine
end

section
/-!
PROOFS. What every step keeps of the index (R69, R70, R81, R85, R89, R138): one entry for each key, at most 160, and the NOTICE-SEEN entry of every
active or held record.
-/

namespace Sys2Proof.Machine

/-! ## The law -/

theorem State.indexLaw_iff {s : State} :
    s.indexLaw ↔ (s.scanning = true → s.records.cites = []) ∧ Backs s.index.titles s.records.cites := by
  have quiet : s.records.cites = [] ↔ s.records.active = [] ∧ s.records.held = [] := by simp [Records.cites]
  have backed (r : Record) : r.cite ∈ s.index.titles ↔
      ∃ e ∈ s.index.entries, e.fields.key = r.key ∧ e.fields.state = .noticeSeen ∧ e.fields.revision = r.revision := by
    simp [Index.titles, EntryFields.title, Record.cite, and_comm]
  rw [State.indexLaw, quiet, ← Index.titles_keys]
  simp only [← backed]
  constructor
  · rintro ⟨scan, keys, entries⟩
    refine ⟨scan, keys, fun c hc => ?_⟩
    obtain ⟨r, hr, rfl⟩ := Records.mem_cites.mp hc
    exact entries r hr
  · rintro ⟨scan, keys, cited⟩
    exact ⟨scan, keys, fun r hr => cited (Records.mem_cites.mpr ⟨r, hr, rfl⟩)⟩

/-- The lists of an ordered record unit hold at most 24 records (R106, R120). -/
theorem Records.Ordered.cites_length_le {u : Records} (hu : u.Ordered) : u.cites.length ≤ 24 := by
  have active : u.active.length ≤ 16 := hu.active.trans (by split <;> omega)
  have held := hu.held
  rw [Records.cites, List.length_map, List.length_append]
  omega

/-- An operation keeps the law of the index, and, while the lists hold at most 24 records, the bound of 160 entries. -/
structure State.KeepsIndex (s t : State) : Prop where
  law : s.indexLaw → t.indexLaw
  bound : s.indexLaw → s.records.cites.length ≤ 24 → s.index.entries.length ≤ 160 → t.index.entries.length ≤ 160

/-- Records that leave, move or change in place, with the titles of the entries as they were. -/
theorem State.Relists.keeps {s t : State} (h : s.Relists [] t) : s.KeepsIndex t where
  law l := by
    obtain ⟨scan, backs⟩ := State.indexLaw_iff.mp l
    refine State.indexLaw_iff.mpr ⟨fun scanning => ?_, h.titles ▸ backs.mono h.cites⟩
    exact List.subset_nil.mp (scan (h.scanning ▸ scanning) ▸ h.cites)
  bound _ _ full := by rwa [← Index.titles_length, h.titles, Index.titles_length]

theorem State.KeepsIndex.of_ledger {s t : State} (h : t.ledger = s.ledger) : s.KeepsIndex t := (State.Relists.of_ledger h).keeps

/-- An operation after one that leaves the lists and the titles. -/
theorem State.KeepsIndex.from_ledger {s t u : State} (h : t.KeepsIndex u) (same : t.ledger = s.ledger) : s.KeepsIndex u := by
  have before := State.KeepsIndex.of_ledger same
  have cites : t.records.cites.length = s.records.cites.length := by
    have lists : t.records.active ++ t.records.held = s.records.active ++ s.records.held := congrArg (fun x => x.2.1 ++ x.2.2.1) same
    rw [Records.cites, lists, Records.cites]
  exact ⟨h.law ∘ before.law, fun l few full => h.bound (before.law l) (cites ▸ few) (before.bound l few full)⟩

/-- An operation before one that leaves the lists and the titles. -/
theorem State.KeepsIndex.then_ledger {s t u : State} (h : s.KeepsIndex t) (same : u.ledger = t.ledger) : s.KeepsIndex u where
  law l := (State.KeepsIndex.of_ledger same).law (h.law l)
  bound l few full := by
    have titles : u.index.titles = t.index.titles := congrArg (fun x => x.2.2.2) same
    rw [← Index.titles_length, titles, Index.titles_length]
    exact h.bound l few full

/-- A part whose lists and index are empty. -/
theorem State.KeepsIndex.of_empty {s t : State} (records : t.records = .reset) (index : t.index = .reset) : s.KeepsIndex t where
  law _ := by
    refine State.indexLaw_iff.mpr ⟨fun _ => records ▸ rfl, ?_⟩
    rw [records, index]
    exact ⟨List.nodup_nil, List.Subset.refl _⟩
  bound _ _ _ := by
    rw [index]
    exact Nat.zero_le 160

/-- The entries change while the records stay. -/
theorem State.KeepsIndex.of_titles {s t : State} (scanning : t.scanning = s.scanning) (records : t.records = s.records)
    (backs : Backs s.index.titles s.records.cites → Backs t.index.titles s.records.cites)
    (bound : Backs s.index.titles s.records.cites → s.records.cites.length ≤ 24 → s.index.entries.length ≤ 160 →
      t.index.entries.length ≤ 160) : s.KeepsIndex t where
  law l := by
    obtain ⟨scan, backed⟩ := State.indexLaw_iff.mp l
    exact State.indexLaw_iff.mpr ⟨by rwa [scanning, records], records ▸ backs backed⟩
  bound l := bound (State.indexLaw_iff.mp l).2

/-- An event whose effect keeps the law. -/
theorem State.KeepsIndex.of_occur {s t : State} {ready : Bool} {effect : State → State} (h : s.occur ready effect = .next t)
    (hu : ready = true → s.KeepsIndex (effect s)) : s.KeepsIndex t := by
  rcases State.occur_cases h with ⟨_, hr, rfl⟩ | ⟨_, rfl⟩
  · exact ⟨(hu hr).law, (hu hr).bound⟩
  · exact ⟨id, fun _ _ => id⟩

theorem State.KeepsIndex.of_relists {s t : State} {ready : Bool} {effect : State → State} (h : s.occur ready effect = .next t)
    (hu : s.Relists [] (effect s)) : s.KeepsIndex t := .of_occur h fun _ => hu.keeps

theorem State.KeepsIndex.of_occur_ledger {s t : State} {ready : Bool} {effect : State → State} (h : s.occur ready effect = .next t)
    (hu : (effect s).ledger = s.ledger) : s.KeepsIndex t := .of_relists h (.of_ledger hu)

/-- A request, whatever its checks find (R195). -/
theorem State.KeepsIndex.of_request {s t : State} {ready : Bool} {r : Request} {own : List Byte → State → State}
    (h : s.occur ready (State.carryOut r own) = .next t) (ho : ∀ p (u : State), u.KeepsIndex (own p u)) : s.KeepsIndex t := by
  refine .of_occur h fun _ => ?_
  unfold State.carryOut
  dsimp only
  split
  · exact .of_ledger rfl
  · exact (ho _ _).from_ledger rfl

/-! ## The entry of a notice or a withdrawal (R75 to R80) -/

/-- An entry of this title has been put, with what that asked for: room made, or the records of its key ended. -/
structure State.Enters (title : Title) (s t : State) : Prop where
  scanning : t.scanning = s.scanning
  backs : Backs s.index.titles s.records.cites → Backs t.index.titles (title :: t.records.cites)
  bound : Backs s.index.titles s.records.cites → s.records.cites.length ≤ 24 → s.index.entries.length ≤ 160 → t.index.entries.length ≤ 160

theorem OnlyChanges.scanning {xs : List Piece} {s t : State} (h : OnlyChanges xs s t) (kept : Piece.supply ∉ xs) :
    t.scanning = s.scanning := (h .supply kept).2.1

section
variable {s : State} {f : EntryFields}

/-- An entry put while no listed record has its key. -/
theorem Backs.putEntry (h : Backs s.index.titles s.records.cites) (unlisted : ∀ c ∈ s.records.cites, c.1 ≠ f.key) :
    Backs (s.putEntry f).index.titles (f.title :: (s.putEntry f).records.cites) := by
  have records : (s.putEntry f).records = s.records := OnlyChanges.putEntry f s .records (by simp)
  rw [State.putEntry_titles, records]
  refine h.recorded fun c hc => ?_
  rcases List.mem_cons.mp hc with new | old
  · exact .inl new
  · exact .inr ⟨old, unlisted c old⟩

/-- An entry put in place of that of its key adds none. -/
theorem State.putEntry_length_of_present {e : Entry} (h : s.index.find f.key = some e) :
    (s.putEntry f).index.entries.length = s.index.entries.length := by
  obtain ⟨mem, key⟩ := Index.find_some h
  rw [← Index.titles_length, State.putEntry_titles, recorded_length_of_mem, Index.titles_length]
  exact List.mem_map.mpr ⟨_, Index.title_mem mem, key⟩

/-- A new entry, after room was made for it (R70, R85). -/
theorem State.Enters.new (absent : s.index.find f.key = none) : s.Enters f.title (s.makeRoom.putEntry f) := by
  have frame := OnlyChanges.makeRoom s
  have records : s.makeRoom.records = s.records := frame .records (by simp)
  refine ⟨?_, fun h => ?_, fun h few full => ?_⟩
  · exact ((OnlyChanges.putEntry f _).scanning (by simp)).trans (frame.scanning (by simp))
  · refine Backs.putEntry (records ▸ h.makeRoom.1) fun c hc same => Index.find_eq_none_iff.mp absent ?_
    exact List.mem_map.mpr ⟨c, h.cited (records ▸ hc), same⟩
  · have room := h.makeRoom_length few full
    have one := recorded_length_le s.makeRoom.index.titles f.title
    rw [← State.putEntry_titles, Index.titles_length, Index.titles_length] at one
    omega

/-- An entry changed, after every record of its key has ended (R82). -/
theorem State.Enters.ended {e : Entry} (present : s.index.find f.key = some e) {code : Code} (hc : code ≠ .acknowledged) :
    s.Enters f.title ((s.endKey code f.key).putEntry f) := by
  obtain ⟨scanning, titles, cites⟩ : s.Relists [] (s.endKey code f.key) := .endAll s code _
  obtain ⟨index, -, -⟩ := State.endKey_kept hc f.key (s := s)
  refine ⟨?_, fun h => ?_, fun h few full => ?_⟩
  · exact ((OnlyChanges.putEntry f _).scanning (by simp)).trans scanning
  · refine Backs.putEntry (s := s.endKey code f.key) (titles.symm ▸ h.mono cites) fun c hm => ?_
    obtain ⟨r, hr, rfl⟩ := Records.mem_cites.mp hm
    exact State.endKey_gone hc f.key r hr
  · rw [State.putEntry_length_of_present (e := e) (index ▸ present), index]
    exact full

/-- An entry changed in place of a withdrawn one: no listed record has its key (R81). -/
theorem State.Enters.raised {e : Entry} (present : s.index.find f.key = some e) (withdrawn : e.fields.state = .withdrawn) :
    s.Enters f.title (s.putEntry f) := by
  obtain ⟨mem, key⟩ := Index.find_some present
  refine ⟨(OnlyChanges.putEntry f s).scanning (by simp), fun h => ?_, fun h few full => ?_⟩
  · refine Backs.putEntry h fun c hc same => ?_
    have one : c = e.fields.title := h.eq_of_key (h.cited hc) (Index.title_mem mem) (same.trans key.symm)
    obtain ⟨r, -, rfl⟩ := Records.mem_cites.mp hc
    have seen : EntryState.noticeSeen = e.fields.state := congrArg (fun t : Title => t.2.2) one
    rw [withdrawn] at seen
    cases seen
  · rwa [State.putEntry_length_of_present present]
end

/-- The counting of what has been entered changes no entry. -/
theorem State.Enters.counted {title : Title} {s t : State} (h : s.Enters title t) (f : HistoryCounters → HistoryCounters) :
    s.Enters title (t.countHistory f) := ⟨h.scanning, h.backs, h.bound⟩

/-- What has been entered, and perhaps cited by a new record, keeps the law once the scan is over. -/
theorem State.Enters.keeps {title : Title} {s t u : State} (h : s.Enters title t) (h' : t.Relists [title] u) (idle : s.scanning = false) :
    s.KeepsIndex u where
  law l := by
    refine State.indexLaw_iff.mpr ⟨fun scanning => ?_, h'.titles ▸ (h.backs (State.indexLaw_iff.mp l).2).mono h'.cites⟩
    simp [h'.scanning, h.scanning, idle] at scanning
  bound l few full := by
    rw [← Index.titles_length, h'.titles, Index.titles_length]
    exact h.bound (State.indexLaw_iff.mp l).2 few full

section
variable {s : State} {k : Key} {r : BitVec 4}

/-- A notice that is no duplicate enters NOTICE-SEEN (R76 to R78). -/
theorem State.Enters.takeNotice (fresh : s.index.resolveNotice k r ≠ .duplicate) (horizon : Nat) :
    s.Enters (k, r, .noticeSeen) (s.takeNotice k r horizon) := by
  cases he : s.index.find k with
  | none =>
    rw [State.takeNotice_new he]
    exact (State.Enters.new (f := s.time.stamp k r .noticeSeen horizon) he).counted _
  | some e =>
    have newer : newerRevision r e.fields.revision = true := by
      cases hr : newerRevision r e.fields.revision
      · exact absurd (by simp [Index.resolveNotice, he, hr]) fresh
      · rfl
    rw [State.takeNotice_newer he newer]
    exact (State.Enters.ended (f := s.time.stamp k r .noticeSeen horizon) he (by decide)).counted _

/-- A withdrawal that changes its entry enters WITHDRAWN; any other is only counted (R79, R80). -/
theorem State.KeepsIndex.takeWithdrawal (idle : s.scanning = false) (horizon : Nat) : s.KeepsIndex (s.takeWithdrawal k r horizon) := by
  unfold State.takeWithdrawal
  cases he : s.index.find k with
  | none =>
    have orphan : s.index.resolveWithdrawal k r = .orphan := by rw [Index.resolveWithdrawal, he]
    rw [orphan]
    exact ((State.Enters.new (f := s.time.stamp k r .withdrawn horizon) he).counted _).keeps (.refl _) idle
  | some e =>
    cases hs : e.fields.state with
    | noticeSeen =>
      by_cases apply : newerRevision r e.fields.revision = true ∨ r = e.fields.revision
      · have resolved : s.index.resolveWithdrawal k r = .apply := by simp [Index.resolveWithdrawal, he, hs, apply]
        rw [resolved]
        exact ((State.Enters.ended (f := s.time.stamp k r .withdrawn horizon) he (by decide)).counted _).keeps (.refl _) idle
      · have resolved : s.index.resolveWithdrawal k r = .stale := by simp_all [Index.resolveWithdrawal]
        rw [resolved]
        exact .of_ledger rfl
    | withdrawn =>
      cases newer : newerRevision r e.fields.revision with
      | true =>
        have resolved : s.index.resolveWithdrawal k r = .raise := by simp [Index.resolveWithdrawal, he, hs, newer]
        rw [resolved]
        exact ((State.Enters.raised (f := s.time.stamp k r .withdrawn horizon) he hs).counted _).keeps (.refl _) idle
      | false =>
        have resolved : s.index.resolveWithdrawal k r = .duplicate := by simp [Index.resolveWithdrawal, he, hs, newer]
        rw [resolved]
        exact .of_ledger rfl
end

/-! ## The reassembly unit (R36, R42, R58, R67) -/

/-- A fragment changes the lists or the titles only as a withdrawal. -/
theorem State.takePayload_cases (p : List Byte) (s : State) :
    (s.takePayload p).ledger = s.ledger ∨
      ∃ count k r horizon, s.takePayload p = (s.countIntake count).takeWithdrawal k r horizon := by
  unfold State.takePayload
  split
  · exact .inl rfl
  · split
    · exact .inl (s.takeUnlisted_ledger p)
    · split
      · exact .inr ⟨_, _, _, _, rfl⟩
      · exact .inl (s.takeNoticeFragment_ledger _ _)

section
variable {s : State} (idle : s.scanning = false)
include idle

theorem State.KeepsIndex.settleCompletion (n : Nat) (c : Context) : s.KeepsIndex (s.settleCompletion n c) := by
  unfold State.settleCompletion
  split
  · exact .of_ledger rfl
  · next w _ =>
    split
    · exact .of_ledger rfl
    · next fresh =>
      have entered := State.Enters.takeNotice fresh w.horizon
      exact entered.keeps ((State.Relists.create _ c w).then_ledger (State.onIntake_ledger _ _)) idle

theorem State.KeepsIndex.finishCompletion : s.KeepsIndex s.finishCompletion := by
  unfold State.finishCompletion
  split
  · exact .of_ledger rfl
  · dsimp only
    split
    · exact (State.KeepsIndex.settleCompletion (s := s.onIntake _) idle _ _).from_ledger rfl
    · exact .of_ledger rfl

/-- A withdrawal brings no completion, so what a fragment settles finds the index as the fragment found it. -/
theorem State.KeepsIndex.takeOldest (hc : s.intake.completing = none) (interrupted : Bool) (p : List Byte) :
    s.KeepsIndex (s.takeOldest interrupted p) := by
  unfold State.takeOldest
  rcases s.popFragment.takePayload_cases p with same | ⟨count, k, r, horizon, withdrawn⟩
  · dsimp only
    split
    · exact .of_ledger same
    · have scanned : (s.popFragment.takePayload p).scanning = false := (congrArg Prod.fst same).trans idle
      exact (State.KeepsIndex.finishCompletion scanned).from_ledger same
  · let u := s.popFragment.countIntake count
    have taken : s.KeepsIndex (u.takeWithdrawal k r horizon) := (State.KeepsIndex.takeWithdrawal (s := u) idle _).from_ledger rfl
    have completing : (u.takeWithdrawal k r horizon).intake.completing = none :=
      (congrArg Intake.completing (OnlyChanges.takeWithdrawal u k r horizon .intake (by simp))).trans hc
    have done : (u.takeWithdrawal k r horizon).finishCompletion = u.takeWithdrawal k r horizon := by
      rw [State.finishCompletion, completing]
    dsimp only
    rw [withdrawn, done, ite_self]
    exact taken
end

/-! ## The index swept, restamped, refilled and rebuilt (R83, R84, R89, R189) -/

section
variable (s : State)

/-- The sweep removes no entry whose key a live record names. -/
theorem State.KeepsIndex.sweepExpired : s.KeepsIndex s.sweepExpired := by
  have frame := OnlyChanges.sweepExpired s
  by_cases h : s.time.timeSet = true ∧ s.scanning = false
  case neg =>
    rw [State.sweepExpired_rests (by simpa [imp_iff_or_not, or_comm] using h)]
    exact .of_ledger rfl
  have titles : s.sweepExpired.index.titles = s.index.titles.filter fun t => decide (t.1 ∉ s.expiredKeys) := by
    obtain ⟨writes, swept⟩ := State.afterRemovals_eq s.store.retry (s.expiring s.expiredKeys)
    rw [State.sweepExpired_eq h.1 h.2, swept]
    exact s.index.titles_filter fun k => decide (k ∉ s.expiredKeys)
  refine .of_titles (frame.scanning (by simp)) (frame .records (by simp)) (fun backs => ?_) fun _ _ full => ?_
  · have kept (c : Title) (hc : c ∈ s.records.cites) : decide (c.1 ∉ s.expiredKeys) = true := by
      refine decide_eq_true fun expired => ?_
      obtain ⟨e, -, lapsed, same⟩ := State.mem_expiredKeys.mp expired
      simp [State.lapsed, same, State.named_of_cited hc] at lapsed
    rw [titles]
    exact backs.filter (kept := fun k => decide (k ∉ s.expiredKeys)) kept
  · rw [← Index.titles_length, titles]
    rw [← Index.titles_length] at full
    exact (List.length_filter_le _ _).trans full

/-- An entry restamped keeps its title (R83). -/
theorem State.KeepsIndex.restamp : s.KeepsIndex s.restamp := by
  have frame : OnlyChanges [.index, .store, .outputs] s s.restamp := .foldl_putEntry _ _ s
  have titles (keys : (s.index.titles.map Prod.fst).Nodup) : s.restamp.index.titles = s.index.titles := by
    refine (State.foldl_putEntry_titles (title := fun e => e.fields.title) (fun _ _ => rfl) _ s).trans ?_
    refine foldl_recorded_of_subset keys fun t ht => ?_
    obtain ⟨e, he, rfl⟩ := List.mem_map.mp ht
    exact Index.title_mem (List.mem_filter.mp he).1
  refine .of_titles (frame.scanning (by simp)) (frame .records (by simp)) (fun backs => ?_) fun backs _ full => ?_
  · exact (titles backs.keys).symm ▸ backs
  · rwa [← Index.titles_length, titles backs.keys, Index.titles_length]

theorem State.KeepsIndex.setTime (p : List Byte) : s.KeepsIndex (s.setTime p) := by
  let set := s.onTime fun t => { t with wall := wordAt p 2, timeSet := true }
  have restamped : s.KeepsIndex set.restamp := (State.KeepsIndex.restamp set).from_ledger rfl
  exact restamped.then_ledger (State.answer_ledger _ _ _ _)

theorem OnlyChanges.refillIndex : OnlyChanges [.index, .store, .outputs] s s.refillIndex :=
  ((OnlyChanges.onIndex s _).andThen (.onStore _ _) (by simp) (by simp)).trans (.foldl_putEntry _ _ _)

/-- The index refilled holds the titles the lists cite (R89). -/
theorem State.KeepsIndex.refillIndex : s.KeepsIndex s.refillIndex := by
  let emptied := (s.onIndex fun x => { x with entries := [] }).onStore (Store.forget fun _ => true)
  have frame := OnlyChanges.refillIndex s
  have titles : s.refillIndex.index.titles = s.records.cites.foldl recorded [] :=
    State.foldl_putEntry_titles (title := Record.cite) (fun _ _ => rfl) _ emptied
  refine .of_titles (frame.scanning (by simp)) (frame .records (by simp)) (fun backs => ?_) fun _ few _ => ?_
  · have none : Backs [] [] := ⟨List.nodup_nil, List.Subset.refl _⟩
    exact titles ▸ none.foldl_recorded fun t ht c hc same => backs.eq_of_key (backs.cited hc) (backs.cited ht) same
  · have length := foldl_recorded_length_le [] s.records.cites
    rw [← Index.titles_length, titles]
    exact length.trans (by simp only [List.length_nil]; omega)

theorem State.KeepsIndex.clearHistory (p : List Byte) : s.KeepsIndex (s.clearHistory p) := by
  unfold State.clearHistory
  split
  · exact .of_ledger rfl
  · have refilled : s.KeepsIndex s.reserve.refillIndex := (State.KeepsIndex.refillIndex s.reserve).from_ledger rfl
    exact refilled.then_ledger (State.beginClear_ledger _ _)

/-- At the end of the scan no record is listed, and the latest slot of each key is found (R138, R189). -/
theorem State.KeepsIndex.endScan (scanning : s.scanning = true) : s.KeepsIndex s.endScan := by
  have records : s.endScan.records = s.records := OnlyChanges.endScan s .records (by simp)
  have titles : s.endScan.index.titles = s.scanRead.index.titles := by
    rw [State.endScan_eq]
    exact congrArg (List.map EntryFields.title) (State.examineReclaim_keeps s.scanRead_nodup).1
  constructor
  · intro l
    have empty := (State.indexLaw_iff.mp l).1 scanning
    refine State.indexLaw_iff.mpr ⟨fun _ => records ▸ empty, ?_, ?_⟩
    · rw [titles, Index.titles_keys]
      exact s.scanRead_nodup
    · rw [records, empty]
      exact List.nil_subset _
  · intro _ _ _
    rw [← Index.titles_length, titles, Index.titles_length, State.scanRead_entries, List.length_drop, Config.indexCapacity]
    omega
end

/-! ## Resets and the loss of power (R91, R138) -/

section
variable (s : State)

theorem State.KeepsIndex.endReset (u : State) (soft : Bool) (rate : BitVec 2) (worn : Nat) : s.KeepsIndex (u.endReset soft rate worn) := by
  obtain ⟨a, x, left, -⟩ := u.endReset_cases soft rate worn
  rw [left]
  exact .of_empty rfl rfl

theorem State.KeepsIndex.losePower : s.KeepsIndex s.losePower := .of_empty rfl rfl

end

/-! ## Every step -/

theorem exec_keepsIndex {s t : State} (c : Instr) (h : exec c s = .next t) : s.KeepsIndex t := by
  cases c with
  | powerOnReset rate worn =>
    cases h
    exact (State.KeepsIndex.endReset s _ _ _ _).then_ledger rfl
  | pinReset rate worn => exact .of_occur h fun _ => .endReset s _ _ _ _
  | scanEnd => exact .of_occur h fun scanning => .endScan s scanning
  | epoch => exact .of_relists h (.advanceEpoch s)
  | contextTimeout =>
    rw [exec, execContextTimeout] at h
    exact .of_occur_ledger h (State.sweepContexts_ledger _)
  | expirySweep =>
    rw [exec, execExpirySweep] at h
    exact .of_occur h fun _ => (State.KeepsIndex.sweepExpired _).from_ledger rfl
  | positionStale =>
    rw [exec, execPositionStale] at h
    exact .of_occur_ledger h (State.checkPosition_ledger _)
  | heldLifetimeEnd =>
    rw [exec, execHeldLifetimeEnd] at h
    exact .of_relists h ((State.Relists.examineHeld _).from_ledger rfl)
  | recordExpiry =>
    rw [exec, execRecordExpiry] at h
    exact .of_relists h ((State.Relists.endAll _ _ _).from_ledger rfl)
  | flushCountdown => exact .of_occur_ledger h rfl
  | reminderStep => exact .of_relists h (.takeStep s)
  | headerEnd port byte => exact .of_occur_ledger h rfl
  | frameEnd port byte => exact .of_occur_ledger h rfl
  | gapError port => exact .of_occur_ledger h rfl
  | mSorter =>
    rw [exec, execMSorter] at h
    split at h
    · exact .of_occur_ledger h (s.sortM_ledger _)
    · exact .of_occur_ledger h rfl
  | pSorter =>
    rw [exec, execPSorter] at h
    split at h
    · exact .of_occur_ledger h (s.sortP_ledger _)
    · exact .of_occur_ledger h rfl
  | holdInput port level =>
    cases h
    exact .of_ledger rfl
  | pPortArbiter => exact .of_relists h (.arbitrateP s)
  | mPortArbiter => exact .of_occur_ledger h s.arbitrateM_ledger
  | frameSent port => exact .of_occur_ledger h (s.frameSent_ledger port)
  | takeFragment interrupted =>
    rw [exec, execTakeFragment] at h
    split at h
    · exact .of_occur h fun ready => .finishCompletion (by simpa using ready)
    · next waits _ => exact .of_occur h fun ready => .takeOldest (by simpa using ready) waits interrupted _
    · exact .of_occur_ledger h rfl
  | getStatus => exact .of_request h fun p u => .of_ledger rfl
  | getCounters => exact .of_request h fun p u => .of_ledger (u.getCounters_ledger p)
  | setTime => exact .of_request h fun p u => .setTime u p
  | setPosition => exact .of_request h fun p u => (State.Relists.setPosition u p).keeps
  | loadWindow => exact .of_request h fun p u => .of_ledger (u.loadWindow_ledger p)
  | muteWindow => exact .of_request h fun p u => .of_ledger (u.muteWindow_ledger p)
  | readWindow => exact .of_request h fun p u => .of_ledger (u.readWindow_ledger p)
  | provision => exact .of_request h fun p u => .of_ledger (u.provision_ledger p)
  | lockProvision => exact .of_request h fun p u => .of_ledger (u.lockProvision_ledger p)
  | acknowledge => exact .of_request h fun p u => (State.Relists.acknowledge u p).keeps
  | fetchRecord => exact .of_request h fun p u => (State.Relists.fetchRecord u p).keeps
  | flushAlerts => exact .of_request h fun p u => ((State.Relists.endAll u _ _).then_ledger (State.answer_ledger _ _ _ _)).keeps
  | configure => exact .of_request h fun p u => .of_ledger (u.configure_ledger p)
  | clearHistory => exact .of_request h fun p u => .clearHistory u p
  | reset rate verify worn => exact .of_request h fun p u => .endReset u _ _ _ _
  | unknownRequest => exact .of_occur_ledger h rfl
  | historyWrite => exact .of_occur_ledger h s.startWrite_ledger
  | slotProgramEnd verify =>
    rw [exec, execSlotProgramEnd] at h
    split at h
    · exact .of_occur_ledger h (s.slotProgramEnd_ledger _ _)
    · exact .of_occur_ledger h rfl
  | headerAmend => exact .of_occur_ledger h s.startAmend_ledger
  | headerAmendEnd passed =>
    rw [exec, execHeaderAmendEnd] at h
    split at h
    · exact .of_occur_ledger h (s.amendEnd_ledger _ _)
    · exact .of_occur_ledger h rfl
  | eraseStart => exact .of_occur_ledger h s.startErase_ledger
  | eraseSuspend ran => exact .of_occur_ledger h rfl
  | eraseResume => exact .of_occur_ledger h rfl
  | minimumRunEnd => exact .of_occur_ledger h rfl
  | eraseEnd passed =>
    rw [exec, execEraseEnd] at h
    split at h
    · exact .of_occur_ledger h (s.endErase_ledger _ _)
    · exact .of_occur_ledger h rfl
  | provisioningProgram => exact .of_occur_ledger h rfl
  | provisioningProgramEnd passed =>
    rw [exec, execProvisioningProgramEnd] at h
    split at h
    · exact .of_occur_ledger h (s.provisioningEnd_ledger _ _)
    · exact .of_occur_ledger h rfl
  | byteReceived port byte => exact .of_occur_ledger h rfl
  | powerLoss =>
    rw [exec, execPowerLoss] at h
    cases h
    split
    · exact .losePower s
    · exact .of_ledger rfl

/-- Settles O58, event by event (`exec_keepsIndex`). -/
theorem recordsKeepTheirEntries : Obligations.RecordsKeepTheirEntries := by
  intro s t law h
  have keeps : s.KeepsIndex t := by
    cases hq : s.pending with
    | nil =>
      simp only [step, hq] at h
      cases h
      exact .of_ledger rfl
    | cons c rest =>
      simp only [step, hq] at h
      exact (exec_keepsIndex c h).from_ledger rfl
  exact ⟨keeps.law law, fun ordered full => keeps.bound law ordered.cites_length_le full⟩

end Sys2Proof.Machine
end

section
/-!
PROOFS. CLEAR HISTORY executed (R89, R176, R187, R200): the index refilled with the standing records, and the clear begun.
-/

namespace Sys2Proof.Machine

/-! ## New entries put one after another (R70, R75, R176) -/

/-- A slot program of one of these keys, if one is running, has its entry changed under it (R87, R177). -/
def Running.touchAll (ks : List Key) (r : Running) : Running :=
  match r with
  | .slotProgram w => .slotProgram { w with touched := w.touched || ks.contains w.fields.key }
  | _ => r

theorem Running.touchAll_nil (r : Running) : r.touchAll [] = r := by cases r <;> simp [Running.touchAll]

theorem Running.touchAll_touch (k : Key) (ks : List Key) (r : Running) : (r.touch k).touchAll ks = r.touchAll (k :: ks) := by
  cases r <;> simp [Running.touch, Running.touchAll, Bool.or_assoc, beq_eq_decide]

/-- The state with new entries put, before their keys are offered. -/
def State.putNew (fs : List EntryFields) (s : State) : State :=
  { s with
    index := { s.index with entries := s.index.entries ++ fs.map fun f => { fields := f, persisted := false, location := none } }
    store := { s.store with running := s.store.running.map (Running.touchAll (fs.map EntryFields.key)) } }

theorem State.putNew_nil (s : State) : s.putNew [] = s := by
  have untouched : s.store.running.map (Running.touchAll []) = s.store.running :=
    (congrArg (Option.map · _) (funext Running.touchAll_nil)).trans Option.map_id'
  simp [State.putNew, untouched]

theorem State.putNew_cons {s : State} {f : EntryFields} (absent : s.index.find f.key = none) (fs : List EntryFields) :
    (s.afterPut f).putNew fs = s.putNew (f :: fs) := by
  simp [State.afterPut, State.putNew, State.onIndex, State.onStore, Store.touch, Index.put_of_absent absent, Option.map_map,
    Function.comp_def, Running.touchAll_touch]

/-- An offer and the putting of new entries leave each other be. -/
theorem State.offer_putNew (k : Key) (fs : List EntryFields) (s : State) : (s.offer k).putNew fs = (s.putNew fs).offer k := by
  unfold State.offer
  simp only [apply_ite (State.putNew fs)]
  rfl

/-- Entries of different new keys, put one after another, stand as if put at once and their keys offered then. -/
theorem State.foldl_putEntry_new {fs : List EntryFields} (distinct : (fs.map EntryFields.key).Nodup) (s : State)
    (absent : ∀ f ∈ fs, s.index.find f.key = none) :
    fs.foldl (fun s f => s.putEntry f) s = (s.putNew fs).offerAll (fs.map EntryFields.key) := by
  induction fs generalizing s with
  | nil => rw [State.putNew_nil]; rfl
  | cons f fs ih =>
    obtain ⟨new, distinct⟩ := List.nodup_cons.mp distinct
    have later (g : EntryFields) (hg : g ∈ fs) : (s.putEntry f).index.find g.key = none := by
      have other : f.key ≠ g.key := fun same => new (same ▸ List.mem_map_of_mem hg)
      have old := List.find?_eq_none.mp (absent g (List.mem_cons_of_mem f hg))
      rw [Index.find, State.putEntry_entries, Index.put_of_absent (absent f List.mem_cons_self), List.find?_append, List.find?_eq_none.mpr old]
      simp [other]
    rw [List.foldl_cons, ih distinct _ later]
    change State.offerAll _ (((s.afterPut f).offer f.key).putNew fs) = _
    rw [State.offer_putNew, State.putNew_cons (absent f List.mem_cons_self)]
    rfl

/-- Entries put with the time of the moment, which does not change meanwhile. -/
theorem State.foldl_putEntry_stamped {α : Type} (g : Timebase → α → EntryFields) (l : List α) (s : State) :
    l.foldl (fun s a => s.putEntry (g s.time a)) s = (l.map (g s.time)).foldl (fun s f => s.putEntry f) s := by
  induction l generalizing s with
  | nil => rfl
  | cons a l ih =>
    have time : (s.putEntry (g s.time a)).time = s.time := OnlyChanges.putEntry _ s .time (by simp)
    rw [List.foldl_cons, ih, time, List.map_cons, List.foldl_cons]

/-! ## The index refilled (R89) -/

/-- The keys of the records on the active list and on the held list. -/
def State.standingKeys (s : State) : List Key := (s.records.active ++ s.records.held).map Record.key

/-- The fields of the entry that a standing record gets at a time, with the horizon of the entry that stood for its key (R89). -/
def Index.refilled (old : Index) (t : Timebase) (r : Record) : EntryFields :=
  t.stamp r.key r.revision .noticeSeen (((old.find r.key).map fun e => e.fields.horizon).getD 1)

/-- The state with the index emptied and refilled, before the keys are offered. -/
def State.refilling (s : State) : State :=
  ((s.onIndex fun x => { x with entries := [] }).onStore (Store.forget fun _ => true)).putNew
    ((s.records.active ++ s.records.held).map (s.index.refilled s.time))

section
variable (s : State)

theorem State.refilled_keys : ((s.records.active ++ s.records.held).map (s.index.refilled s.time)).map EntryFields.key = s.standingKeys := by
  rw [List.map_map]
  rfl

theorem State.refilling_entries :
    s.refilling.index.entries =
      (s.records.active ++ s.records.held).map fun r => { fields := s.index.refilled s.time r, persisted := false, location := none } :=
  List.map_map

theorem State.refilling_writes : s.refilling.store.writes = [] := List.filter_false _

theorem State.refilling_running :
    s.refilling.store.running = s.store.running.map fun x => (x.forget fun _ => true).touchAll s.standingKeys := by
  rw [← s.refilled_keys]
  exact Option.map_map _ _ _
end

/-- The refill with standing records of different keys. -/
theorem State.refillIndex_eq {s : State} (distinct : s.standingKeys.Nodup) :
    s.refillIndex = s.refilling.afterOffers (s.refilling.store.newKeys s.standingKeys) := by
  let emptied := (s.onIndex fun x => { x with entries := [] }).onStore (Store.forget fun _ => true)
  have stamped : s.refillIndex =
      ((s.records.active ++ s.records.held).map (s.index.refilled s.time)).foldl (fun s f => s.putEntry f) emptied :=
    State.foldl_putEntry_stamped s.index.refilled _ emptied
  rw [stamped, State.foldl_putEntry_new (s.refilled_keys ▸ distinct) emptied fun _ _ => rfl, s.refilled_keys, State.offerAll_eq distinct]
  rfl

/-! ## What a refill leaves of the history store -/

/-- Only the index, the pending write list, the retry that is due and what is noted of a running slot program have changed. -/
structure State.Refills (s t : State) : Prop where
  rest : t = { s with index := t.index, store := { s.store with running := t.store.running, writes := t.store.writes, retry := t.store.retry } }
  outstanding : t.store.outstanding = s.store.outstanding

theorem State.Refills.trans {s t u : State} (h : s.Refills t) (h' : t.Refills u) : s.Refills u where
  rest := by rw [h'.rest, h.rest]
  outstanding := h'.outstanding.trans h.outstanding

/-- What is noted of a running slot program makes no header amend of it. -/
theorem Store.outstanding_noted {x y : Store} {note : Running → Running} (amends : y.amends = x.amends)
    (running : y.running = x.running.map note) (noted : ∀ r, note (.headerAmend r) = .headerAmend r)
    (program : ∀ w, ∃ v, note (.slotProgram w) = .slotProgram v) (provisioning : note .provisioning = .provisioning) :
    y.outstanding = x.outstanding := by
  unfold Store.outstanding
  rw [amends, running]
  rcases x.running with _ | (w | r | _)
  · rfl
  · obtain ⟨v, h⟩ := program w
    simp [h]
  · simp [noted]
  · simp [provisioning]

theorem State.Refills.putEntry (f : EntryFields) (s : State) : s.Refills (s.putEntry f) := by
  rw [State.putEntry_eq]
  exact ⟨rfl, Store.outstanding_noted (note := Running.touch f.key) rfl rfl (fun _ => rfl) (fun _ => ⟨_, rfl⟩) rfl⟩

theorem State.Refills.refillIndex (s : State) : s.Refills s.refillIndex := by
  have emptied : s.Refills ((s.onIndex fun x => { x with entries := [] }).onStore (Store.forget fun _ => true)) :=
    ⟨rfl, Store.outstanding_noted (note := Running.forget fun _ => true) rfl rfl (fun _ => rfl) (fun _ => ⟨_, rfl⟩) rfl⟩
  have filled (rs : List Record) (u : State) (f : State → Record → EntryFields) :
      s.Refills u → s.Refills (rs.foldl (fun u r => u.putEntry (f u r)) u) := by
    induction rs generalizing u with
    | nil => exact id
    | cons r rs ih => exact fun h => ih _ (h.trans (.putEntry _ u))
  exact filled _ _ _ emptied

/-! ## The clear begun (R187) -/

/-- The state with the retirements and the erases of a clear queued, before its course is examined (R187). -/
def State.clearing (tag : Byte) (s : State) : State :=
  s.onStore fun x =>
    { x with
      amends := (x.amends.filter fun r => !r.amend.isOpening) ++ s.sectorsToRetire.map fun k => ⟨k, .retiring, false⟩
      erases := x.erases ++ s.sectorsToErase
      clear := some { tag := tag, opening := false } }

theorem State.beginClear_eq (tag : Byte) (s : State) : s.beginClear tag = (s.clearing tag).settleClear := rfl

section
variable {s : State} {k : Nat} (usable : k ∈ s.usableSectors) (tag : Byte)
include usable

/-- Every usable sector is queued or in flight for erase. -/
theorem State.clearing_erases : k ∈ (s.clearing tag).store.erases ∨ ∃ e, s.store.erase = some e ∧ e.sector = k := by
  by_cases flight : ∃ e, s.store.erase = some e ∧ e.sector = k
  · exact .inr flight
  · have idle : (s.store.erase.any fun e => e.sector == k) = false := by
      cases h : s.store.erase <;> simp_all
    refine .inl (List.mem_append.mpr ?_)
    by_cases queued : k ∈ s.store.erases
    · exact .inl queued
    · exact .inr (List.mem_filter.mpr ⟨usable, by simp [queued, idle]⟩)

/-- Every usable OPEN or FULL sector has its RETIRING amend outstanding. -/
theorem State.clearing_retires (used : (s.sector k).state = .opened ∨ (s.sector k).state = .full) :
    (s.clearing tag).store.hasAmend k .retiring = true := by
  have outstanding (r : AmendRequest) (h : r ∈ (s.clearing tag).store.outstanding) (sector : r.sector = k) (amend : r.amend = .retiring) :
      (s.clearing tag).store.hasAmend k .retiring = true := List.any_eq_true.mpr ⟨r, h, by simp [sector, amend]⟩
  by_cases asked : s.store.hasAmend k .retiring = true
  · obtain ⟨r, hr, same⟩ := List.any_eq_true.mp asked
    obtain ⟨sector, amend⟩ : r.sector = k ∧ r.amend = .retiring := by simpa using same
    refine outstanding r (List.mem_append.mpr ((List.mem_append.mp hr).imp_right fun waits => ?_)) sector amend
    exact List.mem_append_left _ (List.mem_filter.mpr ⟨waits, by simp [amend, Amend.isOpening]⟩)
  · refine outstanding ⟨k, .retiring, false⟩ (List.mem_append_right _ (List.mem_append_right _ (List.mem_map.mpr ⟨k, ?_, rfl⟩))) rfl rfl
    exact List.mem_filter.mpr ⟨usable, by simp [used, asked]⟩
end

/-- With no sector usable nothing is queued: what was outstanding and queued stays so, but for the openings that waited. -/
theorem State.clearing_unusable {s : State} (none : s.usableSectors = []) (tag : Byte) :
    (s.clearing tag).store.erases = s.store.erases ∧ (s.clearing tag).store.outstanding ⊆ s.store.outstanding := by
  have toErase : s.sectorsToErase = [] := by rw [State.sectorsToErase, none]; rfl
  have toRetire : s.sectorsToRetire = [] := by rw [State.sectorsToRetire, none]; rfl
  refine ⟨by simp [State.clearing, toErase], fun x hx => ?_⟩
  simp only [State.clearing, State.onStore_store, toRetire, List.map_nil, List.append_nil, Store.outstanding] at hx ⊢
  exact List.mem_append.mpr ((List.mem_append.mp hx).imp_right fun waits => (List.mem_filter.mp waits).1)

section
variable {s : State} {c : Clear} (hc : s.store.clear = some c)
include hc

/-- A clear goes on as it stands while an erase is queued or in flight. -/
theorem State.settleClear_goes_on (left : s.store.erases ≠ [] ∨ s.store.erase ≠ none) : s.settleClear = s := by
  have waits : ((s.store.outstanding.any fun r => r.amend == .retiring) || !s.store.erases.isEmpty || s.store.erase.isSome) = true := by
    rcases left with h | h <;> simp [h, Option.isSome_iff_ne_none]
  unfold State.settleClear
  rw [hc]
  exact if_pos waits

/-- A clear with no retirement and no erase left ends in RAM-ONLY where fewer than two sectors are usable. -/
theorem State.settleClear_ends (retired : ∀ x ∈ s.store.outstanding, x.amend ≠ .retiring) (erases : s.store.erases = [])
    (erase : s.store.erase = none) (few : s.usableSectors.length < 2) : s.settleClear = s.checkRamOnly.finishClear c.tag := by
  have done : ¬ ((s.store.outstanding.any fun r => r.amend == .retiring) || !s.store.erases.isEmpty || s.store.erase.isSome) = true := by
    simpa [erases, erase] using retired
  unfold State.settleClear
  rw [hc]
  exact (if_neg done).trans (if_pos few)
end

/-! ## The request (R200) -/

/-- The state in which a CLEAR HISTORY refills the index: its request has left the queue, a place is reserved for its reply. -/
def State.clearTaken (s : State) : State := s.popRequest.reserve

section
variable {s : State} {tag : Byte} {rest : List (List Byte)} (h : s.asked [0x31, tag] rest) (hs : s.scanning = false)
include h hs

theorem exec_clearHistory : exec .clearHistory s = .next (s.popRequest.clearHistory [0x31, tag]).settle :=
  State.occur_request _ h rfl (by rw [hs]; rfl)

/-- A clear that begins. -/
theorem exec_clearHistory_begins (hj : s.store.job = none) (hc : s.store.clear = none) :
    exec .clearHistory s = .next (s.clearTaken.refillIndex.clearing tag).settleClear.settle := by
  have unoccupied : ¬ s.popRequest.store.occupied = true := Store.not_occupied hj hc
  rw [exec_clearHistory h hs, State.clearHistory, if_neg unoccupied]
  rfl
end

section
variable (s : State) (tag : Byte)

theorem State.clearTaken_refills : s.clearTaken.Refills s.clearTaken.refillIndex := .refillIndex _

theorem State.clearTaken_usableSectors : s.clearTaken.refillIndex.usableSectors = s.usableSectors := by
  have rest := s.clearTaken_refills.rest
  exact State.usableSectors_congr (s := s) (congrArg State.array rest :) (congrArg (fun t : State => t.store.takenWorn) rest :)

theorem State.clearTaken_sector (k : Nat) : s.clearTaken.refillIndex.sector k = s.sector k :=
  congrArg (NvArray.sector · k) (congrArg State.array s.clearTaken_refills.rest :)

theorem State.clearTaken_management {rest : List (List Byte)} {p : List Byte} (h : s.management.requests = p :: rest) :
    s.clearTaken.refillIndex.management = { s.management with requests := rest, reserved := true } := by
  have left : s.management.requests.drop 1 = rest := by rw [h]; rfl
  rw [s.clearTaken_refills.rest, ← left]
  rfl

theorem OnlyChanges.clearing : OnlyChanges [.index, .store, .management, .outputs] s (s.clearTaken.refillIndex.clearing tag) := by
  have taken : OnlyChanges [.management] s s.clearTaken := (OnlyChanges.onManagement s _).trans (.onManagement _ _)
  exact (taken.andThen (OnlyChanges.refillIndex _) (by simp) (by simp)).trans ((OnlyChanges.onStore _ _).mono (by simp))
end

theorem expiryOf_toNat (time : Word) (horizon : Nat) :
    (expiryOf time horizon).toNat = min (time.toNat + horizon * 3600) 4294967295 := by
  rw [expiryOf, BitVec.toNat_ofNat]
  omega

/-- The index that a clear begins with, and what it offers (R89, R176). -/
theorem EntriesPut.of_clearing {s : State} (distinct : s.standingKeys.Nodup) (tag : Byte) :
    (s.clearTaken.refillIndex.clearing tag).settle.index.entries =
        (s.records.active ++ s.records.held).map (fun r =>
          { fields := s.index.refilled s.time r, persisted := false, location := none }) ∧
      EntriesPut s (s.clearTaken.refillIndex.clearing tag).settle (fun _ => true) [] s.standingKeys := by
  have filled : s.clearTaken.refillIndex =
      s.clearTaken.refilling.afterOffers (s.clearTaken.refilling.store.newKeys s.standingKeys) := State.refillIndex_eq (s := s.clearTaken) distinct
  refine ⟨(congrArg (fun t : State => t.index.entries) filled).trans s.clearTaken.refilling_entries, ?_, ?_⟩
  · rw [← s.clearTaken.refilling_writes]
    exact KeysOffered.of_offers rfl rfl (congrArg (fun t : State => t.store.writes) filled :)
      (congrArg (fun t : State => t.index.counters.writeDeferrals) filled :)
  · have running : (s.clearTaken.refillIndex.clearing tag).settle.store.running = s.clearTaken.refilling.store.running :=
      (congrArg (fun t : State => t.store.running) filled :)
    rw [running, s.clearTaken.refilling_running]
    refine Option.map_congr fun x _ => ?_
    cases x <;> rfl

/-- Settles O43: the ground of BUSY, then the clear that ends at once, and the clear that has sectors to erase. -/
theorem clearHistoryBegins : Obligations.ClearHistoryBegins := by
  intro s tag rest h hs
  obtain ⟨-, request, -⟩ := id h
  refine ⟨fun busy => ?busy, fun hj hc none erases erase retired => ?ends, fun hj hc some distinct => ?begins⟩
  case busy =>
    have occupied : s.popRequest.store.occupied = true := Store.occupied_iff.mpr busy
    have answered : s.popRequest.clearHistory [0x31, tag] = s.popRequest.answer [0x31, tag] .busy [] := if_pos occupied
    have run := exec_clearHistory h hs
    rw [answered] at run
    exact ⟨_, run, ((OnlyChanges.answered s _ _ _).mono (by simp)).settled (by simp), State.answersAtOnce h _ _⟩
  case ends =>
    let v := s.clearTaken.refillIndex
    obtain ⟨store, outstanding⟩ := s.clearTaken_refills
    have unusable : v.usableSectors = [] := s.clearTaken_usableSectors.trans none
    obtain ⟨queued, waiting⟩ := State.clearing_unusable unusable tag
    have fewUsable : (v.clearing tag).usableSectors.length < 2 := by
      rw [show (v.clearing tag).usableSectors = [] from unusable]
      exact Nat.zero_lt_two
    have ended : (v.clearing tag).settleClear = (v.clearing tag).checkRamOnly.finishClear tag :=
      State.settleClear_ends rfl (fun x hx => retired x (outstanding ▸ waiting hx))
        (queued.trans ((congrArg (fun t : State => t.store.erases) store :).trans erases))
        ((congrArg (fun t : State => t.store.erase) store :).trans erase) fewUsable
    have run := exec_clearHistory_begins h hs hj hc
    rw [ended, State.checkRamOnly, if_pos fewUsable] at run
    refine ⟨_, run, ?frame, ?management, rfl, rfl, rfl⟩
    case frame =>
      have finished (u : State) : OnlyChanges [.index, .store, .management, .outputs] u (u.finishClear tag) :=
        (OnlyChanges.onStore _ _).andThen (.onManagement _ _) (by simp) (by simp)
      exact (((OnlyChanges.clearing s tag).trans ((OnlyChanges.onStore _ _).mono (by simp))).trans (finished _)).settled (by simp)
    case management =>
      exact congrArg (fun g : Management => { g with replies := g.replies ++ [[0x31, tag, 0]], reserved := false })
        (s.clearTaken_management request)
  case begins =>
    let v := s.clearTaken.refillIndex
    have usable {k : Nat} (hk : k ∈ s.usableSectors) : k ∈ v.usableSectors := s.clearTaken_usableSectors.symm ▸ hk
    have erase : (v.clearing tag).store.erase = s.store.erase := (congrArg (fun t : State => t.store.erase) s.clearTaken_refills.rest :)
    have left : (v.clearing tag).store.erases ≠ [] ∨ (v.clearing tag).store.erase ≠ none := by
      obtain ⟨k, hk⟩ := List.exists_mem_of_ne_nil _ some
      refine (State.clearing_erases (usable hk) tag).imp List.ne_nil_of_mem ?_
      rintro ⟨e, flight, -⟩
      exact ne_of_eq_of_ne flight nofun
    have run := exec_clearHistory_begins h hs hj hc
    rw [State.settleClear_goes_on rfl left] at run
    obtain ⟨entries, puts⟩ := EntriesPut.of_clearing distinct tag
    refine ⟨_, run, (OnlyChanges.clearing s tag).settled (by simp), s.clearTaken_management request, ?entries, puts, ?fields,
      ⟨false, rfl⟩, fun k hk => ?erases, fun k hk used => ?retires, ?writes⟩
    case entries =>
      rw [entries, List.map_map]
      rfl
    case fields =>
      rw [entries]
      intro e he old stood
      obtain ⟨r, -, rfl⟩ := List.mem_map.mp he
      have horizon : (s.index.refilled s.time r).horizon = old.fields.horizon := by
        rw [Index.refilled, show s.index.find r.key = _ from stood]
        rfl
      refine ⟨rfl, horizon, rfl, ?_⟩
      rw [← horizon]
      exact expiryOf_toNat _ _
    case erases =>
      refine (State.clearing_erases (usable hk) tag).imp_right ?_
      rintro ⟨e, flight, sector⟩
      exact ⟨_, congrArg (Option.map _) flight, (e.askedToStop_inner _).2.1.trans sector⟩
    case retires => exact State.clearing_retires (usable hk) tag ((s.clearTaken_sector k).symm ▸ used)
    case writes => simp [State.writeWaiting, State.clearing]

end Sys2Proof.Machine
end


section
/-!
PROOFS. The order of the record unit taken apart (R106, R115, R118 to R121, R131): the slots by the handles of the live records, the lists, and the
sequence in progress; and what each part asks of an operation that keeps it.
-/

namespace Sys2Proof.Machine

/-! ## Slots and handles (R115, R118) -/

/-- Free slots, generations and handles agree: the free slots and those of the handles are the 24 slots, each once, under their present
generations. A record that has yet to take its slot has the handle `none`, and there is one such record at most. -/
structure Slotted (free : List Nat) (generations : List Byte) (handles : List (Option Handle)) : Prop where
  distinct : handles.Nodup
  slots : (free ++ handles.filterMap fun h => h.map Handle.slot).Perm (List.range 24)
  length : generations.length = 24
  present : ∀ h, some h ∈ handles → generations.getD h.slot 0 = h.generation

section
variable {free : List Nat} {generations : List Byte} {handles : List (Option Handle)}

theorem Slotted.perm (h : Slotted free generations handles) {handles' : List (Option Handle)} (p : handles.Perm handles') :
    Slotted free generations handles' where
  distinct := p.nodup_iff.mp h.distinct
  slots := ((p.filterMap _).append_left free).symm.trans h.slots
  length := h.length
  present x hx := h.present x (p.mem_iff.mpr hx)

/-- Handles all in slots of their own are distinct. -/
theorem nodup_handles (slots : (free ++ handles.filterMap fun h => h.map Handle.slot).Perm (List.range 24)) (named : none ∉ handles) :
    handles.Nodup := by
  have taken : (handles.filterMap fun h => h.map Handle.slot).Nodup := (slots.nodup_iff.mpr List.nodup_range).of_append_right
  have all : (handles.filterMap fun h => h.map Handle.slot).map some = handles.map (Option.map Handle.slot) := by
    rw [List.map_filterMap_some_eq_filter_map_isSome, List.filter_eq_self]
    simp only [List.forall_mem_map, Option.isSome_iff_ne_none]
    intro x hx unnamed
    exact named (Option.map_eq_none_iff.mp unnamed ▸ hx)
  exact List.Nodup.of_map _ (all ▸ taken.map (Option.some_injective Nat))

/-- A record that comes has no slot yet. -/
theorem Slotted.newcomer (h : Slotted free generations handles) (named : none ∉ handles) : Slotted free generations (none :: handles) where
  distinct := List.nodup_cons.mpr ⟨named, h.distinct⟩
  slots := h.slots
  length := h.length
  present x hx := h.present x (by simpa using hx)

/-- The slot of a record that has ended is free, under its next generation (R115). -/
theorem Slotted.freed {r : Record} (h : Slotted free generations (r.handle :: handles)) :
    Slotted (free ++ slotsFreed [r]) (generationsAfter (slotsFreed [r]) generations) handles := by
  obtain ⟨distinct, slots, length, present⟩ := h
  have rest := (List.nodup_cons.mp distinct).2
  cases hr : r.handle with
  | none =>
    rw [hr] at slots
    have unslotted : slotsFreed [r] = [] := by simp [slotsFreed, hr]
    rw [unslotted, List.append_nil]
    exact ⟨rest, slots, length, fun x hx => present x (List.mem_cons_of_mem _ hx)⟩
  | some k =>
    rw [hr] at slots
    have slot : slotsFreed [r] = [k.slot] := by simp [slotsFreed, hr]
    rw [slot]
    refine ⟨rest, by simpa using slots, by simpa [generationsAfter] using length, fun x hx => ?_⟩
    have taken : (handles.filterMap fun h => h.map Handle.slot).count k.slot = 0 := by
      have nodup := (slots.nodup_iff.mpr List.nodup_range).of_append_right
      simp only [List.filterMap_cons, Option.map_some, List.nodup_cons] at nodup
      exact List.count_eq_zero.mpr nodup.1
    have other : k.slot ≠ x.slot := fun same => by
      refine List.count_eq_zero.mp taken (List.mem_filterMap.mpr ⟨some x, hx, ?_⟩)
      simp [same]
    have unchanged : (generations.modify k.slot (· + 1)).getD x.slot 0 = generations.getD x.slot 0 := by
      simp [List.getD_eq_getElem?_getD, other]
    exact unchanged.trans (present x (List.mem_cons_of_mem _ hx))

/-- A newcomer takes the oldest free slot (R118). -/
theorem Slotted.taken {k : Nat} (h : Slotted (k :: free) generations (none :: handles)) :
    Slotted free generations (some ⟨generations.getD k 0, k⟩ :: handles) := by
  obtain ⟨distinct, slots, length, present⟩ := h
  obtain ⟨named, -⟩ := List.nodup_cons.mp distinct
  have slots' : (free ++ ((some ⟨generations.getD k 0, k⟩ :: handles).filterMap fun h : Option Handle => h.map Handle.slot)).Perm
      (List.range 24) := by
    simp only [List.filterMap_cons, Option.map_some, Option.map_none] at slots ⊢
    exact List.perm_middle.trans slots
  refine ⟨nodup_handles slots' (by simpa using named), slots', length, fun x hx => ?_⟩
  rcases List.mem_cons.mp hx with same | hx
  · obtain rfl := Option.some.inj same
    rfl
  · exact present x (List.mem_cons_of_mem _ hx)

/-- A newcomer among at most 24 live records finds a free slot. -/
theorem Slotted.exists_free (h : Slotted free generations (none :: handles)) (few : handles.length ≤ 23) : ∃ k rest, free = k :: rest := by
  cases free with
  | cons k rest => exact ⟨k, rest, rfl⟩
  | nil =>
    have total := h.slots.length_eq
    have taken := List.length_filterMap_le (fun h : Option Handle => h.map Handle.slot) handles
    simp at total
    omega
end

/-! ## The lists (R106, R119, R121) -/

/-- The records on the lists, their order and their states, but for the capacity of the active list. -/
structure Records.Arranged (u : Records) : Prop where
  held : u.held.length ≤ 8
  order : u.active.Pairwise fun x y =>
    x.attrs.cls.rank < y.attrs.cls.rank ∨ (x.attrs.cls.rank = y.attrs.cls.rank ∧ x.entered < y.entered)
  entered : ∀ x ∈ u.active, x.entered < u.entries
  heldStates : ∀ x ∈ u.held, x.state = .held ∧ x.latched = none
  activeStates : ∀ x ∈ u.active, x.state ≠ .held ∧ x.latched = none

/-- The records that are DELIVERING, on the active list or latched. -/
def Records.carried (u : Records) : List Record := (u.active ++ u.latched.toList).filter Record.delivering

/-- The sequence in progress has parts left and carries the one record that is DELIVERING; without one there is none (R119, R123, R131). -/
structure Records.Sequenced (u : Records) : Prop where
  latched : ∀ x, u.latched = some x → x.delivering = true ∧ x.latched.isSome = true
  left : ∀ d, u.delivery = some d → d.left ≠ []
  carries : u.carried.map (fun x => x.handle.map Handle.slot) = u.delivery.toList.map fun d => some d.slot

/-- The handles of the live records. -/
def Records.handles (u : Records) : List (Option Handle) := u.live.map Record.handle

theorem Record.delivering_iff {r : Record} : r.delivering = true ↔ r.state = .delivering := by simp [Record.delivering]

/-- The order of the record unit, part by part. -/
theorem Records.ordered_iff {u : Records} :
    u.Ordered ↔ Slotted u.free u.generations u.handles ∧ none ∉ u.handles ∧ u.active.length ≤ u.capacity ∧ u.Arranged ∧ u.Sequenced := by
  have slots : (u.handles.filterMap fun h => h.map Handle.slot) = u.live.filterMap fun x => x.handle.map Handle.slot :=
    List.filterMap_map
  have named : none ∉ u.handles ↔ ∀ x ∈ u.live, x.handle.isSome = true := by
    simp [Records.handles, Option.isSome_iff_ne_none]
  have present : (∀ h, some h ∈ u.handles → u.generations.getD h.slot 0 = h.generation) ↔
      ∀ x ∈ u.live, ∀ h, x.handle = some h → u.generations.getD h.slot 0 = h.generation := by
    simp only [Records.handles, List.mem_map]
    exact ⟨fun g x hx h hh => g h ⟨x, hx, hh⟩, fun g h ⟨x, hx, hh⟩ => g x hx h hh⟩
  constructor
  · intro hu
    refine ⟨⟨hu.handles_nodup, slots ▸ hu.slots, hu.generations.1, present.mpr hu.generations.2⟩, named.mpr hu.handles, hu.active,
      ⟨hu.held, hu.order, hu.entered, hu.heldStates, hu.activeStates⟩, ?_⟩
    have sequence := hu.sequence
    cases hd : u.delivery with
    | none =>
      obtain ⟨unlatched, still⟩ := hd ▸ sequence
      refine ⟨by simp [unlatched], by simp [hd], ?_⟩
      simpa [Records.carried, unlatched, hd, Record.delivering] using still
    | some d =>
      rw [hd] at sequence
      obtain ⟨left, x, only, slot⟩ := sequence
      refine ⟨fun y hy => ⟨Record.delivering_iff.mpr (hu.latchedState y hy).1, (hu.latchedState y hy).2⟩, ?_, ?_⟩
      · rintro _ same
        obtain rfl := Option.some.inj (hd.symm.trans same)
        exact left
      · have carried : u.carried = [x] := only
        simp [carried, hd, slot]
  · rintro ⟨⟨-, slotted, length, hp⟩, hn, full, ⟨held, order, entered, heldStates, activeStates⟩, ⟨latched, left, carries⟩⟩
    refine ⟨named.mp hn, slots ▸ slotted, ⟨length, present.mp hp⟩, full, held, order, entered, heldStates, activeStates,
      fun x hx => ⟨Record.delivering_iff.mp (latched x hx).1, (latched x hx).2⟩, ?_⟩
    cases hd : u.delivery with
    | none =>
      have still : u.carried = [] := by simpa [hd] using carries
      rw [Records.carried, List.filter_eq_nil_iff] at still
      have unlatched : u.latched = none := by
        cases hl : u.latched with
        | none => rfl
        | some x => exact absurd (latched x hl).1 (still x (by simp [hl]))
      exact ⟨unlatched, fun x hx state => still x (List.mem_append_left _ hx) (Record.delivering_iff.mpr state)⟩
    | some d =>
      simp only [hd, Option.toList_some, List.map_cons, List.map_nil] at carries
      obtain ⟨x, only, slot⟩ := List.map_eq_singleton_iff.mp carries
      exact ⟨left d hd, x, only, slot⟩

/-! ## What keeps the lists in order -/

section
variable {u v : Records}

/-- Records leave. -/
theorem Records.Arranged.sublist (h : u.Arranged) (active : v.active.Sublist u.active) (held : v.held.Sublist u.held)
    (entries : v.entries = u.entries := by rfl) : v.Arranged where
  held := held.length_le.trans h.held
  order := h.order.sublist active
  entered x hx := entries ▸ h.entered x (active.subset hx)
  heldStates x hx := h.heldStates x (held.subset hx)
  activeStates x hx := h.activeStates x (active.subset hx)

/-- Active records change in place. -/
theorem Records.Arranged.map (h : u.Arranged) {f : Record → Record} (active : v.active = u.active.map f)
    (keeps : ∀ x ∈ u.active, (f x).attrs = x.attrs ∧ (f x).entered = x.entered ∧ (f x).latched = x.latched ∧ (f x).state ≠ .held)
    (held : v.held = u.held := by rfl) (entries : v.entries = u.entries := by rfl) : v.Arranged where
  held := held ▸ h.held
  order := by
    rw [active, List.pairwise_map]
    refine h.order.imp_of_mem fun hx hy before => ?_
    obtain ⟨attrs, entered, -⟩ := keeps _ hx
    obtain ⟨attrs', entered', -⟩ := keeps _ hy
    rwa [attrs, entered, attrs', entered']
  entered x hx := by
    obtain ⟨y, hy, rfl⟩ := List.mem_map.mp (active ▸ hx)
    rw [(keeps y hy).2.1, entries]
    exact h.entered y hy
  heldStates x hx := h.heldStates x (held ▸ hx)
  activeStates x hx := by
    obtain ⟨y, hy, rfl⟩ := List.mem_map.mp (active ▸ hx)
    obtain ⟨-, -, latched, state⟩ := keeps y hy
    exact ⟨state, latched.trans (h.activeStates y hy).2⟩

/-- The records that are DELIVERING stay as they are. -/
theorem Records.Sequenced.congr (h : u.Sequenced) (active : v.active.filter Record.delivering = u.active.filter Record.delivering)
    (latched : v.latched = u.latched := by rfl) (delivery : v.delivery = u.delivery := by rfl) : v.Sequenced where
  latched := latched ▸ h.latched
  left := delivery ▸ h.left
  carries := by
    have carried : v.carried = u.carried := by simp only [Records.carried, List.filter_append, active, latched]
    rw [carried, delivery, h.carries]

/-- Active records change in place, and the same are DELIVERING in the same slots. -/
theorem Records.Sequenced.map (h : u.Sequenced) {f : Record → Record} (active : v.active = u.active.map f)
    (keeps : ∀ x ∈ u.active, (f x).delivering = x.delivering ∧ (x.delivering = true → (f x).handle = x.handle))
    (latched : v.latched = u.latched := by rfl) (delivery : v.delivery = u.delivery := by rfl) : v.Sequenced where
  latched := latched ▸ h.latched
  left := delivery ▸ h.left
  carries := by
    have same : (u.active.map f).filter Record.delivering = (u.active.filter Record.delivering).map f := by
      rw [List.filter_map]
      exact congrArg _ (List.filter_congr fun x hx => (keeps x hx).1)
    have slots : ((u.active.filter Record.delivering).map f).map (fun x => x.handle.map Handle.slot) =
        (u.active.filter Record.delivering).map fun x => x.handle.map Handle.slot := by
      rw [List.map_map]
      refine List.map_congr_left fun x hx => ?_
      obtain ⟨hx, carried⟩ := List.mem_filter.mp hx
      exact congrArg (Option.map Handle.slot) ((keeps x hx).2 carried)
    rw [delivery, ← h.carries]
    simp only [Records.carried, List.filter_append, List.map_append, active, latched, same, slots]
end

end Sys2Proof.Machine
end

section
/-!
PROOFS. Records leave, are latched, enter and take their slots (R115, R118, R120, R121, R130, R131), and the record unit stays in order.
-/

namespace Sys2Proof.Machine

/-! ## The record unit without its counters -/

/-- The record unit without its counters, which its order does not speak of. -/
def State.roll (s : State) : Records := { s.records with counters := .zero }

theorem Records.Ordered.recounted {u : Records} (h : u.Ordered) (c : RecordCounters) : Records.Ordered { u with counters := c } :=
  ⟨h.handles, h.slots, h.generations, h.active, h.held, h.order, h.entered, h.heldStates, h.activeStates, h.latchedState, h.sequence⟩

/-- An operation that changes only counters of the record unit keeps its order. -/
theorem Records.Ordered.of_roll {s t : State} (h : s.records.Ordered) (same : t.roll = s.roll) : t.records.Ordered := by
  have ordered : t.roll.Ordered := same ▸ h.recounted .zero
  exact ordered.recounted t.records.counters

/-- A record on no list has ended, and its slot, if it has one, is free (R115, R130). -/
def Records.freed (r : Record) (u : Records) : Records :=
  { u with free := u.free ++ slotsFreed [r], generations := generationsAfter (slotsFreed [r]) u.generations }

theorem State.finish_roll (code : Code) (r : Record) (s : State) : (s.finish code r).roll = s.roll.freed r := by
  cases hr : r.handle with
  | none =>
    have unslotted : slotsFreed [r] = [] := by simp [slotsFreed, hr]
    simp only [State.finish, hr, State.joinReport_eq, State.queueReceipt_eq, Records.freed, unslotted, List.append_nil]
    rfl
  | some h =>
    have slot : slotsFreed [r] = [h.slot] := by simp [slotsFreed, hr]
    rw [State.finish_eq s code r hr, Records.freed, slot]
    rfl

/-- The order of the record unit, once a record on no list has ended. -/
theorem Records.Ordered.finished {s : State} {r : Record}
    (slotted : Slotted s.records.free s.records.generations (r.handle :: s.records.handles)) (named : none ∉ s.records.handles)
    (full : s.records.active.length ≤ s.records.capacity) (arranged : s.records.Arranged) (sequenced : s.records.Sequenced) (code : Code) :
    (s.finish code r).records.Ordered := by
  have ordered : (s.records.freed r).Ordered := Records.ordered_iff.mpr
    ⟨slotted.freed, named, full, arranged.sublist (.refl _) (.refl _), sequenced.congr rfl⟩
  exact Records.Ordered.of_roll (s := s.onRecords (Records.freed r)) ordered (s.finish_roll code r)

/-! ## Records leave the lists (R130, R131) -/

section
variable {u : Records} {r : Record}

/-- A listed record that leaves takes none with it. -/
theorem Records.live_perm_unlist (distinct : u.handles.Nodup) (hr : r ∈ u.active ++ u.held) : u.live.Perm (r :: (u.unlist r).live) := by
  have left : u.live.filter (fun y => y.handle != r.handle) = (u.unlist r).live := by
    have latched : u.latched.toList.filter (fun y => y.handle != r.handle) = u.latched.toList := by
      rw [Records.handles, Records.live, List.map_append] at distinct
      exact List.filter_eq_self.mpr fun y hy => bne_iff_ne.mpr
        ((List.nodup_append.mp distinct).2.2 _ (List.mem_map_of_mem hr) _ (List.mem_map_of_mem hy)).symm
    simp only [Records.live, List.filter_append, latched]
    rfl
  obtain ⟨a, b, split⟩ := List.append_of_mem (show r ∈ u.live from List.mem_append_left _ hr)
  rw [← left, split, filter_ne_of_nodup (f := Record.handle) (split ▸ distinct)]
  exact List.perm_middle

/-- A record that leaves and is not DELIVERING leaves the DELIVERING one. -/
theorem Records.unlist_delivering (distinct : u.handles.Nodup) (hr : r ∈ u.active ++ u.held) (still : r.delivering = false) :
    (u.unlist r).active.filter Record.delivering = u.active.filter Record.delivering := by
  rw [Records.unlist_active, List.filter_filter]
  refine List.filter_congr fun y hy => ?_
  cases carried : y.delivering with
  | false => rfl
  | true =>
    refine (Bool.true_and _).trans (bne_iff_ne.mpr fun same => ?_)
    obtain rfl := List.inj_on_of_nodup_map distinct (show y ∈ u.live by simp [Records.live, hy]) (List.mem_append_left _ hr) same
    simp [carried] at still

theorem Records.unlist_active_length_le (r : Record) (u : Records) : (u.unlist r).active.length ≤ u.active.length :=
  List.length_filter_le _ _

theorem Records.unlist_handles (h : u.Ordered) (hr : r ∈ u.active ++ u.held) :
    u.handles.Perm (r.handle :: (u.unlist r).handles) := (Records.live_perm_unlist h.handles_nodup hr).map Record.handle

theorem Records.Ordered.listed (h : u.Ordered) {x : Record} (hx : x ∈ u.active ++ u.held) :
    x.latched = none ∧ (x.delivering = true → x ∈ u.active) := by
  rcases List.mem_append.mp hx with hx | hx
  · exact ⟨(h.activeStates x hx).2, fun _ => hx⟩
  · obtain ⟨state, latched⟩ := h.heldStates x hx
    exact ⟨latched, fun carried => by simp [Record.delivering, state] at carried⟩
end

section
variable {s : State} {r : Record} (hu : s.records.Ordered)
include hu

/-- A listed record that is not DELIVERING completes (R130). -/
theorem Records.Ordered.complete (hr : r ∈ s.records.active ++ s.records.held) (still : r.delivering = false) (code : Code) :
    (s.complete code r).records.Ordered := by
  obtain ⟨slotted, named, full, arranged, sequenced⟩ := Records.ordered_iff.mp hu
  have perm := Records.unlist_handles hu hr
  refine Records.Ordered.finished (s := s.onRecords (Records.unlist r)) (slotted.perm perm) ?_ ?_ ?_ ?_ code
  · exact fun h => named (perm.mem_iff.mpr (List.mem_cons_of_mem _ h))
  · exact (Records.unlist_active_length_le r _).trans full
  · exact arranged.sublist List.filter_sublist List.filter_sublist
  · exact sequenced.congr (Records.unlist_delivering slotted.distinct hr still)

/-- A DELIVERING record has its completion latched (R131). -/
theorem Records.Ordered.latch (hr : r ∈ s.records.active) (carried : r.delivering = true) (code : Code) :
    (s.latch code r).records.Ordered := by
  obtain ⟨slotted, named, full, arranged, sequenced⟩ := Records.ordered_iff.mp hu
  have listed : r ∈ s.records.active ++ s.records.held := List.mem_append_left _ hr
  have mem : r ∈ s.records.carried := List.mem_filter.mpr ⟨List.mem_append_left _ hr, carried⟩
  obtain ⟨d, hd⟩ : ∃ d, s.records.delivery = some d := by
    cases hd : s.records.delivery with
    | some d => exact ⟨d, rfl⟩
    | none =>
      have none : s.records.carried = [] := by simpa [hd] using sequenced.carries
      simp [none] at mem
  have only : s.records.carried = [r] :=
    (hu.filter_delivering hd (List.mem_append_left _ hr) (Record.delivering_iff.mp carried)).1
  have unlatched : s.records.latched = none := by
    have := hu.latched_eq hd (List.mem_append_left _ hr) (Record.delivering_iff.mp carried)
    simpa [(hu.activeStates r hr).2] using this
  have perm : s.records.handles.Perm (s.latch code r).records.handles := by
    have unlisted : (s.records.unlist r).handles = ((s.records.unlist r).active ++ (s.records.unlist r).held).map Record.handle := by
      simp [Records.handles, Records.live, unlatched]
    have latched : (s.latch code r).records.handles =
        ((s.records.unlist r).active ++ (s.records.unlist r).held).map Record.handle ++ [r.handle] := by
      simp [Records.handles, Records.live, State.latch]
    rw [latched, ← unlisted]
    exact (Records.unlist_handles hu listed).trans (List.perm_append_comm (l₁ := [r.handle]))
  refine Records.ordered_iff.mpr ⟨slotted.perm perm, fun h => named (perm.mem_iff.mpr h), ?_,
    arranged.sublist List.filter_sublist List.filter_sublist, ?_⟩
  · have fewer : (s.records.unlist r).active.length < s.records.active.length :=
      List.length_filter_lt_length_iff_exists.mpr ⟨r, hr, by simp⟩
    have room : s.records.active.length ≤ 16 := full.trans (by simp [Records.capacity, unlatched])
    exact Nat.le_of_lt_succ (fewer.trans_le room)
  · have still : (s.records.unlist r).active.filter Record.delivering = [] := by
      have active : s.records.active.filter Record.delivering = [r] := by
        simpa [Records.carried, unlatched] using only
      rw [Records.unlist_active, List.filter_comm, active]
      simp
    refine ⟨?_, sequenced.left, ?_⟩
    · rintro _ ⟨⟩
      exact ⟨carried, rfl⟩
    · rw [show (s.latch code r).records.delivery = s.records.delivery from rfl, ← sequenced.carries, only]
      have carries : (s.latch code r).records.carried = [r.latchedWith code] := by
        show List.filter _ ((s.records.unlist r).active ++ [r.latchedWith code]) = _
        have carried' : (r.latchedWith code).delivering = true := carried
        rw [List.filter_append, still, List.filter_singleton, carried']
        rfl
      rw [carries]
      rfl

theorem Records.Ordered.endRecord (hr : r ∈ s.records.active ++ s.records.held) (code : Code) : (s.endRecord code r).records.Ordered := by
  unfold State.endRecord
  split
  · next carried =>
    have carried := Record.delivering_iff.mpr carried
    exact hu.latch ((hu.listed hr).2 carried) carried code
  · next still => exact hu.complete hr (by simpa [Record.delivering] using still) code
end

/-- The records that stay when a listed one ends. -/
theorem State.endRecord_lists (code : Code) (r : Record) (s : State) :
    (s.endRecord code r).records.active ++ (s.endRecord code r).records.held =
      (s.records.active ++ s.records.held).filter fun y => y.handle != r.handle := by
  have completed : (s.complete code r).ledger = (s.onRecords (Records.unlist r)).ledger := State.finish_ledger _ code r
  rw [List.filter_append]
  unfold State.endRecord
  split
  · rfl
  · exact congrArg (fun x => x.2.1 ++ x.2.2.1) completed

/-- Listed records end one after another (R82, R134, R135). -/
theorem Records.Ordered.endAll {rs : List Record} (code : Code) {s : State} (hu : s.records.Ordered)
    (listed : ∀ r ∈ rs, r ∈ s.records.active ++ s.records.held) (distinct : (rs.map Record.handle).Nodup) :
    (s.endAll code rs).records.Ordered := by
  induction rs generalizing s with
  | nil => exact hu
  | cons r rs ih =>
    obtain ⟨other, distinct⟩ := List.nodup_cons.mp distinct
    refine ih (hu.endRecord (listed r (by simp)) code) (fun x hx => ?_) distinct
    rw [State.endRecord_lists]
    refine List.mem_filter.mpr ⟨listed x (List.mem_cons_of_mem _ hx), bne_iff_ne.mpr fun same => ?_⟩
    exact other (same ▸ List.mem_map_of_mem hx)

/-- Records of the lists, in their order, end one after another. -/
theorem Records.Ordered.endSublist {rs : List Record} (code : Code) {s : State} (hu : s.records.Ordered)
    (sub : rs.Sublist (s.records.active ++ s.records.held)) : (s.endAll code rs).records.Ordered :=
  hu.endAll code (fun _ hr => sub.subset hr)
    (hu.handles_nodup.sublist ((sub.trans (List.sublist_append_left _ _)).map _))

theorem Records.Ordered.endKey {s : State} (hu : s.records.Ordered) (code : Code) (k : Key) : (s.endKey code k).records.Ordered :=
  hu.endSublist code List.filter_sublist

end Sys2Proof.Machine
end

section
/-!
PROOFS. Records enter (R107, R108, R117, R118, R120, R121): what an entry into the active list does, for a newcomer without a slot and for a record
released with its own, as equations; and the record unit stays in order.
-/

namespace Sys2Proof.Machine

/-! ## The newcomer takes its slot (R118) -/

section
variable {u : Records}

/-- The record that takes its slot changes in nothing else. -/
theorem Records.Arranged.seat (h : u.Arranged) (n : Nat) : (u.seat n).Arranged := by
  unfold Records.seat
  split
  · refine h.map rfl fun x hx => ?_
    split <;> exact ⟨rfl, rfl, rfl, (h.activeStates x hx).1⟩
  · exact h

theorem Records.Sequenced.seat (h : u.Sequenced) (waits : ∀ y ∈ u.active, y.handle = none → y.delivering = false) (n : Nat) :
    (u.seat n).Sequenced := by
  unfold Records.seat
  split
  · refine h.map rfl fun x hx => ?_
    split
    · next newcomer =>
      simp only [Bool.and_eq_true, Option.isNone_iff_eq_none] at newcomer
      exact ⟨rfl, fun carried => by simp [waits x hx newcomer.2] at carried⟩
    · exact ⟨rfl, fun _ => rfl⟩
  · exact h

/-- The live records are 24 at most where both lists are within their bounds (R106, R120). -/
theorem Records.live_length_le (full : u.active.length ≤ u.capacity) (held : u.held.length ≤ 8) : u.live.length ≤ 24 := by
  rw [Records.capacity] at full
  cases hl : u.latched <;> simp [Records.live, hl] at full ⊢ <;> omega

/-- The record without a slot, if there is one, takes the oldest free slot. -/
theorem Records.seat_slotted {n : Nat} (slotted : Slotted u.free u.generations u.handles)
    (newcomers : ∀ y ∈ u.live, y.handle = none → y ∈ u.active ∧ y.entered = n) (few : u.live.length ≤ 24) :
    Slotted (u.seat n).free (u.seat n).generations (u.seat n).handles ∧ none ∉ (u.seat n).handles ∧
      (u.seat n).active.length = u.active.length ∧ (u.seat n).latched = u.latched := by
  by_cases named : none ∈ u.handles
  case neg =>
    have stays : u.seat n = u := Records.seat_seated (fun y hy => Option.isSome_iff_ne_none.mpr fun unnamed =>
      named (unnamed ▸ List.mem_map_of_mem (show y ∈ u.live by simp [Records.live, hy]))) n
    exact stays.symm ▸ ⟨slotted, named, rfl, rfl⟩
  case pos =>
    obtain ⟨x, hx, unnamed⟩ := List.mem_map.mp named
    obtain ⟨hx, rfl⟩ := newcomers x hx unnamed
    obtain ⟨a, b, split⟩ := List.append_of_mem hx
    let others := (a ++ (b ++ (u.held ++ u.latched.toList))).map Record.handle
    have around (y : Record) : ((a ++ y :: b ++ u.held ++ u.latched.toList).map Record.handle).Perm (y.handle :: others) := by
      simp only [List.append_assoc, List.cons_append]
      exact List.perm_middle.map _
    have perm : u.handles.Perm (none :: others) := by
      rw [Records.handles, Records.live, split, ← unnamed]
      exact around x
    have rest := slotted.perm perm
    obtain ⟨unique, -⟩ := List.nodup_cons.mp rest.distinct
    have length : others.length ≤ 23 := by
      have := perm.length_eq
      simp only [Records.handles, List.length_map, List.length_cons] at this
      omega
    obtain ⟨k, free, hf⟩ := rest.exists_free length
    have seated := Records.seat_newcomer split unnamed fun y hy => Option.isSome_iff_ne_none.mpr fun unnamed =>
      unique (List.mem_map.mpr ⟨y, by simp only [List.mem_append] at hy ⊢; tauto, unnamed⟩)
    have handle : u.nextHandle = some ⟨u.generations.getD k 0, k⟩ := by rw [Records.nextHandle, hf]; rfl
    rw [handle, hf] at seated
    rw [seated]
    have taken := around { x with handle := some ⟨u.generations.getD k 0, k⟩ }
    refine ⟨(hf ▸ rest).taken.perm taken.symm, fun h => ?_, by simp [split], rfl⟩
    exact unique (by simpa using taken.mem_iff.mp h)
end

/-- The slot a newcomer takes, if one is there without a slot. -/
theorem Records.seat_ordered {u : Records} {n : Nat} (slotted : Slotted u.free u.generations u.handles)
    (newcomers : ∀ y ∈ u.live, y.handle = none → y ∈ u.active ∧ y.entered = n ∧ y.delivering = false)
    (full : u.active.length ≤ u.capacity) (arranged : u.Arranged) (sequenced : u.Sequenced) : (u.seat n).Ordered := by
  obtain ⟨seated, named, length, latched⟩ := Records.seat_slotted slotted
    (fun y hy unnamed => (newcomers y hy unnamed).imp_right And.left) (Records.live_length_le full arranged.held)
  refine Records.ordered_iff.mpr ⟨seated, named, ?_, arranged.seat n, sequenced.seat (fun y hy unnamed => ?_) n⟩
  · rwa [Records.capacity, length, latched]
  · exact (newcomers y (by simp [Records.live, hy]) unnamed).2.2

/-! ## The entry into the active list (R120, R121) -/

theorem Records.Arranged.exists_placed {u : Records} (h : u.Arranged) (r : Record) :
    ∃ a b, u.active = a ++ b ∧ (∀ y ∈ a, y.attrs.cls.rank ≤ r.attrs.cls.rank) ∧ ∀ y ∈ b, r.attrs.cls.rank < y.attrs.cls.rank := by
  obtain ⟨a, b, split, -, ha, hb⟩ := insertBefore_split (fun y x : Record => y.attrs.cls.rank ≤ x.attrs.cls.rank) r u.active
  refine ⟨a, b, split, fun y hy => by simpa using ha y hy, fun y hy => ?_⟩
  cases b with
  | nil => simp at hy
  | cons z b =>
    have first : r.attrs.cls.rank < z.attrs.cls.rank := by simpa using hb z b rfl
    rcases List.mem_cons.mp hy with rfl | hy
    · exact first
    · have order := (List.pairwise_append.mp (split ▸ h.order)).2.1
      have := (List.pairwise_cons.mp order).1 y hy
      omega

/-- A record put in its place keeps the lists in order. -/
theorem Records.Arranged.entering {u : Records} (h : u.Arranged) {r : Record} {a b : List Record} (split : u.active = a ++ b)
    (ha : ∀ y ∈ a, y.attrs.cls.rank ≤ r.attrs.cls.rank) (hb : ∀ y ∈ b, r.attrs.cls.rank < y.attrs.cls.rank) (unlatched : r.latched = none) :
    (u.entering (a ++ r.enteredAs u.entries :: b)).Arranged where
  held := h.held
  heldStates := h.heldStates
  order := by
    obtain ⟨before, after, across⟩ := List.pairwise_append.mp (split ▸ h.order)
    refine List.pairwise_append.mpr ⟨before, List.pairwise_cons.mpr ⟨fun y hy => .inl (hb y hy), after⟩, fun x hx y hy => ?_⟩
    rcases List.mem_cons.mp hy with rfl | hy
    · have earlier := h.entered x (split ▸ List.mem_append_left _ hx)
      exact (Nat.lt_or_eq_of_le (ha x hx)).imp_right fun same => ⟨same, earlier⟩
    · exact across x hx y hy
  entered x hx := by
    have stood (y : Record) (hy : y ∈ a ++ b) : y.entered < u.entries + 1 := Nat.lt_succ_of_lt (h.entered y (split ▸ hy))
    rcases List.mem_append.mp hx with hx | hx
    · exact stood x (List.mem_append_left _ hx)
    · rcases List.mem_cons.mp hx with rfl | hx
      · exact Nat.lt_succ_self _
      · exact stood x (List.mem_append_right _ hx)
  activeStates x hx := by
    rcases List.mem_append.mp hx with hx | hx
    · exact h.activeStates x (split ▸ List.mem_append_left _ hx)
    · rcases List.mem_cons.mp hx with rfl | hx
      · exact ⟨nofun, unlatched⟩
      · exact h.activeStates x (split ▸ List.mem_append_right _ hx)

section
variable {s : State} {r : Record} {a b : List Record} (distinct : (r.handle :: (s.records.active ++ s.records.held).map Record.handle).Nodup)
  (hp : s.records.Placed r a b)
include hp

/-- A record entering an active list that has room (R118, R121). -/
theorem State.enterActive_room (room : s.records.active.length < s.records.capacity) :
    s.enterActive r =
      s.onRecords fun u => (u.entering (a ++ r.enteredAs u.entries :: b)).seat u.entries := by
  have fits : ¬ (a ++ r.enteredAs s.records.entries :: b).length > s.records.capacity := by
    rw [hp.split] at room
    simp only [List.length_append, List.length_cons] at room ⊢
    omega
  have stays : (s.onRecords (Records.entering (a ++ r.enteredAs s.records.entries :: b))).displace =
      s.onRecords (Records.entering (a ++ r.enteredAs s.records.entries :: b)) := if_neg fits
  rw [State.enterActive_eq hp, stays]
  rfl

include distinct

/-- A record that leaves an over-full active list takes no other with it. -/
theorem Records.unlist_entering {before after : List Record} {v : Record}
    (split : a ++ r.enteredAs s.records.entries :: b = before ++ v :: after) :
    Records.unlist v (s.records.entering (before ++ v :: after)) = s.records.entering (before ++ after) := by
  have listed : ((before ++ v :: after ++ s.records.held).map Record.handle).Nodup := by
    rw [hp.split] at distinct
    rw [← split, List.append_assoc, List.cons_append, List.map_append, List.map_cons, List.nodup_middle, ← List.map_append,
      ← List.append_assoc]
    exact distinct
  rw [List.map_append] at listed
  have active := filter_ne_of_nodup (f := Record.handle) listed.of_append_left
  have held : (s.records.held.filter fun y => y.handle != v.handle) = s.records.held :=
    List.filter_eq_self.mpr fun y hy => bne_iff_ne.mpr
      ((List.nodup_append.mp listed).2.2 _ (List.mem_map_of_mem (by simp)) _ (List.mem_map_of_mem hy)).symm
  simp only [Records.unlist, Records.entering, active, held]

/-- A record entering a full active list, from which one of the seventeen is displaced: the last that is not DELIVERING (R121). -/
theorem State.enterActive_full (full : s.records.capacity ≤ s.records.active.length) :
    ∃ before v after, a ++ r.enteredAs s.records.entries :: b = before ++ v :: after ∧ v.delivering = false ∧
      s.enterActive r =
        ((s.onRecords (Records.entering (before ++ after))).ended .displaced [v]).onRecords (Records.seat s.records.entries) := by
  obtain ⟨before, v, after, split, waits, last⟩ := exists_last (p := fun x : Record => x.state ≠ .delivering)
    (l := a ++ r.enteredAs s.records.entries :: b) ⟨r.enteredAs s.records.entries, by simp, by simp [Record.enteredAs]⟩
  refine ⟨before, v, after, split, by simpa [Record.delivering] using waits, ?_⟩
  have tooMany : (before ++ v :: after).length > s.records.capacity := by
    rw [hp.split] at full
    rw [← split]
    simp only [List.length_append, List.length_cons] at full ⊢
    omega
  have victim : ((before ++ v :: after).reverse.find? fun x => x.state != .delivering) = some v := by
    have skipped : (after.reverse.find? fun x => x.state != .delivering) = none := by simpa using last
    rw [List.reverse_append, List.reverse_cons, List.append_assoc, List.find?_append, skipped]
    simp [waits]
  have displaced : (s.onRecords (Records.entering (before ++ v :: after))).displace =
      (s.onRecords (Records.entering (before ++ v :: after))).complete .displaced v := by
    refine (if_pos tooMany).trans ?_
    have chosen : (s.onRecords (Records.entering (before ++ v :: after))).records.lastToDisplace = some v := victim
    rw [chosen]
  rw [State.enterActive_eq hp, split, displaced, State.complete_eq_ended (by decide)]
  exact congrArg (fun u => (State.ended { s with records := u } .displaced [v]).onRecords (Records.seat s.records.entries))
    (Records.unlist_entering distinct hp split)
end

/-- A record enters the active list: a newcomer without a slot, or one that comes with its own (R109, R118, R121). -/
theorem Records.Ordered.enterActive {s : State} {r : Record}
    (slotted : Slotted s.records.free s.records.generations (r.handle :: s.records.handles)) (named : none ∉ s.records.handles)
    (full : s.records.active.length ≤ s.records.capacity) (arranged : s.records.Arranged) (sequenced : s.records.Sequenced)
    (unlatched : r.latched = none) : (s.enterActive r).records.Ordered := by
  obtain ⟨a, b, split, ha, hb⟩ := arranged.exists_placed r
  have hp := Records.placed_of_ranks split ha hb
  have entering := arranged.entering split ha hb unlatched
  have still : (a ++ r.enteredAs s.records.entries :: b).filter Record.delivering = s.records.active.filter Record.delivering := by
    have waits : (r.enteredAs s.records.entries).delivering = false := rfl
    simp [split, waits]
  have slots : Slotted s.records.free s.records.generations
      ((a ++ r.enteredAs s.records.entries :: b ++ s.records.held ++ s.records.latched.toList).map Record.handle) := by
    refine slotted.perm ?_
    simp only [Records.handles, Records.live, split, List.append_assoc, List.cons_append, List.map_append, List.map_cons]
    exact List.perm_middle.symm
  have newcomers {active : List Record} (sub : active ⊆ a ++ r.enteredAs s.records.entries :: b) :
      ∀ y ∈ active ++ s.records.held ++ s.records.latched.toList, y.handle = none →
        y ∈ active ∧ y.entered = s.records.entries ∧ y.delivering = false := by
    intro y hy unnamed
    have unlisted : y ∉ s.records.live := fun live => named (unnamed ▸ List.mem_map_of_mem live)
    simp only [Records.live, split, List.mem_append, not_or] at unlisted hy
    obtain ⟨⟨⟨outsideA, outsideB⟩, outsideHeld⟩, outsideLatched⟩ := unlisted
    obtain ⟨hy | hy⟩ | hy := hy
    · have newest : y = r.enteredAs s.records.entries := by simpa [outsideA, outsideB] using sub hy
      exact ⟨hy, newest ▸ ⟨rfl, rfl⟩⟩
    · exact absurd hy outsideHeld
    · exact absurd hy outsideLatched
  rcases Nat.lt_or_ge s.records.active.length s.records.capacity with room | full'
  · rw [State.enterActive_room hp room]
    refine Records.seat_ordered slots (newcomers (List.Subset.refl _)) ?_ entering (sequenced.congr still)
    have one : (a ++ r.enteredAs s.records.entries :: b).length = s.records.active.length + 1 := by
      simp only [split, List.length_append, List.length_cons, Nat.add_assoc]
    exact one ▸ room
  · have distinct : (r.handle :: (s.records.active ++ s.records.held).map Record.handle).Nodup :=
      slotted.distinct.sublist (((List.sublist_append_left _ _).map Record.handle).cons_cons _)
    obtain ⟨before, v, after, placed, waits, run⟩ := State.enterActive_full distinct hp full'
    have leaves : (before ++ after).Sublist (a ++ r.enteredAs s.records.entries :: b) :=
      placed ▸ (List.sublist_cons_self v after).append_left before
    rw [placed] at slots still
    have left : ((before ++ v :: after ++ s.records.held ++ s.records.latched.toList).map Record.handle).Perm
        (v.handle :: (before ++ after ++ s.records.held ++ s.records.latched.toList).map Record.handle) := by
      simp only [List.append_assoc, List.cons_append, List.map_append, List.map_cons]
      exact List.perm_middle
    rw [run]
    refine Records.seat_ordered (slots.perm left).freed (newcomers leaves.subset) ?_ (entering.sublist leaves (.refl _)) (sequenced.congr ?_)
    · have length := congrArg List.length placed
      have capacity : s.records.capacity = if s.records.latched.isSome then 15 else 16 := rfl
      simp only [split, List.length_append, List.length_cons, capacity] at length full
      show (before ++ after).length ≤ if s.records.latched.isSome then 15 else 16
      rw [List.length_append]
      omega
    · rw [← still]
      show (before ++ after).filter Record.delivering = _
      simp [waits]

end Sys2Proof.Machine
end

section
/-!
PROOFS. The operations of the record unit keep it in order (R93, R106 to R110, R117, R126 to R128, R131, R139, R146): a record is held or created, records
change in place, a sequence begins and ends, held records are judged again.
-/

namespace Sys2Proof.Machine

/-! ## Records are held and created (R107, R108, R117) -/

section
variable {s : State} (hu : s.records.Ordered)
include hu

theorem Records.Ordered.joinHeld {r : Record} (unlatched : r.latched = none) (room : s.records.held.length < 8) :
    (s.joinHeld r).records.Ordered := by
  obtain ⟨slotted, named, full, arranged, sequenced⟩ := Records.ordered_iff.mp hu
  have few : s.records.handles.length ≤ 23 := by
    rw [Records.capacity] at full
    cases hl : s.records.latched <;> simp [Records.handles, Records.live, hl] at full ⊢ <;> omega
  have newcomer := slotted.newcomer named
  obtain ⟨k, rest, free⟩ := newcomer.exists_free few
  have handle : s.records.nextHandle = some ⟨s.records.generations.getD k 0, k⟩ := by rw [Records.nextHandle, free]; rfl
  have perm : ((s.joinHeld r).records.handles).Perm (s.records.nextHandle :: s.records.handles) := by
    show List.Perm (List.map _ (s.records.active ++ (s.records.held ++ [_]) ++ s.records.latched.toList)) _
    simp only [Records.handles, Records.live, List.append_assoc, List.cons_append, List.nil_append, List.map_append, List.map_cons]
    rw [← List.append_assoc, ← List.append_assoc]
    exact List.perm_middle
  have slots : Slotted (s.records.free.drop 1) s.records.generations (s.records.nextHandle :: s.records.handles) := by
    rw [handle, free]
    exact (free ▸ newcomer).taken
  refine Records.ordered_iff.mpr ⟨slots.perm perm.symm, fun h => named ?_, full, ?_, sequenced.congr rfl⟩
  · simpa [handle] using perm.mem_iff.mp h
  · obtain ⟨-, order, entered, heldStates, activeStates⟩ := arranged
    refine ⟨?_, order, entered, fun x hx => ?_, activeStates⟩
    · exact (List.length_append ..).trans_le room
    · rcases List.mem_append.mp hx with hx | hx
      · exact heldStates x hx
      · exact List.mem_singleton.mp hx ▸ ⟨rfl, unlatched⟩

/-- A record without a slot ends. -/
theorem Records.Ordered.finish {r : Record} (unnamed : r.handle = none) (code : Code) : (s.finish code r).records.Ordered := by
  obtain ⟨slotted, named, full, arranged, sequenced⟩ := Records.ordered_iff.mp hu
  exact .finished (unnamed ▸ slotted.newcomer named) named full arranged sequenced code

theorem Records.Ordered.hold {r : Record} (unnamed : r.handle = none) (unlatched : r.latched = none) : (s.hold r).records.Ordered := by
  by_cases room : s.records.held.length < 8
  · rw [State.hold_of_room r room]
    exact hu.joinHeld unlatched room
  · obtain ⟨e, a, b, he, split⟩ := Records.exists_earliestHeld (u := s.records) fun h => by simp [h] at room
    have held : e ∈ s.records.held := by simp [split]
    rw [State.hold_of_full r (Nat.not_lt.mp room) he]
    split
    · exact Records.Ordered.finish (s := s.overflowed) hu unnamed _
    · have state := (hu.heldStates e held).1
      have left := hu.complete (List.mem_append_right _ held) (by simp [Record.delivering, state]) .outOfArea
      have fewer : (s.complete .outOfArea e).records.held.length < s.records.held.length := by
        have lists : (s.complete .outOfArea e).records.held = (s.records.unlist e).held :=
          congrArg (fun x => x.2.2.1) (State.finish_ledger (s.onRecords (Records.unlist e)) .outOfArea e)
        rw [lists]
        exact List.length_filter_lt_length_iff_exists.mpr ⟨e, held, by simp⟩
      exact Records.Ordered.joinHeld (s := (s.complete .outOfArea e).overflowed) left unlatched (fewer.trans_le hu.held)

theorem Records.Ordered.create (c : Context) (w : Window) : (s.create (c.alert w)).records.Ordered := by
  have judged (r : Record) : (s.creating.judged r).records.Ordered := hu.of_roll rfl
  cases hm : w.attrs.muted with
  | true =>
    rw [State.create_muted s c w hm, ← State.finish_eq_ended (by decide)]
    exact Records.Ordered.finish (s := s.creating) (hu.of_roll rfl) rfl _
  | false =>
    rw [State.create_unmuted s c w hm]
    split
    · obtain ⟨slotted, named, full, arranged, sequenced⟩ := Records.ordered_iff.mp (judged (s.newRecord c w))
      exact .enterActive (slotted.newcomer named) named full arranged sequenced rfl
    · exact (judged _).hold rfl rfl
end

/-! ## Active records change in place (R126 to R128, R139, R146) -/

/-- Of records with distinct handles the one of a handle changes. -/
theorem map_of_handle {r : Record} {a b : List Record} (distinct : ((a ++ r :: b).map Record.handle).Nodup) (f : Record → Record) :
    ((a ++ r :: b).map fun y => if y.handle == r.handle then f y else y) = a ++ f r :: b := by
  rw [List.map_append, List.map_cons, List.nodup_middle, List.nodup_cons, ← List.map_append] at distinct
  have others (l : List Record) (sub : l ⊆ a ++ b) : (l.map fun y => if y.handle == r.handle then f y else y) = l := by
    refine (List.map_congr_left fun y hy => if_neg fun same => ?_).trans (List.map_id l)
    exact distinct.1 (beq_iff_eq.mp same ▸ List.mem_map_of_mem (sub hy))
  rw [List.map_append, List.map_cons, others a (List.subset_append_left a b), others b (List.subset_append_right a b)]
  simp

/-- A record changes in neither its handle, nor its place in the order of the active list, nor its latched code. -/
structure Record.Stays (x y : Record) : Prop where
  handle : y.handle = x.handle
  attrs : y.attrs = x.attrs
  entered : y.entered = x.entered
  latched : y.latched = x.latched

theorem Record.Stays.refl (x : Record) : x.Stays x := ⟨rfl, rfl, rfl, rfl⟩

section
variable {u v : Records} (hu : u.Ordered)
include hu

/-- Active records change in place, and the sequence in progress with them. -/
theorem Records.Ordered.changed {f : Record → Record} {d : Option Delivery} (stays : ∀ x ∈ u.active, x.Stays (f x))
    (listed : ∀ x ∈ u.active, (f x).state ≠ .held) (sequenced : Records.Sequenced { u with active := u.active.map f, delivery := d }) :
    Records.Ordered { u with active := u.active.map f, delivery := d } := by
  obtain ⟨slotted, named, full, arranged, -⟩ := Records.ordered_iff.mp hu
  have handles : Records.handles { u with active := u.active.map f, delivery := d } = u.handles := by
    have active : (u.active.map f).map Record.handle = u.active.map Record.handle := by
      rw [List.map_map]
      exact List.map_congr_left fun x hx => (stays x hx).handle
    simp only [Records.handles, Records.live, List.map_append, active]
  refine Records.ordered_iff.mpr ⟨?_, ?_, ?_, arranged.map rfl fun x hx => ?_, sequenced⟩
  · exact handles ▸ slotted
  · exact handles ▸ named
  · exact (List.length_map f).trans_le full
  · exact ⟨(stays x hx).attrs, (stays x hx).entered, (stays x hx).latched, listed x hx⟩

/-- Active records change in place and keep their states. -/
theorem Records.Ordered.map {f : Record → Record} (stays : ∀ x ∈ u.active, x.Stays (f x))
    (states : ∀ x ∈ u.active, (f x).state = x.state) : Records.Ordered { u with active := u.active.map f } := by
  refine hu.changed (d := u.delivery) stays (fun x hx => states x hx ▸ (hu.activeStates x hx).1) ?_
  obtain ⟨-, -, -, -, sequenced⟩ := Records.ordered_iff.mp hu
  exact sequenced.map rfl fun x hx => ⟨congrArg (· == RecordState.delivering) (states x hx), fun _ => (stays x hx).handle⟩

/-- An update of one active record is one in its place. -/
theorem Records.Ordered.update_split {r : Record} {a b : List Record} (split : u.active = a ++ r :: b) (f : Record → Record) :
    (u.active.map fun y => if y.handle == r.handle then f y else y) = a ++ f r :: b := by
  rw [split]
  exact map_of_handle (split ▸ hu.handles_nodup.sublist
    (((List.sublist_append_left _ _).trans (List.sublist_append_left _ _)).map _)) f

theorem Records.Ordered.update {r : Record} {f : Record → Record} (stays : ∀ x : Record, x.Stays (f x))
    (states : ∀ x : Record, (f x).state = x.state) : (u.update r f).Ordered := by
  refine hu.map (fun x _ => ?_) fun x _ => ?_
  · split
    · exact stays x
    · exact .refl x
  · split
    · exact states x
    · rfl
end

theorem Records.Ordered.takeStep {s : State} (hu : s.records.Ordered) : s.takeStep.records.Ordered := by
  refine hu.map (fun x _ => ?_) fun x _ => ?_ <;> unfold Record.remindAt <;> split
  · exact ⟨rfl, rfl, rfl, rfl⟩
  · exact .refl x
  · rfl
  · rfl

theorem Records.Ordered.advanceEpoch {s : State} (hu : s.records.Ordered) : s.advanceEpoch.records.Ordered := by
  have decremented : (if s.due.flushCountdown then s.takeDecrement else s).records.Ordered := by
    split
    · exact hu.of_roll rfl
    · exact hu
  have stepped {u : State} (hu : u.records.Ordered) : (if u.due.reminderStep then u.takeStep else u).records.Ordered := by
    split
    · exact hu.takeStep
    · exact hu
  exact stepped decremented

/-! ## A sequence begins, goes on and ends (R123 to R126, R131) -/

/-- The parts of a sequence are some. -/
theorem Record.partOrder_ne_nil (r : Record) : r.partOrder ≠ [] := by
  have some : 1 ≤ partCount r.text.length := by unfold partCount; split <;> omega
  intro none
  have length := congrArg List.length none
  simp only [Record.partOrder, List.length_append, List.length_range', List.length_nil] at length
  split at length <;> omega

section
variable {s : State} (hu : s.records.Ordered)
include hu

/-- The record of the sequence in progress. -/
theorem Records.Ordered.exists_carried {d : Delivery} (hd : s.records.delivery = some d) :
    ∃ r, s.records.carried = [r] ∧ r.delivering = true ∧ r ∈ s.records.active ++ s.records.latched.toList ∧
      s.records.delivering d.slot = some r := by
  obtain ⟨-, -, -, -, sequenced⟩ := Records.ordered_iff.mp hu
  have carries := sequenced.carries
  simp only [hd, Option.toList_some, List.map_cons, List.map_nil] at carries
  obtain ⟨r, only, -⟩ := List.map_eq_singleton_iff.mp carries
  obtain ⟨mem, carried⟩ := List.mem_filter.mp (show r ∈ s.records.carried from only ▸ List.mem_singleton_self r)
  exact ⟨r, only, carried, mem, hu.delivering_eq hd mem (Record.delivering_iff.mp carried)⟩

/-- The last frame of a sequence leaves its record DELIVERED in its place (R126). -/
theorem Records.Ordered.lastFrame_delivers {r : Record} (only : s.records.carried = [r]) (carried : r.delivering = true)
    (active : r ∈ s.records.active) (unlatched : s.records.latched = none) : (s.lastFrame r).records.Ordered := by
  obtain ⟨a, b, split⟩ := List.append_of_mem active
  have still : a.filter Record.delivering ++ b.filter Record.delivering = [] := by
    have length := congrArg List.length only
    simp only [Records.carried, unlatched, split, Option.toList_none, List.append_nil, List.filter_append,
      List.filter_cons_of_pos carried, List.length_append, List.length_cons, List.length_nil] at length
    rw [List.append_eq_nil_iff, ← List.length_eq_zero_iff, ← List.length_eq_zero_iff]
    omega
  rw [State.lastFrame_delivered s (hu.activeStates r active).2, State.countDelivery_eq]
  refine Records.Ordered.recounted (hu.changed (d := none) (fun x _ => ?_) (fun x hx => ?_) ⟨?_, nofun, ?_⟩) _
  · split
    · exact ⟨rfl, rfl, rfl, rfl⟩
    · exact .refl x
  · split
    · exact nofun
    · exact (hu.activeStates x hx).1
  · exact fun x (hx : s.records.latched = some x) => by simp [unlatched] at hx
  · have waits : ({ r.afterSequence s.ack.step with state := .delivered } : Record).delivering = false := rfl
    rw [hu.update_split split, Records.carried, unlatched]
    simp only [Option.toList_none, List.append_nil, List.filter_append, List.filter_cons_of_neg (Bool.eq_false_iff.mp waits), still]
    rfl

/-- The last frame of a sequence carries out the completion latched for its record (R131). -/
theorem Records.Ordered.lastFrame_ends {r : Record} {code : Code} (only : s.records.carried = [r]) (latched : s.records.latched = some r)
    (hl : r.latched = some code) : (s.lastFrame r).records.Ordered := by
  obtain ⟨slotted, named, full, arranged, sequenced⟩ := Records.ordered_iff.mp hu
  let listed := s.records.active ++ s.records.held
  let left := s.onRecords fun u => { u with latched := none, delivery := none }
  have handles : left.records.handles = listed.map Record.handle := congrArg (List.map Record.handle) (List.append_nil listed)
  have perm : s.records.handles.Perm (r.handle :: left.records.handles) := by
    rw [handles, Records.handles, Records.live, latched, List.map_append]
    exact List.perm_append_comm (l₂ := [r.handle])
  have still : s.records.active.filter Record.delivering = [] := by
    have length := congrArg List.length only
    simp only [Records.carried, latched, Option.toList_some, List.filter_append, List.filter_singleton,
      (sequenced.latched r latched).1, cond_true, List.length_append, List.length_cons, List.length_nil] at length
    exact List.length_eq_zero_iff.mp (by omega)
  have ended : (left.finish code r).records.Ordered := by
    refine Records.Ordered.finished (s := left) (slotted.perm perm) (fun h => named (perm.mem_iff.mpr (List.mem_cons_of_mem _ h))) ?_
      (arranged.sublist (.refl _) (.refl _)) ⟨?_, ?_, ?_⟩ code
    · have capacity : s.records.capacity = 15 := by simp [Records.capacity, latched]
      exact (full.trans_eq capacity).trans (Nat.le_succ 15)
    · rintro _ ⟨⟩
    · rintro _ ⟨⟩
    · show List.map _ (List.filter _ (s.records.active ++ [])) = []
      rw [List.append_nil, still]
      rfl
  refine ended.of_roll ?_
  rw [State.lastFrame_latched s hl, State.finish_roll, State.finish_roll, State.countDelivery_eq]
  rfl

/-- The last frame of a sequence: its record is DELIVERED in its place, or ends (R126, R131). -/
theorem Records.Ordered.lastFrame {r : Record} (only : s.records.carried = [r]) : (s.lastFrame r).records.Ordered := by
  obtain ⟨mem, carried⟩ := List.mem_filter.mp (show r ∈ s.records.carried from only ▸ List.mem_singleton_self r)
  cases latched : s.records.latched with
  | none => exact hu.lastFrame_delivers only carried (by simpa [latched] using mem) latched
  | some x =>
    obtain ⟨state, code⟩ := hu.latchedState x latched
    obtain rfl : x = r := by simpa [only] using
      (show x ∈ s.records.carried from List.mem_filter.mpr ⟨by simp [latched], Record.delivering_iff.mpr state⟩)
    obtain ⟨code, hl⟩ := Option.isSome_iff_exists.mp code
    exact hu.lastFrame_ends only latched hl

/-- The next frame of a sequence is taken (R124 to R126). -/
theorem Records.Ordered.takeSequenceFrame {d : Delivery} (hd : s.records.delivery = some d) :
    (s.takeSequenceFrame d).records.Ordered := by
  obtain ⟨slotted, named, full, arranged, sequenced⟩ := Records.ordered_iff.mp hu
  obtain ⟨r, only, -, -, found⟩ := hu.exists_carried hd
  obtain ⟨i, rest, left⟩ := List.exists_cons_of_ne_nil (sequenced.left d hd)
  simp only [State.takeSequenceFrame, left, found]
  cases rest with
  | nil => exact Records.Ordered.lastFrame (s := s.send _ _ _) hu only
  | cons j rest =>
    refine Records.ordered_iff.mpr ⟨slotted, named, full, arranged.sublist (.refl _) (.refl _), sequenced.latched, ?_, ?_⟩
    · rintro _ ⟨⟩
      exact nofun
    · have carries := sequenced.carries
      rw [hd] at carries
      exact carries

/-- A full delivery of an active record begins, where none is in progress (R123, R125). -/
theorem Records.Ordered.beginDelivery {r : Record} (idle : s.records.delivery = none) (hr : r ∈ s.records.active) :
    (s.beginDelivery r).records.Ordered := by
  obtain ⟨-, -, -, arranged, sequenced⟩ := Records.ordered_iff.mp hu
  have none : s.records.carried = [] := by simpa [idle] using sequenced.carries
  obtain ⟨a, b, split⟩ := List.append_of_mem hr
  obtain ⟨still, unlatched⟩ : (a.filter Record.delivering = [] ∧ b.filter Record.delivering = []) ∧
      s.records.latched.toList.filter Record.delivering = [] := by
    simp only [Records.carried, split, List.filter_append, List.append_eq_nil_iff] at none
    obtain ⟨⟨ha, hb⟩, latched⟩ := none
    refine ⟨⟨ha, ?_⟩, latched⟩
    exact List.filter_eq_nil_iff.mpr fun x hx => List.filter_eq_nil_iff.mp hb x (List.mem_cons_of_mem r hx)
  unfold State.beginDelivery
  split
  case h_2 => exact hu
  case h_1 h hh =>
    refine Records.Ordered.takeSequenceFrame (hu.changed (fun x _ => ?_) (fun x hx => ?_) ⟨sequenced.latched, ?_, ?_⟩) rfl
    · split
      · exact ⟨rfl, rfl, rfl, rfl⟩
      · exact .refl x
    · split
      · exact nofun
      · exact (arranged.activeStates x hx).1
    · rintro _ ⟨⟩
      exact r.partOrder_ne_nil
    · have carried : ({ r with state := .delivering } : Record).delivering = true := rfl
      rw [hu.update_split split, Records.carried]
      simp only [List.filter_append, List.filter_cons_of_pos carried, still, unlatched, List.nil_append, List.append_nil]
      simp [hh]

theorem Records.Ordered.takeDeliveryWork (idle : s.records.delivery = none) : s.takeDeliveryWork.records.Ordered := by
  unfold State.takeDeliveryWork
  split
  · next r found => exact hu.beginDelivery idle (List.mem_of_find?_eq_some found)
  · split
    · next r _ =>
      exact Records.Ordered.of_roll (s := s.onRecords (Records.update r fun y => { y with reminder := none }))
        (hu.update (fun _ => ⟨rfl, rfl, rfl, rfl⟩) fun _ => rfl) rfl
    · exact hu

theorem Records.Ordered.arbitrateP : s.arbitrateP.records.Ordered := by
  have forwarded : s.takeForwarded.records = s.records := by unfold State.takeForwarded; split <;> rfl
  have replied : s.takeReply.records = s.records := by unfold State.takeReply; split <;> rfl
  unfold State.arbitrateP
  split
  · next d hd => exact hu.takeSequenceFrame hd
  · next idle =>
    split_ifs
    · exact replied.symm ▸ hu
    · exact forwarded.symm ▸ hu
    · exact hu.takeDeliveryWork idle
    · exact hu
    · exact forwarded.symm ▸ hu

end

/-! ## The record a request names (R128, R139) -/

section
variable {s : State} (hu : s.records.Ordered)
include hu

theorem Records.Ordered.acknowledge (p : List Byte) : (s.acknowledge p).records.Ordered := by
  unfold State.acknowledge
  split
  · exact hu
  · next r found =>
    have live : r ∈ s.records.active ++ s.records.held ∨ s.records.latched = some r := by
      unfold Records.find at found
      dsimp only at found
      split at found
      · simpa [Records.live, or_assoc] using List.mem_of_find?_eq_some found
      · cases found
    split
    · exact hu
    · exact hu
    · next state =>
      rcases live with listed | latched
      · exact hu.complete listed (by simp [Record.delivering, state]) _
      · have := (hu.latchedState r latched).1
        simp [state] at this
    · next state =>
      show (if r.latched.isNone then s.latch .acknowledged r else s).records.Ordered
      split
      · next unlatched =>
        rcases live with listed | latched
        · have carried := Record.delivering_iff.mpr state
          exact hu.latch ((hu.listed listed).2 carried) carried _
        · have := (hu.latchedState r latched).2
          simp [Option.isNone_iff_eq_none.mp unlatched] at this
      · exact hu

theorem Records.Ordered.fetchRecord (p : List Byte) : (s.fetchRecord p).records.Ordered := by
  unfold State.fetchRecord
  split
  · exact hu
  · split
    · exact hu
    · exact hu
    · exact hu
    · exact hu.update (fun _ => ⟨rfl, rfl, rfl, rfl⟩) fun _ => rfl

end

end Sys2Proof.Machine
end

section
/-!
PROOFS. The held list judged and examined (R93, R104, R109, R110): what the judgement of one held record leaves, what the judgement of all leaves, and the
examination at an epoch as one equation.
-/

namespace Sys2Proof.Machine

/-! ## A record is released with its slot (R109, R121) -/

section
variable {s : State} {r : Record} (distinct : (r.handle :: (s.records.active ++ s.records.held).map Record.handle).Nodup)
include distinct

/-- A record that enters the active list, with or without a slot of its own, leaves the held list as it was. -/
theorem State.enterActive_keeps_held : (s.enterActive r).records.held = s.records.held := by
  have seated (n : Nat) (u : Records) : (u.seat n).held = u.held := by
    obtain ⟨active, free, h⟩ := u.seat_eq n
    rw [h]
  obtain ⟨a, b, hp⟩ := s.records.exists_placed r
  rcases Nat.lt_or_ge s.records.active.length s.records.capacity with room | full
  · rw [State.enterActive_room hp room]
    exact seated _ _
  · obtain ⟨before, v, after, -, -, run⟩ := State.enterActive_full distinct hp full
    rw [run]
    exact seated _ _

omit distinct in
/-- A record with a slot enters an active list that has room. -/
theorem State.enterActive_released (named : ∀ y ∈ r :: s.records.active, y.handle.isSome = true)
    (room : s.records.active.length < s.records.capacity) :
    ∃ a b, s.records.active = a ++ b ∧
      s.enterActive r = s.onRecords fun u => u.entering (a ++ r.enteredAs u.entries :: b) := by
  obtain ⟨a, b, hp⟩ := s.records.exists_placed r
  refine ⟨a, b, hp.split, (State.enterActive_room hp room).trans ?_⟩
  have seated : ∀ y ∈ a ++ r.enteredAs s.records.entries :: b, y.handle.isSome = true := by
    intro y hy
    rw [hp.split] at named
    simp only [List.mem_append, List.mem_cons, forall_eq_or_imp] at hy named
    rcases hy with hy | rfl | hy
    · exact named.2 y (.inl hy)
    · exact named.1
    · exact named.2 y (.inr hy)
  exact State.onRecords_eq
    (Records.seat_seated (u := s.records.entering (a ++ r.enteredAs s.records.entries :: b)) seated _)
end

/-! ## The judgement of held records (R104, R109) -/

/-- Whether a held record is released from a position (R104). -/
def Position.releases (p : Position) (r : Record) : Bool := (p.verdict r.area).presents r.attrs

/-- A record with the verdict of its area from a position. -/
def Position.judged (p : Position) (r : Record) : Record := { r with verdict := some (p.verdict r.area) }

/-- These held records have been judged: but for the held list, this is what has become of the part. -/
structure State.Judges (rs : List Record) (s t : State) : Prop where
  rest : t = { s with area := t.area, records := t.records, report := t.report }
  area : t.area =
    { s.area with
      counters :=
        { s.area.counters with
          recordsReleased := bumpBy (rs.countP s.area.position.releases) s.area.counters.recordsReleased } }
  latched : t.records.latched = s.records.latched
  room : s.records.active.length + rs.countP s.area.position.releases ≤ s.records.capacity →
    t.report = s.report ∧ t.records.active.length = s.records.active.length + rs.countP s.area.position.releases ∧
      s.records.active ⊆ t.records.active ∧
      ∀ x ∈ rs, s.area.position.releases x = true →
        ∃ n, (s.area.position.judged x).enteredAs n ∈ t.records.active

theorem State.Judges.nil (s : State) : State.Judges [] s s where
  rest := rfl
  area := by simp
  latched := rfl
  room _ := ⟨rfl, rfl, List.Subset.refl _, by simp⟩

theorem State.Judges.cons {r : Record} {rs : List Record} {s t u : State} (h : State.Judges [r] s t) (h' : State.Judges rs t u) :
    State.Judges (r :: rs) s u := by
  have position : t.area.position = s.area.position := by rw [h.area]
  have counted : (r :: rs).countP s.area.position.releases = [r].countP s.area.position.releases + rs.countP s.area.position.releases :=
    List.countP_append (l₁ := [r])
  have capacity : t.records.capacity = s.records.capacity := by rw [Records.capacity, h.latched, Records.capacity]
  refine ⟨?_, ?_, h'.latched.trans h.latched, fun room => ?_⟩
  · rw [h'.rest, h.rest]
  · rw [h'.area, position, h.area, counted, ← bumpBy_bumpBy]
  · rw [counted, ← Nat.add_assoc] at room
    obtain ⟨report, length, active, released⟩ := h.room ((Nat.le_add_right _ _).trans room)
    rw [← length, ← position, ← capacity] at room
    obtain ⟨report', length', active', released'⟩ := h'.room room
    refine ⟨report'.trans report, ?_, fun x hx => active' (active hx), fun x hx hr => ?_⟩
    · rw [length', position, length, counted, Nat.add_assoc]
    · rcases List.mem_cons.mp hx with rfl | hx
      · obtain ⟨n, hn⟩ := released x (List.mem_singleton_self x) hr
        exact ⟨n, active' hn⟩
      · exact position ▸ released' x hx (position ▸ hr)

/-- The record unit with these records held. -/
def Records.holding (held : List Record) (u : Records) : Records := { u with held := held }

/-- A record has been released, and these records stay held (R109, R113). -/
def State.releasing (held : List Record) (s : State) : State :=
  (s.onRecords (Records.holding held)).countArea fun c => { c with recordsReleased := bump c.recordsReleased }

section
variable {s : State} {r : Record} {kept rest : List Record} (hu : s.records.Ordered) (hl : s.records.held = kept ++ r :: rest)
include hu hl

theorem Records.Ordered.held_nodup : ((kept ++ r :: rest).map Record.handle).Nodup :=
  hl ▸ hu.handles_nodup.sublist (((List.sublist_append_right _ _).trans (List.sublist_append_left _ _)).map _)

/-- A held record is out of the held list, and its slot still its own. -/
theorem Records.Ordered.releasing :
    Slotted s.records.free s.records.generations (r.handle :: (s.records.holding (kept ++ rest)).handles) ∧
      none ∉ (s.records.holding (kept ++ rest)).handles ∧ (s.records.holding (kept ++ rest)).Arranged ∧
      (s.records.holding (kept ++ rest)).Sequenced := by
  obtain ⟨slotted, named, -, arranged, sequenced⟩ := Records.ordered_iff.mp hu
  have perm : s.records.handles.Perm (r.handle :: (s.records.holding (kept ++ rest)).handles) := by
    rw [Records.handles, Records.live, hl]
    simp only [Records.handles, Records.live, Records.holding, List.append_assoc, List.map_append, List.cons_append, List.map_cons]
    rw [← List.append_assoc, ← List.append_assoc]
    exact List.perm_middle.trans (by simp)
  refine ⟨slotted.perm perm, fun h => named (perm.mem_iff.mpr (List.mem_cons_of_mem _ h)), ?_, sequenced.congr rfl⟩
  refine arranged.sublist (.refl _) ?_
  rw [hl]
  exact (List.sublist_cons_self r rest).append_left kept

/-- A held record that stays held takes its verdict in its place. -/
theorem State.judgeHeld_kept (hr : s.area.position.releases r = false) :
    s.judgeHeld r = s.onRecords (Records.holding (kept ++ s.area.position.judged r :: rest)) := by
  refine (if_neg (Bool.eq_false_iff.mp hr)).trans (State.onRecords_eq ?_)
  rw [Records.rejudge, hl, map_of_handle (hu.held_nodup hl)]
  rfl

/-- A held record that is presented is released. -/
theorem State.judgeHeld_released (hr : s.area.position.releases r = true) :
    s.judgeHeld r = (s.releasing (kept ++ rest)).enterActive (s.area.position.judged r) := by
  have left : s.records.releaseHeld r = s.records.holding (kept ++ rest) := by
    rw [Records.releaseHeld, hl, filter_ne_of_nodup (f := Record.handle) (hu.held_nodup hl), Records.holding]
  refine (if_pos hr).trans ?_
  rw [State.onRecords_eq left]
  rfl

/-- A held record judged and still held. -/
theorem State.Judges.one_kept (hr : s.area.position.releases r = false) :
    (s.judgeHeld r).records.Ordered ∧ (s.judgeHeld r).records.held = kept ++ s.area.position.judged r :: rest ∧
      State.Judges [r] s (s.judgeHeld r) := by
  rw [State.judgeHeld_kept hu hl hr]
  obtain ⟨slotted, named, full, arranged, sequenced⟩ := Records.ordered_iff.mp hu
  have handles : (s.records.holding (kept ++ s.area.position.judged r :: rest)).handles = s.records.handles := by
    rw [Records.handles, Records.handles, Records.live, Records.live, hl]
    simp only [Records.holding, List.map_append, List.map_cons]
    rfl
  have stays (x : Record) (hx : x ∈ kept ++ s.area.position.judged r :: rest) : x.state = .held ∧ x.latched = none := by
    obtain ⟨y, hy, state, latched⟩ : ∃ y ∈ s.records.held, x.state = y.state ∧ x.latched = y.latched := by
      rw [hl]
      simp only [List.mem_append, List.mem_cons] at hx
      rcases hx with hx | rfl | hx
      · exact ⟨x, by simp [hx], rfl, rfl⟩
      · exact ⟨r, by simp, rfl, rfl⟩
      · exact ⟨x, by simp [hx], rfl, rfl⟩
    rw [state, latched]
    exact arranged.heldStates y hy
  refine ⟨Records.ordered_iff.mpr ⟨?_, ?_, full, ⟨?_, arranged.order, arranged.entered, stays, arranged.activeStates⟩, sequenced.congr rfl⟩,
    rfl, ⟨rfl, by simp [hr], rfl, fun _ => ⟨rfl, by simp [hr, Records.holding], List.Subset.refl _, by simp [hr]⟩⟩⟩
  · exact handles ▸ slotted
  · exact handles ▸ named
  · have held := arranged.held
    rw [hl, List.length_append, List.length_cons] at held
    exact (List.length_append ..).trans_le held

/-- A held record judged and released: it stands on the active list, in its slot, where there is room. -/
theorem State.Judges.one_released (hr : s.area.position.releases r = true) :
    (s.judgeHeld r).records.Ordered ∧ (s.judgeHeld r).records.held = kept ++ rest ∧ State.Judges [r] s (s.judgeHeld r) := by
  rw [State.judgeHeld_released hu hl hr]
  have member : r ∈ s.records.held := by simp [hl]
  obtain ⟨slotted, named, arranged, sequenced⟩ := hu.releasing hl
  have received := State.Received.enterActive (s.releasing (kept ++ rest)) (s.area.position.judged r)
  have one : [r].countP s.area.position.releases = 1 := by simp [hr]
  have distinct := slotted.distinct.sublist (((List.sublist_append_left _ _).map Record.handle).cons_cons r.handle)
  refine ⟨.enterActive (s := s.releasing (kept ++ rest)) slotted named hu.active arranged sequenced (hu.heldStates r member).2,
    State.enterActive_keeps_held (s := s.releasing (kept ++ rest)) distinct, ?_, ?_, received.latched, fun room => ?_⟩
  · exact received.rest
  · rw [State.enterActive_area, one, bumpBy_one]
    rfl
  · rw [one] at room
    have seated (y : Record) (hy : y ∈ s.area.position.judged r :: s.records.active) : y.handle.isSome = true := by
      rcases List.mem_cons.mp hy with rfl | hy
      · exact hu.handles r (by simp [Records.live, member])
      · exact hu.handles y (by simp [Records.live, hy])
    obtain ⟨a, b, split, run⟩ := State.enterActive_released (s := s.releasing (kept ++ rest)) seated room
    have active : ((s.releasing (kept ++ rest)).enterActive (s.area.position.judged r)).records.active =
        a ++ (s.area.position.judged r).enteredAs s.records.entries :: b := by rw [run]; rfl
    have before : s.records.active = a ++ b := split
    rw [active, before, one]
    refine ⟨by rw [run]; rfl, by simp [Nat.add_assoc], fun x hx => ?_, fun x hx _ => ⟨s.records.entries, ?_⟩⟩
    · simp only [List.mem_append, List.mem_cons] at hx ⊢
      tauto
    · simp [List.mem_singleton.mp hx]
end

/-- Held records are judged one after another, oldest first: those that stay held keep their places with their verdicts. -/
theorem State.Judges.foldl {rest : List Record} : ∀ {s : State} {kept : List Record}, s.records.Ordered → s.records.held = kept ++ rest →
    (rest.foldl State.judgeHeld s).records.Ordered ∧
      (rest.foldl State.judgeHeld s).records.held =
        kept ++ (rest.filter fun x => !s.area.position.releases x).map s.area.position.judged ∧
      State.Judges rest s (rest.foldl State.judgeHeld s) := by
  induction rest with
  | nil => exact fun hu hl => ⟨hu, hl, .nil _⟩
  | cons r rest ih =>
    intro s kept hu hl
    have position {t : State} (h : State.Judges [r] s t) : t.area.position = s.area.position := by rw [h.area]
    cases hr : s.area.position.releases r with
    | false =>
      obtain ⟨ordered, held, judged⟩ := State.Judges.one_kept hu hl hr
      obtain ⟨ordered', held', judged'⟩ := ih (kept := kept ++ [s.area.position.judged r]) ordered (by simpa using held)
      refine ⟨ordered', held'.trans ?_, judged.cons judged'⟩
      simp [hr, position judged]
    | true =>
      obtain ⟨ordered, held, judged⟩ := State.Judges.one_released hu hl hr
      obtain ⟨ordered', held', judged'⟩ := ih ordered held
      refine ⟨ordered', held'.trans ?_, judged.cons judged'⟩
      simp [hr, position judged]

/-! ## The examination of the held list (R110) -/

theorem State.endAll_countArea {code : Code} (hc : code ≠ .acknowledged) (rs : List Record) (f : AreaCounters → AreaCounters) (s : State) :
    (s.countArea f).endAll code rs = (s.endAll code rs).countArea f := by
  rw [State.endAll_eq hc, State.endAll_eq hc]
  rfl

/-- Records that are not DELIVERING end OUT-OF-AREA, each counted as ended while held. -/
theorem State.foldl_outOfArea {rs : List Record} (still : ∀ r ∈ rs, r.state ≠ .delivering) (s : State) :
    rs.foldl (fun s r => (s.complete .outOfArea r).countArea fun c => { c with heldLifetimeEnded := bump c.heldLifetimeEnded }) s =
      (s.endAll .outOfArea rs).countArea fun c => { c with heldLifetimeEnded := bumpBy rs.length c.heldLifetimeEnded } := by
  induction rs generalizing s with
  | nil => simp [State.endAll, State.countArea, State.onArea]
  | cons r rs ih =>
    have ended : s.endAll .outOfArea (r :: rs) = (s.complete .outOfArea r).endAll .outOfArea rs :=
      congrArg (State.endAll .outOfArea rs) (if_neg (still r (by simp)))
    rw [List.foldl_cons, ih fun x hx => still x (List.mem_cons_of_mem r hx), State.endAll_countArea (by decide), ended, List.length_cons]
    simp only [bumpBy_succ]
    rfl

/-- The held records whose lifetime has ended. -/
def State.heldPast (s : State) : List Record := s.records.held.filter (Record.lifetimeOver s.time.epoch)

/-- The examination ends the held records past their lifetime, and counts them. -/
theorem State.examineHeld_eq {s : State} (hu : s.records.Ordered) :
    s.examineHeld =
      (s.endAll .outOfArea s.heldPast).countArea fun c => { c with heldLifetimeEnded := bumpBy s.heldPast.length c.heldLifetimeEnded } :=
  State.foldl_outOfArea (fun r hr => by simp [(hu.heldStates r (List.mem_filter.mp hr).1).1]) s

theorem Records.Ordered.examineHeld {s : State} (hu : s.records.Ordered) : s.examineHeld.records.Ordered := by
  rw [State.examineHeld_eq hu]
  exact (hu.endSublist .outOfArea (List.filter_sublist.trans (List.sublist_append_right _ _))).of_roll rfl

/-- An accepted position judges every held record (R93, R109). -/
theorem Records.Ordered.setPosition {s : State} (hu : s.records.Ordered) (p : List Byte) : (s.setPosition p).records.Ordered := by
  unfold State.setPosition
  split
  · exact ((State.Judges.foldl (kept := []) (s := (s.onArea _).countArea _) hu rfl).1.of_roll rfl :)
  · exact hu.of_roll rfl

end Sys2Proof.Machine
end

section
/-!
PROOFS. The operations that leave the record unit as it is, one lemma for each, in the order of the chapters.
-/

namespace Sys2Proof.Machine

section
variable (s : State)

/-! ## The link path (R11 to R18) -/

theorem State.sortM_records (f : Frame) : (s.sortM f).records = s.records := by
  unfold State.sortM
  dsimp only
  split_ifs <;> rfl

theorem State.sortP_records (f : Frame) : (s.sortP f).records = s.records := by
  unfold State.sortP
  dsimp only
  split_ifs <;> rfl

theorem State.frameSent_records (port : Port) : (s.frameSent port).records = s.records := by
  unfold State.frameSent
  split
  · next x _ => cases x.source <;> rfl
  · rfl

theorem State.arbitrateM_records : s.arbitrateM.records = s.records := by
  unfold State.arbitrateM
  split <;> split <;> rfl

/-! ## The reassembly unit, but for what it resolves -/

@[simp] theorem State.contextError_records (n : Nat) (c : Context) : (s.contextError n c).records = s.records := by
  unfold State.contextError
  split <;> rfl

@[simp] theorem State.afterAccept_records (n : Nat) (c : Context) : (s.afterAccept n c).records = s.records := by
  unfold State.afterAccept
  split
  · split
    · rfl
    · exact State.contextError_records _ n _
  · rfl

theorem State.join_records (n : Nat) (c : Context) (f : Fragment) : (s.join n c f).records = s.records := by
  unfold State.join
  dsimp only
  split_ifs
  · exact State.contextError_records _ n _
  · exact State.contextError_records _ n _
  · exact State.afterAccept_records _ n _
  · rfl
  · exact State.afterAccept_records _ n _

theorem State.allocateFor_records (f : Fragment) (rank : Nat) : (s.allocateFor f rank).records = s.records := by
  unfold State.allocateFor
  split
  · exact State.afterAccept_records _ _ _
  · split
    · exact State.afterAccept_records _ _ _
    · rfl

theorem State.takeNoticeFragment_records (f : Fragment) (w : Window) : (s.takeNoticeFragment f w).records = s.records := by
  unfold State.takeNoticeFragment
  split
  · rfl
  · split
    · exact s.join_records _ _ f
    · exact s.allocateFor_records f _

/-! ## The history store (R173 to R187) -/

@[simp] theorem State.countHistory_records (f : HistoryCounters → HistoryCounters) : (s.countHistory f).records = s.records := rfl
@[simp] theorem State.onSector_records (k : Nat) (f : Sector → Sector) : (s.onSector k f).records = s.records := rfl
@[simp] theorem State.onProvisioningSlot_records (n : Nat) (f : ProvisioningSlot → ProvisioningSlot) :
    (s.onProvisioningSlot n f).records = s.records := rfl
@[simp] theorem State.loadOverride_records (n : Nat) : (s.loadOverride n).records = s.records := rfl
@[simp] theorem State.finishClear_records (tag : Byte) : (s.finishClear tag).records = s.records := rfl
@[simp] theorem State.endJob_records (j : ProvisioningJob) (result : Result) : (s.endJob j result).records = s.records := rfl

@[simp] theorem State.offer_records (k : Key) : (s.offer k).records = s.records := by
  rcases s.offer_cases k with ⟨_, h⟩ | ⟨_, _, h⟩ | ⟨_, h⟩ <;> rw [h] <;> rfl

@[simp] theorem State.offerAll_records (ks : List Key) : (s.offerAll ks).records = s.records := by
  unfold State.offerAll
  induction ks generalizing s with
  | nil => rfl
  | cons k ks ih => exact (ih _).trans (s.offer_records k)

@[simp] theorem State.sweepUnpersisted_records : s.sweepUnpersisted.records = s.records := by rw [State.sweepUnpersisted_eq]; rfl

@[simp] theorem State.checkRamOnly_records : s.checkRamOnly.records = s.records := by
  unfold State.checkRamOnly
  split <;> rfl

@[simp] theorem State.openSuccessor_records : s.openSuccessor.records = s.records := by
  unfold State.openSuccessor
  split
  · split <;> rfl
  · rfl

@[simp] theorem State.closeCurrent_records (k : Nat) : (s.closeCurrent k).records = s.records := by
  unfold State.closeCurrent
  split <;> rfl

@[simp] theorem State.closeWhenUsed_records (k : Nat) : (s.closeWhenUsed k).records = s.records := by
  unfold State.closeWhenUsed
  split
  · exact s.closeCurrent_records k
  · rfl

@[simp] theorem State.examineReclaim_records : s.examineReclaim.records = s.records := by
  rcases s.examineReclaim_cases with ⟨_, k, _, h⟩ | h <;> rw [h]
  exact State.offerAll_records _ _

@[simp] theorem State.settleClear_records : s.settleClear.records = s.records := by
  unfold State.settleClear
  cases s.store.clear with
  | none => rfl
  | some c =>
    dsimp only
    cases (s.sectorsIn .erased).head? <;> split_ifs <;> simp

theorem State.startWrite_records : s.startWrite.records = s.records := by
  unfold State.startWrite
  split
  · split <;> rfl
  · rfl

theorem State.writeCommitted_records (w : SlotProgram) : (s.writeCommitted w).records = s.records := by
  unfold State.writeCommitted
  dsimp only
  rw [State.sweepUnpersisted_records]
  split <;> rfl

theorem State.writeFailed_records (w : SlotProgram) (x : Slot) : (s.writeFailed w x).records = s.records := by
  unfold State.writeFailed
  dsimp only
  split_ifs <;> simp

theorem State.slotProgramEnd_records (verify : SlotVerify) (w : SlotProgram) : (s.slotProgramEnd verify w).records = s.records := by
  unfold State.slotProgramEnd State.slotUsed
  rw [State.examineReclaim_records, State.closeWhenUsed_records]
  cases verify
  · exact State.writeCommitted_records _ w
  · exact State.writeFailed_records _ w _
  · exact State.writeFailed_records _ w _

theorem State.startAmend_records : s.startAmend.records = s.records := by
  unfold State.startAmend
  split <;> rfl

theorem State.opened_records (k : Nat) (q : Half) : (s.opened k q).records = s.records := by
  unfold State.opened
  split
  · split <;> rfl
  · rfl

theorem State.amendEnd_records (passed : Bool) (r : AmendRequest) : (s.amendEnd passed r).records = s.records := by
  unfold State.amendEnd
  dsimp only
  split
  · unfold State.amendPassed
    dsimp only
    split
    · exact State.opened_records _ _ _
    · rw [State.examineReclaim_records, State.openSuccessor_records]
      rfl
    · exact State.settleClear_records _
    · rfl
  · unfold State.amendFailed
    dsimp only
    split_ifs
    · rfl
    · rfl
    · rw [State.settleClear_records, State.openSuccessor_records, State.checkRamOnly_records]
      rfl

theorem State.startErase_records : s.startErase.records = s.records := by
  unfold State.startErase
  split <;> rfl

theorem State.endErase_records (passed : Bool) (k : Nat) : (s.endErase passed k).records = s.records := by
  unfold State.endErase
  dsimp only
  split
  · rw [State.erasePassed, State.settleClear_records, State.examineReclaim_records, State.openSuccessor_records]
    rfl
  · rw [State.eraseFailed, State.settleClear_records, State.examineReclaim_records, State.checkRamOnly_records]
    rfl

theorem State.provisioningEnd_records (passed : Bool) (j : ProvisioningJob) : (s.provisioningEnd passed j).records = s.records := by
  cases passed with
  | true => cases h : j.target <;> simp [State.provisioningEnd, State.provisioningPassed, h]
  | false =>
    simp only [State.provisioningEnd, State.provisioningFailed, Bool.false_eq_true, if_false]
    cases j.target with
    | copy n b =>
      dsimp only
      split <;> simp
    | lock again => cases again <;> simp

/-! ## Requests (R32 to R39, R185, R186, R201) -/

theorem State.loadWindow_records (p : List Byte) : (s.loadWindow p).records = s.records := by
  unfold State.loadWindow
  dsimp only
  split
  · rfl
  · split_ifs <;> rfl

theorem State.muteWindow_records (p : List Byte) : (s.muteWindow p).records = s.records := by
  unfold State.muteWindow
  dsimp only
  split
  · rfl
  · split_ifs <;> rfl

theorem State.readWindow_records (p : List Byte) : (s.readWindow p).records = s.records := by
  unfold State.readWindow
  dsimp only
  split <;> rfl

theorem State.provision_records (p : List Byte) : (s.provision p).records = s.records := by
  unfold State.provision
  dsimp only
  split
  · rfl
  · split_ifs
    · rfl
    · rfl
    · rfl
    · split <;> rfl

theorem State.lockProvision_records (p : List Byte) : (s.lockProvision p).records = s.records := by
  unfold State.lockProvision
  dsimp only
  split_ifs <;> rfl

theorem State.configure_records (p : List Byte) : (s.configure p).records = s.records := by
  unfold State.configure
  split <;> rfl

theorem State.setTime_records (p : List Byte) : (s.setTime p).records = s.records :=
  OnlyChanges.foldl_putEntry _ _ _ .records (by simp)

theorem State.clearHistory_records (p : List Byte) : (s.clearHistory p).records = s.records := by
  unfold State.clearHistory
  split
  · rfl
  · exact (State.settleClear_records _).trans (OnlyChanges.refillIndex s.reserve .records (by simp))

/-- GET COUNTERS clears at most counters of the record unit (R197). -/
theorem State.getCounters_roll (p : List Byte) : (s.getCounters p).roll = s.roll := by
  have cleared (u : State) (group : Nat) : (u.clearGroup group).roll = u.roll := by
    unfold State.clearGroup
    split <;> rfl
  unfold State.getCounters
  dsimp only
  split
  · rfl
  · split_ifs
    · rfl
    · exact cleared _ _
    · rfl

/-! ## The events of an epoch -/

theorem State.sweepContexts_records : s.sweepContexts.records = s.records := by rw [State.sweepContexts_eq]; rfl

theorem State.checkPosition_records : s.checkPosition.records = s.records := by
  unfold State.checkPosition
  split <;> rfl

end

end Sys2Proof.Machine
end

section
/-!
PROOFS. What every step keeps of the record unit (R106, R115, R118 to R121, R126, R131): slots, handles, the bounds and the order of the lists, one
sequence and one latched record at most.
-/

namespace Sys2Proof.Machine

/-- An operation keeps the record unit in order. -/
def State.KeepsOrder (s t : State) : Prop := s.records.Ordered → t.records.Ordered

section
variable {s t u : State}

theorem State.KeepsOrder.trans (h : s.KeepsOrder t) (h' : t.KeepsOrder u) : s.KeepsOrder u := h' ∘ h

theorem State.KeepsOrder.of_roll (h : t.roll = s.roll) : s.KeepsOrder t := fun hu => hu.of_roll h

theorem State.KeepsOrder.of_records (h : t.records = s.records) : s.KeepsOrder t := fun hu => h ▸ hu

/-- An operation that changes no piece of the record unit. -/
theorem OnlyChanges.keepsOrder {xs : List Piece} (h : OnlyChanges xs s t) (kept : Piece.records ∉ xs) : s.KeepsOrder t :=
  .of_records (h .records kept)

/-- An event whose effect keeps the order. -/
theorem State.KeepsOrder.of_occur {ready : Bool} {effect : State → State} (h : s.occur ready effect = .next t)
    (hu : s.KeepsOrder (effect s)) : s.KeepsOrder t := by
  rcases State.occur_cases h with ⟨_, _, rfl⟩ | ⟨_, rfl⟩
  · exact hu
  · exact id

theorem State.KeepsOrder.of_silent {ready : Bool} {effect : State → State} (h : s.occur ready effect = .next t)
    (hu : (effect s).records = s.records) : s.KeepsOrder t := .of_occur h (.of_records hu)

/-- A request, whatever its checks find (R195). -/
theorem State.KeepsOrder.of_request {ready : Bool} {r : Request} {own : List Byte → State → State}
    (h : s.occur ready (State.carryOut r own) = .next t) (ho : ∀ p (u : State), u.KeepsOrder (own p u)) : s.KeepsOrder t := by
  refine .of_occur h ?_
  unfold State.carryOut
  dsimp only
  split
  · exact .of_records rfl
  · exact ho _ s.popRequest

theorem State.KeepsOrder.of_silent_request {ready : Bool} {r : Request} {own : List Byte → State → State}
    (h : s.occur ready (State.carryOut r own) = .next t) (ho : ∀ p (u : State), (own p u).records = u.records) : s.KeepsOrder t :=
  .of_request h fun p u => .of_records (ho p u)

/-! ## Notices, withdrawals and completions (R58, R76 to R80) -/

theorem State.KeepsOrder.endKey (code : Code) (k : Key) (s : State) : s.KeepsOrder (s.endKey code k) := fun hu => hu.endKey code k

/-- An entry put and counted. -/
theorem State.KeepsOrder.entered (h : s.KeepsOrder u) (f : EntryFields) (count : HistoryCounters → HistoryCounters) :
    s.KeepsOrder ((u.putEntry f).countHistory count) :=
  h.trans ((OnlyChanges.putEntry f u).keepsOrder (by simp))

variable (s)

theorem State.KeepsOrder.makeRoom : s.KeepsOrder s.makeRoom := (OnlyChanges.makeRoom s).keepsOrder (by simp)

theorem State.KeepsOrder.takeNotice (k : Key) (r : BitVec 4) (horizon : Nat) : s.KeepsOrder (s.takeNotice k r horizon) := by
  unfold State.takeNotice
  split
  · exact (State.KeepsOrder.makeRoom s).entered _ _
  · exact (State.KeepsOrder.endKey _ k s).entered _ _
  · exact (State.KeepsOrder.endKey _ k s).entered _ _
  · exact id

theorem State.KeepsOrder.takeWithdrawal (k : Key) (r : BitVec 4) (horizon : Nat) : s.KeepsOrder (s.takeWithdrawal k r horizon) := by
  unfold State.takeWithdrawal
  split
  · exact (State.KeepsOrder.makeRoom s).entered _ _
  · exact (State.KeepsOrder.endKey _ k s).entered _ _
  · exact State.KeepsOrder.entered (u := s) id _ _
  · exact id
  · exact id

theorem State.KeepsOrder.settleCompletion (n : Nat) (c : Context) : s.KeepsOrder (s.settleCompletion n c) := by
  unfold State.settleCompletion
  split
  · exact id
  · next w _ =>
    split
    · exact id
    · exact (State.KeepsOrder.takeNotice s _ _ _).trans fun hu => hu.create c w

theorem State.KeepsOrder.finishCompletion : s.KeepsOrder s.finishCompletion := by
  unfold State.finishCompletion
  split
  · exact id
  · dsimp only
    split
    · exact State.KeepsOrder.settleCompletion (s.onIntake _) _ _
    · exact id

theorem State.KeepsOrder.takePayload (p : List Byte) : s.KeepsOrder (s.takePayload p) := by
  unfold State.takePayload
  split
  · exact id
  · split
    · exact (OnlyChanges.takeUnlisted s p).keepsOrder (by simp)
    · split
      · exact State.KeepsOrder.takeWithdrawal (s.countIntake _) _ _ _
      · exact .of_records (s.takeNoticeFragment_records _ _)

theorem State.KeepsOrder.takeOldest (interrupted : Bool) (p : List Byte) : s.KeepsOrder (s.takeOldest interrupted p) := by
  have taken : s.KeepsOrder (s.popFragment.takePayload p) := State.KeepsOrder.takePayload s.popFragment p
  unfold State.takeOldest
  dsimp only
  split
  · exact taken
  · exact taken.trans (.finishCompletion _)

end

/-! ## Resets (R138) -/

theorem State.endReset_ordered (soft : Bool) (rate : BitVec 2) (worn : Nat) (s : State) : (s.endReset soft rate worn).records.Ordered := by
  obtain ⟨a, x, left, -⟩ := s.endReset_cases soft rate worn
  rw [left]
  exact Records.reset_ordered

/-! ## Every step -/

theorem exec_keepsOrder {s t : State} (c : Instr) (h : exec c s = .next t) : s.KeepsOrder t := by
  cases c with
  | powerOnReset rate worn =>
    cases h
    exact fun _ => State.endReset_ordered _ _ _ _
  | pinReset rate worn => exact .of_occur h fun _ => State.endReset_ordered _ _ _ _
  | scanEnd => exact .of_occur h ((OnlyChanges.endScan s).keepsOrder (by simp))
  | epoch => exact .of_occur h fun hu => hu.advanceEpoch
  | contextTimeout =>
    rw [exec, execContextTimeout] at h
    exact .of_silent h (State.sweepContexts_records _)
  | expirySweep =>
    rw [exec, execExpirySweep] at h
    exact .of_occur h ((OnlyChanges.sweepExpired (s.onDue _)).keepsOrder (by simp))
  | positionStale =>
    rw [exec, execPositionStale] at h
    exact .of_silent h (State.checkPosition_records _)
  | heldLifetimeEnd =>
    rw [exec, execHeldLifetimeEnd] at h
    exact .of_occur h fun hu => Records.Ordered.examineHeld (s := s.onDue _) hu
  | recordExpiry =>
    rw [exec, execRecordExpiry] at h
    exact .of_occur h fun hu =>
      Records.Ordered.endSublist (s := s.onDue _) _ hu (List.filter_sublist.trans (List.sublist_append_left _ _))
  | flushCountdown => exact .of_silent h rfl
  | reminderStep => exact .of_occur h fun hu => hu.takeStep
  | headerEnd port byte => exact .of_silent h rfl
  | frameEnd port byte => exact .of_silent h rfl
  | gapError port => exact .of_silent h rfl
  | mSorter =>
    rw [exec, execMSorter] at h
    split at h
    · exact .of_silent h (s.sortM_records _)
    · exact .of_silent h rfl
  | pSorter =>
    rw [exec, execPSorter] at h
    split at h
    · exact .of_silent h (s.sortP_records _)
    · exact .of_silent h rfl
  | holdInput port level =>
    cases h
    exact id
  | pPortArbiter => exact .of_occur h fun hu => hu.arbitrateP
  | mPortArbiter => exact .of_silent h s.arbitrateM_records
  | frameSent port => exact .of_silent h (s.frameSent_records port)
  | takeFragment interrupted =>
    rw [exec, execTakeFragment] at h
    split at h
    · exact .of_occur h (.finishCompletion s)
    · exact .of_occur h (.takeOldest s interrupted _)
    · exact .of_silent h rfl
  | getStatus => exact .of_silent_request h fun _ _ => rfl
  | getCounters => exact .of_request h fun p u => .of_roll (u.getCounters_roll p)
  | setTime => exact .of_silent_request h fun p u => u.setTime_records p
  | setPosition => exact .of_request h fun p _ hu => hu.setPosition p
  | loadWindow => exact .of_silent_request h fun p u => u.loadWindow_records p
  | muteWindow => exact .of_silent_request h fun p u => u.muteWindow_records p
  | readWindow => exact .of_silent_request h fun p u => u.readWindow_records p
  | provision => exact .of_silent_request h fun p u => u.provision_records p
  | lockProvision => exact .of_silent_request h fun p u => u.lockProvision_records p
  | acknowledge => exact .of_request h fun p _ hu => hu.acknowledge p
  | fetchRecord => exact .of_request h fun p _ hu => hu.fetchRecord p
  | flushAlerts => exact .of_request h fun _ _ hu => hu.endSublist _ (.refl _)
  | configure => exact .of_silent_request h fun p u => u.configure_records p
  | clearHistory => exact .of_silent_request h fun p u => u.clearHistory_records p
  | reset rate verify worn => exact .of_request h fun _ _ _ => State.endReset_ordered _ _ _ _
  | unknownRequest => exact .of_silent h rfl
  | historyWrite => exact .of_silent h s.startWrite_records
  | slotProgramEnd verify =>
    rw [exec, execSlotProgramEnd] at h
    split at h
    · exact .of_silent h (s.slotProgramEnd_records _ _)
    · exact .of_silent h rfl
  | headerAmend => exact .of_silent h s.startAmend_records
  | headerAmendEnd passed =>
    rw [exec, execHeaderAmendEnd] at h
    split at h
    · exact .of_silent h (s.amendEnd_records _ _)
    · exact .of_silent h rfl
  | eraseStart => exact .of_silent h s.startErase_records
  | eraseSuspend ran => exact .of_silent h rfl
  | eraseResume => exact .of_silent h rfl
  | minimumRunEnd => exact .of_silent h rfl
  | eraseEnd passed =>
    rw [exec, execEraseEnd] at h
    split at h
    · exact .of_silent h (s.endErase_records _ _)
    · exact .of_silent h rfl
  | provisioningProgram => exact .of_silent h rfl
  | provisioningProgramEnd passed =>
    rw [exec, execProvisioningProgramEnd] at h
    split at h
    · exact .of_silent h (s.provisioningEnd_records _ _)
    · exact .of_silent h rfl
  | byteReceived port byte => exact .of_silent h rfl
  | powerLoss =>
    rw [exec, execPowerLoss] at h
    cases h
    split
    · exact fun _ => Records.reset_ordered
    · exact id

/-- Settles O57, event by event (`exec_keepsOrder`). -/
theorem recordsStayOrdered : Obligations.RecordsStayOrdered := by
  intro s t hu h
  cases hq : s.pending with
  | nil =>
    simp only [step, hq] at h
    cases h
    exact hu
  | cons c rest =>
    simp only [step, hq] at h
    exact exec_keepsOrder c h hu

end Sys2Proof.Machine
end

section
/-!
PROOFS. The area unit at an epoch (R94, R110): the check of the position and the examination of the held list.
-/

namespace Sys2Proof.Machine

/-! ## The check of the position (R94) -/

theorem OnlyChanges.checkPosition (s : State) : OnlyChanges [.area] s s.checkPosition := by
  unfold State.checkPosition
  split
  · exact (OnlyChanges.onArea s _).trans (.onArea _ _)
  · exact .refl _ s

/-- A FRESH position past the maximum age becomes STALE, and is counted. -/
theorem State.checkPosition_stale {s : State} (fresh : s.area.position.state = .fresh)
    (old : s.settings.positionMaxAge < ageOf s.time.epoch s.area.position.arrival) :
    s.checkPosition.area =
      { position := { s.area.position with state := .stale }
        counters := { s.area.counters with positionsStale := bump s.area.counters.positionsStale } } := by
  rw [State.checkPosition, if_pos (by simp [fresh, old])]
  rfl

/-- Any other position stays. -/
theorem State.checkPosition_stays {s : State}
    (h : s.area.position.state ≠ .fresh ∨ ageOf s.time.epoch s.area.position.arrival ≤ s.settings.positionMaxAge) :
    s.checkPosition = s := by
  refine if_neg fun stale => ?_
  obtain ⟨fresh, old⟩ : s.area.position.state = .fresh ∧ s.settings.positionMaxAge < ageOf s.time.epoch s.area.position.arrival := by
    simpa using stale
  exact h.elim (fun other => other fresh) (Nat.not_le.mpr old)

/-- Settles O24, by the two cases of the check. -/
theorem positionBecomesStale : Obligations.PositionBecomesStale := by
  intro s hp owed
  let u := s.onDue fun d => { d with positionStale := d.positionStale - 1 }
  have run : exec .positionStale s = .next u.checkPosition.settle := by
    rw [exec, execPositionStale, State.occur_of_ready hp (by simpa using owed)]
  have frame := OnlyChanges.checkPosition u
  have changed := (OnlyChanges.onDue s _).andThen (zs := [.area, .due, .outputs]) frame (by simp) (by simp)
  refine ⟨_, run, changed.settled (by simp), frame .due (by simp), ?_, ?_⟩
  · exact State.checkPosition_stale (s := u)
  · exact fun h => (congrArg State.area (State.checkPosition_stays (s := u) h) :)

/-! ## The examination of the held list (R110, R130) -/

section
variable {s : State} (hu : s.records.Ordered)
include hu

/-- The held records past their lifetime leave the held list, and no other record leaves a list. -/
theorem Records.Ordered.leave_heldPast :
    s.records.leave .outOfArea s.heldPast =
      { s.records with held := s.records.held.filter fun r => !r.lifetimeOver s.time.epoch } := by
  have held (x : Record) (hx : x ∈ s.records.held) : x ∈ s.records.live := by simp [Records.live, hx]
  have stays : ∀ y ∈ s.records.active, y.handle ∉ s.heldPast.map Record.handle := by
    intro y hy past
    obtain ⟨x, hx, same⟩ := List.mem_map.mp past
    have mem := (List.mem_filter.mp hx).1
    obtain rfl := hu.eq_of_handle (held x mem) (show y ∈ s.records.live by simp [Records.live, hy]) same
    exact (hu.activeStates x hy).1 (hu.heldStates x mem).1
  have active : (s.records.active.filter fun y => y.handle ∉ s.heldPast.map Record.handle) = s.records.active :=
    List.filter_eq_self.mpr fun y hy => decide_eq_true (stays y hy)
  have left : (s.records.held.filter fun y => y.handle ∉ s.heldPast.map Record.handle) =
      s.records.held.filter fun r => !r.lifetimeOver s.time.epoch := by
    refine List.filter_congr fun y hy => Bool.eq_iff_iff.mpr ?_
    have past : y.handle ∈ s.heldPast.map Record.handle ↔ y.lifetimeOver s.time.epoch = true := by
      refine ⟨fun h => ?_, fun ended => List.mem_map_of_mem (List.mem_filter.mpr ⟨hy, ended⟩)⟩
      obtain ⟨x, hx, same⟩ := List.mem_map.mp h
      obtain ⟨mem, ended⟩ := List.mem_filter.mp hx
      exact hu.eq_of_handle (held x mem) (held y hy) same ▸ ended
    rw [decide_eq_true_iff, past, Bool.not_eq_true', Bool.not_eq_true]
  have still : s.heldPast.filter Record.delivering = [] := List.filter_eq_nil_iff.mpr fun x hx => by
    simp [Record.delivering, (hu.heldStates x (List.mem_filter.mp hx).1).1]
  rw [Records.leave, active, left, still]
  rfl

theorem OnlyChanges.examineHeld : OnlyChanges [.records, .report, .area] s s.examineHeld := by
  rw [State.examineHeld_eq hu]
  exact (OnlyChanges.endAll s (by decide) _).andThen (.onArea _ _) (by simp) (by simp)

/-- The examination as one equation: the records past their lifetime leave the held list, end and are counted. -/
theorem State.examineHeld_ended :
    s.examineHeld =
      ((s.onRecords (Records.holding (s.records.held.filter fun r => !r.lifetimeOver s.time.epoch))).ended .outOfArea s.heldPast).countArea
        fun c => { c with heldLifetimeEnded := bumpBy s.heldPast.length c.heldLifetimeEnded } := by
  have all : (s.heldPast.filter fun r => !r.delivering) = s.heldPast := List.filter_eq_self.mpr fun x hx => by
    simp [Record.delivering, (hu.heldStates x (List.mem_filter.mp hx).1).1]
  rw [State.examineHeld_eq hu, State.endAll_eq (by decide), all, State.onRecords_eq hu.leave_heldPast]
  rfl
end

/-- Settles O25, by the examination as one equation (`State.examineHeld_ended`). -/
theorem heldRecordsEndWithTheirLifetime : Obligations.HeldRecordsEndWithTheirLifetime := by
  intro s hp owed hu past
  let u := s.onDue fun d => { d with heldLifetimeEnd := d.heldLifetimeEnd - 1 }
  have run : exec .heldLifetimeEnd s = .next u.examineHeld.settle := by
    rw [exec, execHeldLifetimeEnd, State.occur_of_ready hp (by simpa using owed)]
  have frame : OnlyChanges [.records, .report, .area, .due, .outputs] s u.examineHeld :=
    (OnlyChanges.onDue s _).andThen (OnlyChanges.examineHeld (s := u) hu) (by simp) (by simp)
  rw [State.examineHeld_ended (s := u) hu] at run frame
  have counted : u.heldPast.length = s.records.held.countP past := List.countP_eq_length_filter.symm
  have summaries : u.heldPast.map (u.ending .outOfArea) =
      (s.records.held.filter past).map fun r => ⟨s.summaryOf r .outOfArea, r.attrs.reportDelay⟩ := rfl
  have joins := u.ended_joins .outOfArea u.heldPast
  rw [summaries] at joins
  refine ⟨_, run, frame.settled (by simp), rfl, rfl, rfl, rfl, ?_, rfl, ?_, joins⟩
  · exact congrArg (bumpBy · s.records.counters.outOfArea) counted
  · exact congrArg (bumpBy · s.area.counters.heldLifetimeEnded) counted

end Sys2Proof.Machine
end

section
/-!
PROOFS. Chapter 5 in the statement's terms (R96 to R103), and SET POSITION (R93, R109).
-/

namespace Sys2Proof.Machine

/-! ## The bounding box (R96) -/

/-- Latitude and longitude exchanged. -/
def Vertex.turned (v : Vertex) : Vertex := ⟨v.lon, v.lat⟩

/-- Latitudes and longitudes exchanged. -/
def Box.turned (b : Box) : Box := ⟨b.west, b.east, b.south, b.north⟩

theorem Box.turned_foldl (vs : List Vertex) (b : Box) :
    (vs.foldl (fun b v => (⟨min b.south v.lat, max b.north v.lat, min b.west v.lon, max b.east v.lon⟩ : Box)) b).turned =
      (vs.map Vertex.turned).foldl
        (fun b v => (⟨min b.south v.lat, max b.north v.lat, min b.west v.lon, max b.east v.lon⟩ : Box)) b.turned := by
  induction vs generalizing b with
  | nil => rfl
  | cons v vs ih => exact ih _

/-- The box around vertices spans them in longitude, and, turned, in latitude. -/
theorem Box.around_spans (v : Vertex) (vs : List Vertex) :
    (Box.around v vs).SpansLon (v :: vs) ∧ (Box.around v vs).turned.SpansLon ((v :: vs).map Vertex.turned) := by
  refine ⟨Box.spansLon_foldl (seen := [v]) (by simp [Box.SpansLon]) vs, ?_⟩
  rw [Box.around, Box.turned_foldl]
  exact Box.spansLon_foldl (seen := [v.turned]) (by simp [Box.SpansLon, Box.turned, Vertex.turned]) _

/-- What spans vertices in longitude is settled by them. -/
theorem Box.SpansLon.eq {b : Box} {vs : List Vertex} {west east : Int} (h : b.SpansLon vs)
    (within : ∀ v ∈ vs, west ≤ v.lon ∧ v.lon ≤ east) (w : ∃ v ∈ vs, v.lon = west) (e : ∃ v ∈ vs, v.lon = east) :
    b.west = west ∧ b.east = east := by
  obtain ⟨inBox, ⟨bw, hbw, bWest⟩, ⟨be, hbe, bEast⟩⟩ := h
  obtain ⟨w, hw, rfl⟩ := w
  obtain ⟨e, he, rfl⟩ := e
  exact ⟨by linarith [inBox w hw, within bw hbw], by linarith [inBox e he, within be hbe]⟩

/-- The bounding box of an area, by the least and the greatest of its coordinates. -/
theorem boundingBox_eq {area : List Vertex} {south north west east : Int}
    (within : ∀ v ∈ area, south ≤ v.lat ∧ v.lat ≤ north ∧ west ≤ v.lon ∧ v.lon ≤ east) (s : ∃ v ∈ area, v.lat = south)
    (n : ∃ v ∈ area, v.lat = north) (w : ∃ v ∈ area, v.lon = west) (e : ∃ v ∈ area, v.lon = east) :
    boundingBox area = ⟨south, north, west, east⟩ := by
  cases area with
  | nil => simp at s
  | cons v vs =>
    obtain ⟨lon, lat⟩ := Box.around_spans v vs
    obtain ⟨hw, he⟩ := lon.eq (fun u hu => (within u hu).2.2) w e
    obtain ⟨hs, hn⟩ := lat.eq (west := south) (east := north)
      (List.forall_mem_map.mpr fun u hu => ⟨(within u hu).1, (within u hu).2.1⟩)
      (by simpa [Vertex.turned] using s) (by simpa [Vertex.turned] using n)
    rw [boundingBox, ← hw, ← he, ← hs, ← hn]
    rfl

/-! ## The crossing test (R101) -/

/-- The edges of an area by index: each vertex with the next, and the last with the first. -/
theorem areaEdges_eq (area : List Vertex) :
    areaEdges area = (List.range area.length).map fun i =>
      (area.getD i ⟨0, 0⟩, area.getD (if i + 1 = area.length then 0 else i + 1) ⟨0, 0⟩) := by
  refine List.ext_getElem (by simp [areaEdges]; omega) fun i h h' => ?_
  have hi : i < area.length := by simpa using h'
  have bound : i < (area.drop 1 ++ area.take 1).length := by simp; omega
  have next : (area.drop 1 ++ area.take 1)[i]? = area[if i + 1 = area.length then 0 else i + 1]? := by
    split
    · next last => simp [← last]
    · next inner => rw [List.getElem?_append_left (by simp; omega), List.getElem?_drop, Nat.add_comm]
  simp only [areaEdges, List.getElem_zip, List.getElem_map, List.getElem_range, List.getD_eq_getElem?_getD, ← next]
  rw [List.getElem?_eq_getElem hi, List.getElem?_eq_getElem bound]
  rfl

theorem isCrossing_eq (y x : Int) (a b : Vertex) :
    isCrossing y x a b =
      let d := b.lat - a.lat
      let num := (x - a.lon) * d - (y - a.lat) * (b.lon - a.lon)
      decide (¬ (a.lat > y ↔ b.lat > y) ∧ ((d > 0 ∧ num < 0) ∨ (d < 0 ∧ num > 0))) := by
  refine Bool.eq_iff_iff.mpr ?_
  simp only [isCrossing, Bool.and_eq_true, bne_iff_ne, ne_eq, decide_eq_decide, Bool.or_eq_true, decide_eq_true_eq]

/-- The crossing test, its edges counted by index. -/
theorem insideArea_iff (area : List Vertex) (y x : Int) :
    insideArea area y x = true ↔
      ((List.range area.length).countP fun i =>
        let a := area.getD i ⟨0, 0⟩
        let b := area.getD (if i + 1 = area.length then 0 else i + 1) ⟨0, 0⟩
        let d := b.lat - a.lat
        let num := (x - a.lon) * d - (y - a.lat) * (b.lon - a.lon)
        decide (¬ (a.lat > y ↔ b.lat > y) ∧ ((d > 0 ∧ num < 0) ∨ (d < 0 ∧ num > 0)))) % 2 = 1 := by
  rw [insideArea, areaEdges_eq, List.countP_map, beq_iff_eq]
  simp only [← isCrossing_eq]
  rfl

/-! ## The uncertainty square (R99, R100, R103) -/

theorem lonFactor_latBand (lat : Int) :
    lonFactor (latBand lat) = ([17, 18, 19, 21, 25, 32, 47, 93, 255] : List Nat).getD (min (lat.natAbs / 10000000) 8) 0 := by
  have short : latBand lat < [17, 18, 19, 21, 25, 32, 47, 93, 255].length := Nat.lt_succ_of_le (Nat.min_le_right _ _)
  exact (List.getD_eq_getElem _ 255 short).trans (List.getD_eq_getElem _ 0 short).symm

theorem Box.meets_iff (square box : Box) :
    square.meets box = true ↔
      square.south ≤ box.north ∧ box.south ≤ square.north ∧ square.west ≤ box.east ∧ box.west ≤ square.east := by
  simp [Box.meets, and_assoc]

theorem Box.within_iff (box square : Box) :
    box.within square = true ↔
      square.south ≤ box.south ∧ box.north ≤ square.north ∧ square.west ≤ box.west ∧ box.east ≤ square.east := by
  simp [Box.within, and_assoc]

theorem Box.corners_any (b : Box) (inside : Int → Int → Bool) :
    (b.corners.any fun c => inside c.1 c.2) = true ↔
      inside b.north b.east = true ∨ inside b.north b.west = true ∨ inside b.south b.west = true ∨ inside b.south b.east = true := by
  simp [Box.corners]

/-! ## The verdict of an area (R103) -/

section
variable {p : Position} {area : List Vertex}

theorem spanTooWide_iff : spanTooWide area = true ↔ 180000000 < (boundingBox area).east - (boundingBox area).west :=
  decide_eq_true_iff

theorem Position.verdict_tooWide (wide : spanTooWide area = true) : p.verdict (some area) = .noArea := if_pos wide

theorem Position.verdict_unknown (narrow : ¬ spanTooWide area = true) (h : p.state ≠ .fresh) : p.verdict (some area) = .unknown :=
  (if_neg narrow).trans (if_neg h)

theorem Position.verdict_fresh (narrow : ¬ spanTooWide area = true) (h : p.state = .fresh) : p.verdict (some area) = p.judge area :=
  (if_neg narrow).trans (if_pos h)

/-- Step 4: the square misses the box. -/
theorem Position.judge_misses (h : ¬ p.square.meets (boundingBox area) = true) : p.judge area = .outside :=
  if_pos (by simpa using h)

variable (meets : p.square.meets (boundingBox area) = true)
include meets

/-- Step 5: the position lies in the area. -/
theorem Position.judge_inside (h : insideArea area p.lat p.lon = true) : p.judge area = .inside :=
  (if_neg (by simpa using meets)).trans (if_pos h)

variable (out : ¬ insideArea area p.lat p.lon = true)
include out

/-- Steps 6 to 9, for a position that does not lie in the area. -/
theorem Position.judge_not_inside :
    p.judge area =
      if latMargin p.uncertainty = 0 then .outside
      else if (p.square.corners.any fun c => insideArea area c.1 c.2) = true ∨ (boundingBox area).within p.square = true then .edge
      else .outside := by
  refine (if_neg (by simpa using meets)).trans ((if_neg out).trans (ite_congr rfl (fun _ => rfl) fun _ => ?_))
  rw [ite_or]
end

/-! ## SET POSITION (R93, R109) -/

section
variable {s : State} {tag : Byte} {args : List Byte} {rest : List (List Byte)}

theorem exec_setPosition (h : s.asked (0x04 :: tag :: args) rest) (hb : args.length = 10) (hs : s.scanning = false) :
    exec .setPosition s = .next (s.popRequest.setPosition (0x04 :: tag :: args)).settle :=
  State.occur_request _ h rfl (by simp [commonCheck, hs, hb, Request.arguments])

theorem coordinatesInRange_iff {lat lon : Int} :
    coordinatesInRange lat lon = true ↔ -90000000 ≤ lat ∧ lat ≤ 90000000 ∧ -180000000 ≤ lon ∧ lon ≤ 180000000 := by
  simp [coordinatesInRange, and_assoc]

/-- The check of SET POSITION and what it does (R93). -/
theorem State.setPosition_eq (s : State) :
    s.setPosition (0x04 :: tag :: args) =
      if coordinatesInRange (wordAt args 0).toInt (wordAt args 4).toInt then
        (s.acceptPosition (wordAt args 0).toInt (wordAt args 4).toInt (halfAt args 8).toNat).answer (0x04 :: tag :: args) .done []
      else s.answer (0x04 :: tag :: args) .badArgument [] := rfl
end

/-- The position record has taken a position, and counted it. -/
def State.positioned (p : Position) (s : State) : State :=
  (s.onArea fun a => { a with position := p }).countArea fun c => { c with positionUpdates := bump c.positionUpdates }

/-- A request whose meaning leaves the management unit alone, and answers it, answers it at once. -/
theorem State.asked.answersAfter {s t : State} {p : List Byte} {rest : List (List Byte)} (h : s.asked p rest)
    (same : t.management = s.popRequest.management) (result : Result) (data : List Byte) :
    AnswersAtOnce s (t.answer p result data) rest (replyPayload (byteAt p 0) (byteAt p 1) result data) := by
  have both : (t.answer p result data).management = (s.popRequest.answer p result data).management := by
    simp only [State.answer, State.onManagement_management, same]
  exact both.trans (State.answersAtOnce h result data)

/-- The judgement of the held list leaves all else. -/
theorem OnlyChanges.judged {rs : List Record} {s t : State} (h : State.Judges rs s t) :
    OnlyChanges [.area, .records, .report] s t := by
  rw [h.rest]
  intro x hx
  cases x <;> simp_all [Piece.same]

/-- Settles O33: the verdict by the steps of `Position.judge`, the command by the judgement of all held records (`State.Judges`). -/
theorem setPositionJudgesHeldRecords : Obligations.SetPositionJudgesHeldRecords := by
  refine ⟨?verdict, Verdict.presents_iff, ?command⟩
  case verdict =>
    intro p area south north west east within hs hn hw he crossings inside band factor mlat mlon lower upper left right meets v
    have box : boundingBox area = ⟨south, north, west, east⟩ := boundingBox_eq within hs hn hw he
    have square : p.square = ⟨lower, upper, left, right⟩ := by
      simp only [Position.square, lonMargin, lonFactor_latBand]
      rfl
    have wide : spanTooWide area = true ↔ 180000000 < east - west := by rw [spanTooWide_iff, box]
    have hin (y x : Int) : insideArea area y x = true ↔ inside y x := insideArea_iff area y x
    have hmeets : p.square.meets (boundingBox area) = true ↔ meets := by rw [box, square]; exact Box.meets_iff _ _
    have judged (m : meets) (out : ¬ inside p.lat p.lon) := p.judge_not_inside (hmeets.mpr m) ((hin _ _).not.mpr out)
    simp only [Box.corners_any, Box.within_iff, box, square, hin, or_assoc] at judged
    refine ⟨rfl, fun h => p.verdict_tooWide (wide.mpr h), fun h => ?_⟩
    have narrow : ¬ spanTooWide area = true := wide.not.mpr (not_lt.mpr h)
    refine ⟨p.verdict_unknown narrow, fun fresh => ?_⟩
    have hv : v = p.judge area := p.verdict_fresh narrow fresh
    rw [hv]
    refine ⟨fun misses => p.judge_misses (hmeets.not.mpr misses), fun m i => p.judge_inside (hmeets.mpr m) ((hin _ _).mpr i),
      fun m out zero => (judged m out).trans (if_pos zero), fun m out some => ⟨fun edge => ?_, fun ne nw sw se box => ?_⟩⟩
    · exact (judged m out).trans ((if_neg some).trans (if_pos edge))
    · exact (judged m out).trans ((if_neg some).trans (if_neg (by tauto)))
  case command =>
    intro s tag args rest h hb hs hu lat lon u inRange position released
    have he := exec_setPosition h hb hs
    rw [State.setPosition_eq] at he
    refine ⟨fun bad => ?badArgument, fun good => ?done⟩
    case badArgument =>
      exact h.answered he (congrArg State.settle (if_neg (coordinatesInRange_iff.not.mpr bad)))
    case done =>
      rw [if_pos (coordinatesInRange_iff.mpr good)] at he
      let g := s.popRequest.positioned position
      let t := g.records.held.foldl State.judgeHeld g
      obtain ⟨-, held, judges⟩ : t.records.Ordered ∧ _ := State.Judges.foldl (s := g) (kept := []) hu rfl
      have frame : OnlyChanges [.area, .records, .report] g t := .judged judges
      have taken : OnlyChanges [.area, .management] s g :=
        (OnlyChanges.onManagement s _).andThen ((OnlyChanges.onArea _ _).trans (.onArea _ _)) (by simp) (by simp)
      have changed : OnlyChanges [.area, .records, .report, .management] s t := taken.andThen frame (by simp) (by simp)
      have answered : AnswersAtOnce s (t.answer (0x04 :: tag :: args) .done []) rest [0x04, tag, 0] :=
        h.answersAfter (frame .management (by simp)) .done []
      refine ⟨_, he, (changed.andThen (.onManagement _ _) (by simp) (by simp)).settled (by simp), answered, ?_, ?_, ?_, held,
        judges.latched, fun room => ?_⟩
      · exact congrArg Area.position judges.area
      · exact congrArg (fun a => a.counters.positionUpdates) judges.area
      · exact congrArg (fun a => a.counters.recordsReleased) judges.area
      · obtain ⟨report, -, active, placed⟩ := judges.room room
        refine ⟨report, fun x hx => active hx, fun x hx hr => ?_⟩
        obtain ⟨n, hn⟩ := placed x hx hr
        exact ⟨_, hn, rfl, rfl, rfl, rfl⟩

end Sys2Proof.Machine
end

section
/-!
PROOFS. Some of the listed records end at once: the expiry sweep of the active list (R133) and FLUSH ALERTS (R135).
-/

namespace Sys2Proof.Machine

/-! ## The listed records that leave -/

section
variable {u : Records} (hu : u.Ordered) {rs : List Record} (listed : ∀ x ∈ rs, x ∈ u.active ++ u.held)
include hu

/-- No record is on both lists (R106, R119). -/
theorem Records.Ordered.not_active_of_held {x : Record} (held : x ∈ u.held) : x ∉ u.active :=
  fun active => (hu.activeStates x active).1 (hu.heldStates x held).1

/-- No held record is DELIVERING (R119). -/
theorem Records.Ordered.held_filter_delivering : u.held.filter Record.delivering = [] :=
  List.filter_eq_nil_iff.mpr fun x hx => by simp [Record.delivering, (hu.heldStates x hx).1]

/-- Of the active records with a property the last that is DELIVERING is the first: there is one at most (R119, R123). -/
theorem Records.Ordered.delivering_among (p : Record → Bool) :
    ((u.active.filter p).filter Record.delivering).getLast? = u.active.find? fun x => p x && x.state == .delivering := by
  have few : ((u.active.filter p).filter Record.delivering).length ≤ 1 := by
    rw [List.filter_comm]
    exact (List.length_filter_le _ _).trans hu.delivering_le_one
  rw [getLast?_of_le_one few, List.filter_filter, List.head?_filter]
  exact congrArg (fun q => List.find? q u.active) (funext fun x => Bool.and_comm _ _)

include listed in
/-- Listed records leave a list of live records by their handles (R115). -/
theorem Records.Ordered.filter_leaving {l : List Record} (hl : ∀ x ∈ l, x ∈ u.active ++ u.held) :
    l.filter (fun y => y.handle ∉ rs.map Record.handle) = l.filter fun y => y ∉ rs := by
  have live {x : Record} (hx : x ∈ u.active ++ u.held) : x ∈ u.live := List.mem_append_left _ hx
  refine List.filter_congr fun y hy => decide_eq_decide.mpr (not_congr ⟨fun h => ?_, List.mem_map_of_mem⟩)
  obtain ⟨x, hx, same⟩ := List.mem_map.mp h
  exact hu.eq_of_handle (live (listed x hx)) (live (hl y hy)) same ▸ hx

/-- The active records with a property leave, a DELIVERING one with its completion latched (R131). -/
theorem Records.Ordered.leave_active (code : Code) (p : Record → Bool) :
    u.leave code (u.active.filter p) =
      { u with
        active := u.active.filter fun y => !p y
        latched := ((u.active.find? fun x => p x && x.state == .delivering).map fun r => r.latchedWith code).or u.latched } := by
  have listed : ∀ x ∈ u.active.filter p, x ∈ u.active ++ u.held := fun x hx => List.mem_append_left _ (List.mem_filter.mp hx).1
  have active : (u.active.filter fun y => y ∉ u.active.filter p) = u.active.filter fun y => !p y :=
    List.filter_congr fun y hy => by simp [hy]
  have held : (u.held.filter fun y => y ∉ u.active.filter p) = u.held := List.filter_eq_self.mpr fun y hy =>
    decide_eq_true fun left => hu.not_active_of_held hy (List.mem_filter.mp left).1
  rw [Records.leave, hu.filter_leaving listed fun x => List.mem_append_left _,
    hu.filter_leaving listed fun x => List.mem_append_right _, active, held, hu.delivering_among]

/-- Every listed record leaves, a DELIVERING one with its completion latched (R131, R135). -/
theorem Records.Ordered.leave_all (code : Code) :
    u.leave code (u.active ++ u.held) =
      { u with
        active := []
        held := []
        latched := ((u.active.find? fun x => x.state == .delivering).map fun r => r.latchedWith code).or u.latched } := by
  have emptied {l : List Record} (hl : ∀ x ∈ l, x ∈ u.active ++ u.held) : (l.filter fun y => y ∉ u.active ++ u.held) = [] :=
    List.filter_eq_nil_iff.mpr fun y hy => by simp [List.mem_append.mp (hl y hy)]
  have carried := hu.delivering_among fun _ => true
  rw [List.filter_true] at carried
  rw [Records.leave, hu.filter_leaving (fun x => id) fun x => List.mem_append_left _,
    hu.filter_leaving (fun x => id) fun x => List.mem_append_right _, emptied fun x => List.mem_append_left _,
    emptied fun x => List.mem_append_right _, List.filter_append, hu.held_filter_delivering, List.append_nil, carried]
  rfl
end

/-- The latched record once a record, if there is one, has its completion latched (R131). -/
theorem Record.latchedWith_or_eq {code : Code} (hc : code ≠ .acknowledged) (found latched : Option Record) :
    (found.map fun r => r.latchedWith code).or latched =
      match found with
      | some r => some { r with latched := some code, ackDeferred := false, reminder := none }
      | none => latched := by
  have unasked : (code == .acknowledged) = false := beq_eq_false_iff_ne.mpr hc
  cases found with
  | none => rfl
  | some r => simp [Record.latchedWith, unasked]

/-- The state after records of `rs` have left, a DELIVERING one latched, and the others have completed. -/
theorem State.endAll_left {s : State} {code : Code} (hc : code ≠ .acknowledged) {rs : List Record} {u : Records}
    (left : s.records.leave code rs = u) :
    s.endAll code rs = State.ended { s with records := u } code (rs.filter fun r => r.state != .delivering) := by
  rw [State.endAll_eq hc, State.onRecords_eq left]
  rfl

/-- Settles O26: the active records past their lifetime leave (`Records.Ordered.leave_active`), and those not DELIVERING end. -/
theorem activeRecordsExpire : Obligations.ActiveRecordsExpire := by
  intro s hp owed hu past ended
  let u := s.onDue fun d => { d with recordExpiry := d.recordExpiry - 1 }
  have run : exec .recordExpiry s = .next u.expireActive.settle := by
    rw [exec, execRecordExpiry, State.occur_of_ready hp (by simpa using owed)]
  have frame : OnlyChanges [.records, .report, .due, .outputs] s u.expireActive :=
    (OnlyChanges.onDue s _).andThen (OnlyChanges.endAll u (by decide) _) (by simp) (by simp)
  have completed : ((s.records.active.filter past).filter fun r => r.state != .delivering) = ended := by
    rw [List.filter_filter]
    exact List.filter_congr fun x _ => Bool.and_comm _ _
  have swept := State.endAll_left (s := u) (code := .expired) (by decide) (hu.leave_active .expired past)
  rw [completed] at swept
  have expired : u.expireActive = _ := swept
  rw [expired] at run frame
  refine ⟨_, run, frame.settled (by simp), rfl, rfl, rfl, rfl, rfl, ?_, State.ended_joins _ .expired ended⟩
  exact Record.latchedWith_or_eq (by decide) _ _

/-! ## FLUSH ALERTS (R135, R159) -/

/-- A report queue with a report frame pending (R161). -/
def Report.Pending (q : Report) : Prop := q.queue ≠ [] ∧ q.countdown = some 0

theorem State.reportPending_iff {s : State} : s.reportPending = true ↔ s.report.Pending := by
  simp [State.reportPending, Report.Pending]

section
variable {q : Report} {x : QueuedSummary} (now : x.delay = 0)
include now

/-- A summary without delay that finds room makes the report frame pending. -/
theorem Report.after_pending (room : q.queue.length < 32) : (q.after x).Pending := by
  simp only [Report.after, if_neg (Nat.not_le.mpr room), now]
  split_ifs <;> simp [Report.Pending]

/-- A pending report frame stays pending as a summary without delay comes to the queue. -/
theorem Report.Pending.after (pending : q.Pending) : (q.after x).Pending := by
  by_cases full : 32 ≤ q.queue.length
  · rwa [Report.after, if_pos full]
  · exact Report.after_pending now (Nat.not_le.mp full)
end

/-- Summaries without delay, of which the first finds room, make the report frame pending (R159, R161). -/
theorem Report.after_all_pending {q : Report} {xs : List QueuedSummary} (now : ∀ x ∈ xs, x.delay = 0) (nonempty : xs ≠ [])
    (room : q.queue.length < 32) : (xs.foldl Report.after q).Pending := by
  obtain ⟨x, xs, rfl⟩ := List.exists_cons_of_ne_nil nonempty
  obtain ⟨first, others⟩ := List.forall_mem_cons.mp now
  exact List.foldlRecOn xs Report.after (Report.after_pending first room) fun _ pending y hy => pending.after (others y hy)

/-- A FLUSH ALERTS that passes the common checks. -/
theorem exec_flushAlerts {s : State} {tag : Byte} {rest : List (List Byte)} (h : s.asked [0x22, tag] rest) (hs : s.scanning = false) :
    exec .flushAlerts s = .next (s.popRequest.flushAlerts [0x22, tag]).settle :=
  State.occur_request _ h rfl (by rw [hs]; rfl)

/-- Settles O41: every listed record leaves (`Records.Ordered.leave_all`), and those not DELIVERING end, each summary without delay. -/
theorem flushAlertsEmptiesBothLists : Obligations.FlushAlertsEmptiesBothLists := by
  intro s tag rest h hs hu ended
  let u := s.popRequest
  let t := u.endAll .flushed (s.records.active ++ s.records.held)
  have he : exec .flushAlerts s = .next (t.answer [0x22, tag] .done []).settle := exec_flushAlerts h hs
  have flushed : OnlyChanges [.records, .report] u t := .endAll u (by decide) _
  have changed : OnlyChanges [.records, .report, .management] s t :=
    (OnlyChanges.onManagement s _).andThen flushed (by simp) (by simp)
  have answered : AnswersAtOnce s (t.answer [0x22, tag] .done []) rest [0x22, tag, 0] :=
    h.answersAfter (flushed .management (by simp)) .done []
  have frame := (changed.andThen (zs := [.records, .report, .management, .outputs])
    (.onManagement t fun g => { g with replies := g.replies ++ [replyPayload 0x22 tag .done []] }) (by simp) (by simp)).settled (by simp)
  have ends : t = State.ended { u with records := _ } .flushed ended := State.endAll_left (s := u) (by decide) (hu.leave_all .flushed)
  have joins : SummariesJoin s t (ended.map fun r => ⟨s.summaryOf r .flushed, 0⟩) := by
    rw [ends]
    exact State.ended_joins _ .flushed ended
  refine ⟨_, he, frame, answered, ?active, ?held, ?latched, ?counted, joins, fun nonempty room => ?pending⟩
  case active => exact congrArg (fun t => t.records.active) ends
  case held => exact congrArg (fun t => t.records.held) ends
  case latched => exact (congrArg (fun t => t.records.latched) ends).trans (Record.latchedWith_or_eq (by decide) _ _)
  case counted => exact congrArg (fun t => t.records.counters.flushed) ends
  case pending =>
    have now : ∀ x ∈ ended.map fun r => (⟨s.summaryOf r .flushed, 0⟩ : QueuedSummary), x.delay = 0 := by simp
    have pending : t.report.Pending := joins.1 ▸ Report.after_all_pending now (by simpa using nonempty) room
    exact ⟨pending.2, State.reportPending_iff.mpr pending⟩

end Sys2Proof.Machine
end

section
/-!
PROOFS. The delivery engine's choice (R122): a full delivery begins (R123 to R126), or a REMIND frame is taken (R127).
-/

namespace Sys2Proof.Machine

/-! ## The arbiter takes the engine's work (R16, R122) -/

section
variable {s : State}

theorem State.deliveryWork_of_mem {r : Record} (hr : r ∈ s.records.active) (work : (r.wantsDelivery || r.reminder.isSome) = true) :
    s.deliveryWork = true := List.any_eq_true.mpr ⟨r, hr, work⟩

variable (work : s.deliveryWork = true)
include work

/-- The arbiter takes a frame where the engine has work and the transmitter may start one (R16). -/
theorem State.exec_pPortArbiter (hp : s.powered = true) (free : s.link.p.sending = none) (released : s.link.p.holdIn = false) :
    exec .pPortArbiter s = .next s.arbitrateP.settle :=
  State.occur_of_ready hp (by simp [PortState.canStart, State.frameForP, free, released, work])

/-- With no sequence in progress, no reply waiting and the forwarded frames yielding, that frame is the engine's (R16). -/
theorem State.arbitrateP_work (idle : s.records.delivery = none) (replies : s.management.replies = [])
    (turn : s.link.toP = [] ∨ s.link.lastForwarded = true) : s.arbitrateP = s.takeDeliveryWork.setLastForwarded false := by
  rw [State.arbitrateP_engine idle replies turn, if_pos work]
end

/-! ## REMIND frames (R122, R127, R148) -/

/-- The oldest pending reminder is that of a record no earlier one ties and no later one precedes. -/
theorem Records.nextReminder_eq {u : Records} {step stamp : Half} {before after : List Record} {r : Record}
    (split : u.active = before ++ r :: after) (pending : r.reminder = some stamp)
    (older : ∀ x ∈ before, ∀ y, x.reminder = some y → (step - y).toNat < (step - stamp).toNat)
    (oldest : ∀ x ∈ after, ∀ y, x.reminder = some y → (step - y).toNat ≤ (step - stamp).toNat) :
    u.nextReminder step = some r := by
  have age {x : Record} {y : Half} (h : x.reminder = some y) : x.reminderAge step = (step - y).toNat := by
    simp [Record.reminderAge, h]
  have reminded {l : List Record} {x : Record} (hx : x ∈ l.filter fun x => x.reminder.isSome) : x ∈ l ∧ ∃ y, x.reminder = some y :=
    ⟨(List.mem_filter.mp hx).1, Option.isSome_iff_exists.mp (List.mem_filter.mp hx).2⟩
  have kept : (r :: after).filter (fun x => x.reminder.isSome) = r :: after.filter fun x => x.reminder.isSome := by simp [pending]
  rw [Records.nextReminder, split, List.filter_append, kept]
  refine least_of_split (fun x hx => ?_) fun x hx => ?_ <;> obtain ⟨mem, y, hy⟩ := reminded hx
  · simpa [age pending, age hy] using older x mem y hy
  · simpa [age pending, age hy] using oldest x mem y hy

/-- What the take of a REMIND frame leaves of the record unit (R127). -/
theorem State.takeRemind_records {s : State} {before after : List Record} {r : Record} (hu : s.records.Ordered)
    (split : s.records.active = before ++ r :: after) :
    (s.takeRemind r).records =
      { s.records with
        active := before ++ { r with reminder := none } :: after
        counters := { s.records.counters with remindersSent := bump s.records.counters.remindersSent } } :=
  congrArg (fun l => { s.records with
    active := l, counters := { s.records.counters with remindersSent := bump s.records.counters.remindersSent } })
    (hu.update_split split fun y => { y with reminder := none })

theorem OnlyChanges.takeRemind (s : State) (r : Record) : OnlyChanges [.port .p, .records, .outputs] s (s.takeRemind r) :=
  (OnlyChanges.onPort s .p _).andThen ((OnlyChanges.onRecords _ _).trans (.onRecords _ _)) (by simp) (by simp)

/-- Settles O14: the engine's choice is the record of the oldest pending reminder (`Records.nextReminder_eq`). -/
theorem remindIsTaken : Obligations.RemindIsTaken := by
  intro s before after r stamp hp free released hu idle replies turn unwanted split pending older oldest
  have work : s.deliveryWork = true := State.deliveryWork_of_mem (r := r) (by simp [split]) (by simp [pending])
  have unneeded : s.records.nextDelivery = none := List.find?_eq_none.mpr fun x hx => by simp [unwanted x hx]
  have taken : s.arbitrateP = (s.takeRemind r).setLastForwarded false := by
    rw [State.arbitrateP_work work idle replies turn, State.takeDeliveryWork, unneeded,
      Records.nextReminder_eq split pending older oldest]
  refine ⟨_, State.exec_pPortArbiter work hp free released, ?_⟩
  rw [taken]
  have frame := (OnlyChanges.takeRemind s r).andThen (zs := [.port .p, .arbiters, .records, .outputs])
    (.onArbiters _ (f := fun l => { l with lastForwarded := false }) rfl) (by simp) (by simp)
  exact ⟨frame.settled (by simp), rfl, rfl, rfl, State.takeRemind_records hu split⟩

/-! ## The parts of a sequence (R123) -/

theorem partCount_eq_one {n : Nat} (h : n ≤ 192) : partCount n = 1 := if_pos h

theorem one_lt_partCount {n : Nat} (h : 192 < n) : 1 < partCount n := by
  rw [partCount, if_neg (Nat.not_le.mpr h)]
  omega

/-- The part a sequence starts with (R123, R128). -/
def Record.startPart (r : Record) : Nat := if r.undelivered then 1 else r.redeliver.getD 1

/-- It is one of the parts where a first part stored is one. -/
theorem Record.startPart_range {r : Record} (h : ∀ i, r.redeliver = some i → 1 ≤ i ∧ i ≤ partCount r.text.length) :
    1 ≤ r.startPart ∧ r.startPart ≤ partCount r.text.length := by
  have first : 1 ≤ partCount r.text.length := by unfold partCount; split <;> omega
  unfold Record.startPart
  cases r.undelivered with
  | true => exact ⟨le_rfl, first⟩
  | false =>
    cases hr : r.redeliver with
    | none => exact ⟨le_rfl, first⟩
    | some i => exact h i hr

/-- A sequence starts with its start part, and the other parts of the N follow it. -/
theorem Record.partOrder_eq_cons {r : Record} (h : ∀ i, r.redeliver = some i → 1 ≤ i ∧ i ≤ partCount r.text.length) :
    ∃ left, r.partOrder = r.startPart :: left ∧ left.length + 1 = partCount r.text.length := by
  obtain ⟨low, high⟩ := Record.startPart_range h
  have order : r.partOrder = List.range' r.startPart (partCount r.text.length - r.startPart + 1) ++ List.range' 1 (r.startPart - 1) := by
    rw [← Nat.sub_add_comm high]
    rfl
  rw [List.range'_succ, List.cons_append] at order
  refine ⟨_, order, ?_⟩
  simp only [List.length_append, List.length_range']
  omega

/-! ## A full delivery begins (R122, R123, R125) -/

/-- A record whose sequence is in progress (R125). -/
def Record.begun (r : Record) : Record := { r with state := .delivering }

/-- The state once the sequence of a record is in progress (R125). -/
def State.begun (r : Record) (d : Delivery) (s : State) : State :=
  s.onRecords fun x => { x.update r Record.begun with delivery := some d }

theorem State.beginDelivery_eq {s : State} {r : Record} {h : Handle} (hh : r.handle = some h) :
    s.beginDelivery r =
      let d : Delivery := ⟨h.slot, partCount r.text.length, r.partOrder⟩
      (s.begun r d).takeSequenceFrame d := by
  simp only [State.beginDelivery, hh]
  rfl

theorem OnlyChanges.onRecordsAck (s : State) (u : Records) (a : Acknowledgement) :
    OnlyChanges [.records, .ack] s { s with records := u, ack := a } :=
  (OnlyChanges.onRecords s fun _ => u).andThen (.onAck _ fun _ => a) (by simp) (by simp)

/-- The sequence that begins carries its record: no other is in progress (R119). -/
theorem Records.Ordered.delivering_begun {s : State} {r : Record} {h : Handle} (hu : s.records.Ordered)
    (idle : s.records.delivery = none) (hr : r ∈ s.records.active) (hh : r.handle = some h) (d : Delivery) :
    (s.begun r d).records.delivering h.slot = some r.begun := by
  obtain ⟨a, b, split⟩ := List.append_of_mem hr
  have sequence := hu.sequence
  rw [idle] at sequence
  have still : a.find? (fun x => x.state == .delivering && (x.handle.map Handle.slot) == some h.slot) = none :=
    List.find?_eq_none.mpr fun x hx => by simp [sequence.2 x (by simp [split, hx])]
  have lists : (s.begun r d).records.active = a ++ r.begun :: b := hu.update_split split Record.begun
  rw [Records.delivering, lists, List.append_assoc, List.find?_append, still]
  simp [Record.begun, hh]

section
variable {s : State} {r : Record} {h : Handle} (hu : s.records.Ordered) (hr : r ∈ s.records.active) (hh : r.handle = some h)
include hu hr hh

/-- A record of the active list whose sequence begins and ends with one frame is DELIVERED, and no other changes (R126). -/
theorem Records.Ordered.map_delivered (step : Half) :
    (s.records.active.map fun y => if y.handle == r.handle then y.begun else y).map
        (fun y => if y.handle == r.begun.handle then { y.afterSequence step with state := .delivered } else y) =
      s.records.active.map fun x =>
        if x.handle = some h then
          { x with
            state := .delivered, undelivered := false, redeliver := none
            deliveryStep := if r.undelivered then step else r.deliveryStep }
        else x := by
  rw [List.map_map]
  refine List.map_congr_left fun x hx => ?_
  by_cases same : x.handle = r.handle
  · have live {y : Record} (hy : y ∈ s.records.active) : y ∈ s.records.live := by simp [Records.live, hy]
    obtain rfl := hu.eq_of_handle (live hx) (live hr) same
    simp [hh, Record.begun, Record.afterSequence]
  · have other : x.handle ≠ some h := hh ▸ same
    simp [same, other, Record.begun]

/-- A one-part sequence is over as it begins (R123, R126, R150, R154). -/
theorem State.begun_lastFrame (idle : s.records.delivery = none) (d : Delivery) (f : Frame) :
    let receipt : Prop := r.undelivered = true ∧ (r.attrs.receiptMode = .delivered ∨ r.attrs.receiptMode = .both)
    let k := s.records.counters
    ((s.begun r d).send .p .delivery f).lastFrame r.begun =
      { s.send .p .delivery f with
        records :=
          { s.records with
            active := s.records.active.map fun x =>
              if x.handle = some h then
                { x with
                  state := .delivered, undelivered := false, redeliver := none
                  deliveryStep := if r.undelivered then s.ack.step else r.deliveryStep }
              else x
            counters :=
              { k with
                firstDeliveries := if r.undelivered then bump k.firstDeliveries else k.firstDeliveries
                redeliveries := if r.undelivered then k.redeliveries else bump k.redeliveries
                receiptsDropped :=
                  if receipt ∧ 16 ≤ s.ack.receipts.length then bump k.receiptsDropped else k.receiptsDropped } }
        ack :=
          { s.ack with
            receipts :=
              if receipt ∧ s.ack.receipts.length < 16 then s.ack.receipts ++ [s.receiptOf r .delivered] else s.ack.receipts } } := by
  have unlatched : r.begun.latched = none := (hu.activeStates r hr).2
  have asks := Record.wantsDeliveredReceipt_iff (r := r.begun) (.inl unlatched)
  have delivered := hu.map_delivered hr hh s.ack.step
  rw [State.lastFrame_delivered _ unlatched, State.countDelivery_eq]
  simp only [receiptsAfter, droppedAfter, asks]
  rw [← delivered, idle]
  rfl
end

/-- A sequence begins and its first frame is taken. -/
theorem OnlyChanges.begun (s : State) (r : Record) (d : Delivery) (f : Frame) :
    OnlyChanges [.port .p, .records, .outputs] s ((s.begun r d).send .p .delivery f) :=
  (OnlyChanges.onRecords s _).andThen (.onPort _ .p _) (by simp) (by simp)

/-- Settles O12: the engine's choice begins its sequence, of which the first frame is the last where there is one part. -/
theorem deliveryBegins : Obligations.DeliveryBegins := by
  intro s r h hp free released hu idle replies turn found hh inRange n first
  have hr : r ∈ s.records.active := List.mem_of_find?_eq_some found
  have wants : r.wantsDelivery = true := List.find?_some found
  have work : s.deliveryWork = true := State.deliveryWork_of_mem hr (by simp [wants])
  obtain ⟨left, order, length⟩ := Record.partOrder_eq_cons inRange
  let d : Delivery := ⟨h.slot, n, r.partOrder⟩
  have chosen : s.records.nextDelivery = some r := found
  have carried : (s.begun r d).records.delivering d.slot = some r.begun := hu.delivering_begun idle hr hh d
  have taken := State.arbitrateP_sequence (s := s.begun r d) rfl order carried
  have begins : s.arbitrateP = (s.begun r d).arbitrateP := by
    rw [State.arbitrateP_work work idle replies turn, State.takeDeliveryWork, chosen]
    exact congrArg (State.setLastForwarded false) (State.beginDelivery_eq hh)
  rw [← begins] at taken
  refine ⟨_, State.exec_pPortArbiter work hp free released, ?_⟩
  let f : Frame := ⟨deliveryChannel, r.partPayload s.time.epoch n first⟩
  have begun : OnlyChanges [.port .p, .arbiters, .records, .ack, .outputs] s ((s.begun r d).send .p .delivery f) :=
    (OnlyChanges.begun s r d f).mono (by simp)
  rcases Nat.lt_or_ge 192 r.text.length with long | short
  case inl =>
    have more : left.isEmpty = false := by
      have := one_lt_partCount long
      rw [List.isEmpty_eq_false_iff, ← List.length_pos_iff]
      omega
    rw [taken, more]
    refine ⟨?frame, rfl, rfl, rfl, fun _ => ⟨rfl, ⟨left, rfl, order.symm⟩, ?records⟩,
      fun short => absurd long (Nat.not_lt.mpr short)⟩
    case frame =>
      exact ((begun.trans ((OnlyChanges.onRecords _ _).mono (by simp))).trans ((OnlyChanges.onArbiters _ rfl).mono (by simp))).settled
        (by simp)
    case records =>
      refine congrArg (fun l => { s.records with active := l, delivery := some { d with left := left } }) ?_
      exact List.map_congr_left fun x _ => by simp [hh, Record.begun]
  case inr =>
    obtain rfl : left = [] := List.length_eq_zero_iff.mp (by rw [partCount_eq_one short] at length; omega)
    have ends := taken.trans (congrArg (State.setLastForwarded false) (State.begun_lastFrame hu hr hh idle d f))
    rw [ends]
    refine ⟨?frame, rfl, rfl, rfl, fun long => absurd long (Nat.not_lt.mpr short), fun _ => ⟨rfl, rfl⟩⟩
    case frame =>
      have sent : OnlyChanges [.port .p, .arbiters, .records, .ack, .outputs] s (s.send .p .delivery f) :=
        (OnlyChanges.onPort s .p _).mono (by simp)
      exact ((sent.trans ((OnlyChanges.onRecordsAck _ _ _).mono (by simp))).trans ((OnlyChanges.onArbiters _ rfl).mono (by simp))).settled
        (by simp)

end Sys2Proof.Machine
end

section
/-!
PROOFS. The record a handle names, and FETCH RECORD (R115, R128).
-/

namespace Sys2Proof.Machine

/-! ## The record a handle names (R128) -/

theorem half_high (h1 h0 : Byte) : (half h1 h0).extractLsb' 8 8 = h1 := BitVec.extractLsb'_append_eq_left

theorem half_low (h1 h0 : Byte) : (half h1 h0).extractLsb' 0 8 = h0 := BitVec.extractLsb'_append_eq_right

section
variable {u : Records} {h1 h0 : Byte}

theorem Records.find_half :
    u.find (half h1 h0) = if h0.toNat < 24 then u.live.find? fun x => x.handle == some ⟨h1, h0.toNat⟩ else none := by
  simp only [Records.find, half_high, half_low]

/-- A handle that no live record has names none. -/
theorem Records.find_eq_none (h : ∀ r ∈ u.live, r.handle ≠ some ⟨h1, h0.toNat⟩) : u.find (half h1 h0) = none := by
  have unnamed : (u.live.find? fun x => x.handle == some ⟨h1, h0.toNat⟩) = none :=
    List.find?_eq_none.mpr fun x hx => by simpa using h x hx
  rw [Records.find_half, unnamed, ite_self]

variable {r : Record} (hu : u.Ordered) (hr : r ∈ u.live)
include hu hr

/-- The handle of a live record names it: no other has it (R115). -/
theorem Records.Ordered.find_eq_some (hh : r.handle = some ⟨h1, h0.toNat⟩) : u.find (half h1 h0) = some r := by
  rw [Records.find_half, if_pos (hu.slot_lt hr hh)]
  obtain ⟨x, found⟩ : ∃ x, (u.live.find? fun x => x.handle == some ⟨h1, h0.toNat⟩) = some x :=
    Option.isSome_iff_exists.mp (List.find?_isSome.mpr ⟨r, hr, by simp [hh]⟩)
  have named : x.handle = some ⟨h1, h0.toNat⟩ := by simpa using List.find?_some found
  rw [found, hu.eq_of_handle (List.mem_of_find?_eq_some found) hr (named.trans hh.symm)]
end

/-! ## FETCH RECORD (R128) -/

section
variable {s : State} {tag h1 h0 part : Byte} {rest : List (List Byte)}

theorem exec_fetchRecord (h : s.asked [0x21, tag, h1, h0, part] rest) (hs : s.scanning = false) :
    exec .fetchRecord s = .next (s.popRequest.fetchRecord [0x21, tag, h1, h0, part]).settle :=
  State.occur_request _ h rfl (by rw [hs]; rfl)

theorem State.fetchRecord_unknown (found : s.records.find (half h1 h0) = none) :
    s.fetchRecord [0x21, tag, h1, h0, part] = s.answer [0x21, tag, h1, h0, part] .unknownHandle [] := by
  have found : s.records.find (halfAt [0x21, tag, h1, h0, part] 2) = none := found
  simp only [State.fetchRecord, found]

section
variable {r : Record} (found : s.records.find (half h1 h0) = some r)
include found

theorem State.fetchRecord_early (early : r.state = .held ∨ r.state = .waiting) :
    s.fetchRecord [0x21, tag, h1, h0, part] = s.answer [0x21, tag, h1, h0, part] .notDelivered [] := by
  have found : s.records.find (halfAt [0x21, tag, h1, h0, part] 2) = some r := found
  rcases early with state | state <;> simp only [State.fetchRecord, found, state]

theorem State.fetchRecord_delivering (state : r.state = .delivering) :
    s.fetchRecord [0x21, tag, h1, h0, part] = s.answer [0x21, tag, h1, h0, part] .done [] := by
  have found : s.records.find (halfAt [0x21, tag, h1, h0, part] 2) = some r := found
  simp only [State.fetchRecord, found, state]

theorem State.fetchRecord_delivered (state : r.state = .delivered) :
    s.fetchRecord [0x21, tag, h1, h0, part] =
      (s.onRecords (Records.update r fun x => { x with redeliver := some (firstPart x.text.length part.toNat) })).answer
        [0x21, tag, h1, h0, part] .done [] := by
  have found : s.records.find (halfAt [0x21, tag, h1, h0, part] 2) = some r := found
  simp only [State.fetchRecord, found, state]
  rfl
end

theorem firstPart_eq (n : Nat) (part : Byte) :
    firstPart n part.toNat = if part = 0 ∨ partCount n < part.toNat then 1 else part.toNat := by
  have zero : part.toNat = 0 ↔ part = 0 := by rw [← BitVec.toNat_inj]; rfl
  simp only [firstPart, zero, gt_iff_lt]

/-- The update of FETCH RECORD: the first part is judged by the part count of the record named, the only one with its handle. -/
theorem Records.Ordered.update_redeliver {u : Records} {r : Record} (hu : u.Ordered) (hr : r ∈ u.live) (part : Byte) :
    u.update r (fun x => { x with redeliver := some (firstPart x.text.length part.toNat) }) =
      { u with
        active := u.active.map fun x =>
          if x.handle = r.handle then
            { x with redeliver := some (if part = 0 ∨ partCount r.text.length < part.toNat then 1 else part.toNat) }
          else x } := by
  refine congrArg (fun l => { u with active := l }) (List.map_congr_left fun x hx => ?_)
  by_cases same : x.handle = r.handle
  · obtain rfl := hu.eq_of_handle (show x ∈ u.live by simp [Records.live, hx]) hr same
    simp [firstPart_eq]
  · simp [same]
end

/-- A request whose meaning is to change the record unit and answer DONE. -/
theorem State.asked.recordsChanged {s t : State} {p : List Byte} {rest : List (List Byte)} {c : Instr} (f : Records → Records)
    (h : s.asked p rest) (he : exec c s = .next t) (ht : t = ((s.popRequest.onRecords f).answer p .done []).settle) :
    ∃ t, exec c s = .next t ∧ OnlyChanges [.records, .management, .outputs] s t ∧
      AnswersAtOnce s t rest [byteAt p 0, byteAt p 1, 0] ∧ t.records = f s.records := by
  subst ht
  have changed := (OnlyChanges.onManagement s _).andThen (zs := [.records, .management, .outputs])
    (.onRecords s.popRequest f) (by simp) (by simp)
  exact ⟨_, he, (changed.andThen (.onManagement _ _) (by simp) (by simp)).settled (by simp), State.answersAtOnce h .done [], rfl⟩

/-- Settles O40, by the row of the record the handle names (`Records.find_eq_none`, `Records.Ordered.find_eq_some`). -/
theorem fetchRecordAsksForRedelivery : Obligations.FetchRecordAsksForRedelivery := by
  intro s tag h1 h0 part rest h hs hu named answered
  have he := exec_fetchRecord h hs
  refine ⟨fun unnamed => ?unknown, fun r hr hh => ?known⟩
  case unknown => exact h.answered he (congrArg State.settle (State.fetchRecord_unknown (Records.find_eq_none unnamed)))
  have found : s.popRequest.records.find (half h1 h0) = some r := hu.find_eq_some hr hh
  refine ⟨fun early => ?early, fun delivering => ?delivering, fun delivered => ?delivered⟩
  case early => exact h.answered he (congrArg State.settle (State.fetchRecord_early found early))
  case delivering => exact h.answered he (congrArg State.settle (State.fetchRecord_delivering found delivering))
  case delivered =>
    obtain ⟨t, run, frame, reply, records⟩ :=
      h.recordsChanged _ he (congrArg State.settle (State.fetchRecord_delivered found delivered))
    exact ⟨t, run, frame, reply, records.trans (hu.update_redeliver hr part)⟩

end Sys2Proof.Machine
end

section
/-!
PROOFS. What the frames of a delivery carry (R123, R124, R127): the parts make up the text, under the fields of the layout (section 1.9).
-/

namespace Sys2Proof.Machine

/-! ## The parts (R123) -/

section
variable (text : List Byte)

theorem partText_one : partText text 1 = text.take 192 := rfl

theorem partText_later {i : Nat} (h : 2 ≤ i) : partText text i = (text.drop (192 + 256 * (i - 2))).take 256 := if_neg (by omega)

theorem partText_length_le {i : Nat} (h : 1 ≤ i) : (partText text i).length ≤ if i = 1 then 192 else 256 := by
  rcases Nat.eq_or_lt_of_le h with rfl | later
  · exact List.length_take_le _ _
  · rw [partText_later text later, if_neg (by omega)]
    exact List.length_take_le _ _

/-- The first parts of a sequence, some beyond part 1, make up the text as far as they reach. -/
theorem flatMap_partText (k : Nat) : (List.range' 1 (1 + k)).flatMap (partText text) = text.take (192 + 256 * k) := by
  induction k with
  | zero => simp [partText_one]
  | succ k ih =>
    have next : partText text (1 + (1 + k)) = (text.drop (192 + 256 * k)).take 256 := by
      rw [partText_later text (by omega)]
      congr 3
      omega
    rw [← Nat.add_assoc 1 k 1, List.range'_1_concat, List.flatMap_append, ih, List.flatMap_singleton, next,
      ← List.take_add, Nat.mul_succ, Nat.add_assoc]

/-- The parts of a whole sequence reach to the end of the text. -/
theorem flatMap_partText_all : (List.range' 1 (partCount text.length)).flatMap (partText text) = text := by
  obtain ⟨k, count, reach⟩ : ∃ k, partCount text.length = 1 + k ∧ text.length ≤ 192 + 256 * k := by
    unfold partCount
    split
    · exact ⟨0, rfl, by omega⟩
    · exact ⟨_, rfl, by omega⟩
  rw [count, flatMap_partText, List.take_of_length_le reach]

theorem partCount_le_six {n : Nat} (h : n ≤ 1440) : partCount n ≤ 6 := by
  unfold partCount
  split <;> omega
end

/-! ## The fields (R124, R127) -/

theorem halfBytes_halfOf (n : Nat) : halfBytes (halfOf n) = bigEndian 2 n := by
  have low : BitVec.ofNat 8 (n % 65536) = BitVec.ofNat 8 n := BitVec.eq_of_toNat_eq (by simp)
  have high : BitVec.ofNat 8 (n % 65536 / 256) = BitVec.ofNat 8 (n / 256) := BitVec.eq_of_toNat_eq (by simp; omega)
  rw [halfBytes_eq, halfOf, BitVec.toNat_ofNat]
  exact congrArg₂ (fun x y => [x, y]) high low

theorem Record.halfBytes_handleValue {r : Record} {h : Handle} (hh : r.handle = some h) :
    halfBytes r.handleValue = [h.generation, BitVec.ofNat 8 h.slot] := by
  simp only [Record.handleValue, hh]
  exact congrArg₂ (fun x y => [x, y]) (half_high h.generation (byteOf h.slot)) (half_low h.generation (byteOf h.slot))

/-- The header fields, each as the bytes of its number. -/
theorem Record.header_eq (r : Record) (epoch : Word) :
    r.header epoch =
      bigEndian 2 r.key.stream.toNat ++ bigEndian 2 (r.key.issueNumber r.area.isSome) ++
        [BitVec.ofNat 8 r.revision.toNat, byteOf r.attrs.cls.rank] ++ bigEndian 2 r.key.language.toNat ++
        [(r.verdict.getD .noArea).code] ++ bigEndian 2 r.zone.toNat ++ bigEndian 4 r.cell.toNat ++
        bigEndian 2 (lifetimeRemaining r.lifetimeEnd epoch) ++ [BitVec.ofNat 8 r.remindersLeft] ++ bigEndian 2 r.text.length := by
  rw [Record.header, halfBytes_halfOf, halfBytes_halfOf]
  simp only [halfBytes_eq, wordBytes_eq, Key.issueWord_toNat, BitVec.ofNat_toNat, byteOf]

/-- Settles O15: the text by `flatMap_partText_all`, the fields by `Record.header_eq`. -/
theorem partsCarryTheText : Obligations.PartsCarryTheText := by
  refine ⟨fun text => ⟨flatMap_partText_all text, fun i => partText_length_le text, partCount_le_six⟩, ?_⟩
  intro r h v epoch hh hv handle remaining header
  have handled : halfBytes r.handleValue = handle := Record.halfBytes_handleValue hh
  have headed : r.header epoch = header := by
    rw [r.header_eq, hv]
    simp only [header]
    generalize r.attrs.cls = cls
    cases v <;> cases cls <;> rfl
  refine ⟨fun n => ?_, fun n i later => ?_, ?_⟩
  · simp [Record.partPayload, handled, headed, partText_one, byteOf]
  · have other : i ≠ 1 := by omega
    simp [Record.partPayload, handled, other, partText_later _ later, byteOf]
  · rw [Record.remindPayload, handled, headed]

end Sys2Proof.Machine
end

section
/-!
PROOFS. Chapter 7: the reminder step as an event (R145 to R147), and ACKNOWLEDGE (R139 to R142).
-/

namespace Sys2Proof.Machine

/-! ## The reminder step (R145 to R147) -/

theorem OnlyChanges.takeStep (s : State) : OnlyChanges [.ack, .records, .due] s s.takeStep :=
  ((OnlyChanges.onDue s _).andThen (.onAck _ _) (by simp) (by simp)).trans ((OnlyChanges.onRecords _ _).mono (by simp))

/-- Settles O28: the step on every record is its schedule (`ReminderStepTaken.of_schedule`). -/
theorem reminderStepSetsDueReminders : Obligations.ReminderStepSetsDueReminders := by
  intro s hp owed
  have run : exec .reminderStep s = .next s.takeStep.settle := State.occur_of_ready hp owed
  have frame : OnlyChanges [.ack, .records, .due, .outputs] s s.takeStep := (OnlyChanges.takeStep s).mono (by simp)
  exact ⟨_, run, frame.settled (by simp), s.takeStep_due, .of_schedule s.takeStep_ack rfl⟩

/-! ## The record an acknowledgement reaches (R119, R131) -/

section
variable {u : Records} (hu : u.Ordered) {r : Record} (hr : r ∈ u.live)
include hu

/-- An active record that leaves its list leaves the held list as it is (R115, R119). -/
theorem Records.Ordered.unlist_of_active (active : r ∈ u.active) :
    u.unlist r = { u with active := u.active.filter fun y => y.handle != r.handle } := by
  have held : (u.held.filter fun y => y.handle != r.handle) = u.held := by
    refine List.filter_eq_self.mpr fun y hy => bne_iff_ne.mpr fun same => ?_
    obtain rfl := hu.eq_of_handle (show y ∈ u.live by simp [Records.live, hy]) (show r ∈ u.live by simp [Records.live, active]) same
    exact hu.not_active_of_held hy active
  rw [Records.unlist, held]

include hr

/-- A live record that is DELIVERED is active (R119). -/
theorem Records.Ordered.active_of_delivered (delivered : r.state = .delivered) : r ∈ u.active := by
  simp only [Records.live, List.mem_append, Option.mem_toList] at hr
  rcases hr with (active | held) | latched
  · exact active
  · exact absurd ((hu.heldStates r held).1.symm.trans delivered) (by decide)
  · exact absurd ((hu.latchedState r latched).1.symm.trans delivered) (by decide)

/-- A live record that is DELIVERING with no completion latched is active (R119, R131). -/
theorem Records.Ordered.active_of_delivering (delivering : r.state = .delivering) (unlatched : r.latched = none) : r ∈ u.active := by
  simp only [Records.live, List.mem_append, Option.mem_toList] at hr
  rcases hr with (active | held) | latched
  · exact active
  · exact absurd ((hu.heldStates r held).1.symm.trans delivering) (by decide)
  · simpa [unlatched] using (hu.latchedState r latched).2
end

/-! ## ACKNOWLEDGE by the state of the record (R139) -/

section
variable {s : State} {tag h1 h0 : Byte} {rest : List (List Byte)}

theorem exec_acknowledge (h : s.asked [0x20, tag, h1, h0] rest) (hs : s.scanning = false) :
    exec .acknowledge s = .next (s.popRequest.acknowledge [0x20, tag, h1, h0]).settle :=
  State.occur_request _ h rfl (by rw [hs]; rfl)

theorem State.acknowledge_unknown (found : s.records.find (half h1 h0) = none) :
    s.acknowledge [0x20, tag, h1, h0] = s.answer [0x20, tag, h1, h0] .unknownHandle [] := by
  have found : s.records.find (halfAt [0x20, tag, h1, h0] 2) = none := found
  simp only [State.acknowledge, found]

section
variable {r : Record} (found : s.records.find (half h1 h0) = some r)
include found

theorem State.acknowledge_early (early : r.state = .held ∨ r.state = .waiting) :
    s.acknowledge [0x20, tag, h1, h0] = s.answer [0x20, tag, h1, h0] .notDelivered [] := by
  have found : s.records.find (halfAt [0x20, tag, h1, h0] 2) = some r := found
  rcases early with state | state <;> simp only [State.acknowledge, found, state]

theorem State.acknowledge_delivered (state : r.state = .delivered) :
    s.acknowledge [0x20, tag, h1, h0] = (s.complete .acknowledged r).answer [0x20, tag, h1, h0] .done [] := by
  have found : s.records.find (halfAt [0x20, tag, h1, h0] 2) = some r := found
  simp only [State.acknowledge, found, state]

theorem State.acknowledge_delivering (state : r.state = .delivering) (unlatched : r.latched = none) :
    s.acknowledge [0x20, tag, h1, h0] = (s.latch .acknowledged r).answer [0x20, tag, h1, h0] .done [] := by
  have found : s.records.find (halfAt [0x20, tag, h1, h0] 2) = some r := found
  simp only [State.acknowledge, found, state, unlatched, Option.isNone_none, if_true]

theorem State.acknowledge_latched (state : r.state = .delivering) (latched : r.latched ≠ none) :
    s.acknowledge [0x20, tag, h1, h0] = s.answer [0x20, tag, h1, h0] .done [] := by
  have found : s.records.find (halfAt [0x20, tag, h1, h0] 2) = some r := found
  simp only [State.acknowledge, found, state, Option.isNone_iff_eq_none, if_neg latched]
end
end

/-! ## An acknowledgement carried out at once (R140, R141, R151) -/

/-- A completion of a record with a slot changes the record, report and acknowledgement units. -/
theorem OnlyChanges.complete (s : State) (code : Code) {r : Record} {h : Handle} (hh : r.handle = some h) :
    OnlyChanges [.records, .report, .ack] s (s.complete code r) := by
  rw [State.complete, State.finish_eq _ code r hh]
  intro x hx
  cases x <;> simp_all [Piece.same]

section
variable {s : State} {r : Record} {h : Handle} (hh : r.handle = some h)
include hh

/-- What an acknowledgement leaves of the record unit: the record off the active list, its slot free with the next generation (R130). -/
theorem State.complete_acknowledged_records (hu : s.records.Ordered) (active : r ∈ s.records.active) :
    (s.complete .acknowledged r).records =
      { s.records with
        active := s.records.active.filter fun y => y.handle != r.handle
        free := s.records.free ++ [h.slot]
        generations := s.records.generations.modify h.slot (· + 1)
        counters :=
          { s.records.counters with
            acknowledged := bump s.records.counters.acknowledged
            reportOverflow := bumpBy (1 - (32 - s.report.queue.length)) s.records.counters.reportOverflow
            receiptsDropped := droppedAfter r.attrs.receiptMode.wantsAcknowledged s.ack.receipts s.records.counters.receiptsDropped } } := by
  rw [State.complete, State.onRecords_eq (hu.unlist_of_active active), State.finish_eq _ .acknowledged r hh]
  rfl

/-- What an acknowledgement leaves of the report queue (R158, R159). -/
theorem State.complete_acknowledged_report :
    (s.complete .acknowledged r).report = s.report.after ⟨s.summaryOf r .acknowledged, r.attrs.reportDelay⟩ := by
  rw [State.complete, State.finish_eq _ .acknowledged r hh]
  rfl

/-- What an acknowledgement leaves of the acknowledgement unit: its receipt, where the mode asks for one (R151, R154). -/
theorem State.complete_acknowledged_ack :
    (s.complete .acknowledged r).ack =
      { s.ack with
        receipts := receiptsAfter r.attrs.receiptMode.wantsAcknowledged (s.receiptOf r .acknowledged) s.ack.receipts } := by
  rw [State.complete, State.finish_eq _ .acknowledged r hh]
  rfl
end

/-- Settles O39, by the row of the record the handle names (`Records.find_eq_none`, `Records.Ordered.find_eq_some`). -/
theorem acknowledgeEndsOrLatches : Obligations.AcknowledgeEndsOrLatches := by
  intro s tag h1 h0 rest h hs hu named
  have he := exec_acknowledge h hs
  refine ⟨fun unnamed => ?unknown, fun r hr hh => ?known⟩
  case unknown => exact h.answered he (congrArg State.settle (State.acknowledge_unknown (Records.find_eq_none unnamed)))
  let u := s.popRequest
  have found : u.records.find (half h1 h0) = some r := hu.find_eq_some hr hh
  refine ⟨fun early => ?early, fun delivered => ?delivered, fun delivering unlatched => ?delivering, fun delivering latched => ?latched⟩
  case early => exact h.answered he (congrArg State.settle (State.acknowledge_early found early))
  case latched => exact h.answered he (congrArg State.settle (State.acknowledge_latched found delivering latched))
  case delivering =>
    obtain ⟨t, run, frame, reply, records⟩ :=
      h.recordsChanged _ he (congrArg State.settle (State.acknowledge_delivering found delivering unlatched))
    rw [hu.unlist_of_active (hu.active_of_delivering hr delivering unlatched)] at records
    exact ⟨t, run, frame, reply, records⟩
  case delivered =>
    rw [State.acknowledge_delivered found delivered] at he
    have ends : OnlyChanges [.records, .report, .ack] u (u.complete .acknowledged r) := .complete u .acknowledged hh
    have changed : OnlyChanges [.records, .report, .ack, .management, .outputs] s (u.complete .acknowledged r) :=
      (OnlyChanges.onManagement s _).andThen ends (by simp) (by simp)
    have answered := h.answersAfter (ends .management (by simp)) .done []
    have records := State.complete_acknowledged_records (s := u) hh hu (hu.active_of_delivered hr delivered)
    have ack := State.complete_acknowledged_ack (s := u) hh
    have asks := ReceiptMode.wantsAcknowledged_iff (m := r.attrs.receiptMode)
    refine ⟨_, he, (changed.trans ((OnlyChanges.onManagement _ _).mono (by simp))).settled (by simp), answered,
      congrArg Records.active records, (congrArg Records.held records :), (congrArg Records.latched records :),
      (congrArg Records.delivery records :), congrArg Records.free records, congrArg Records.generations records,
      congrArg (fun u => u.counters.acknowledged) records, ⟨State.complete_acknowledged_report (s := u) hh, ?overflow⟩,
      (congrArg Acknowledgement.step ack :), ?receipts, ?dropped⟩
    case overflow => exact congrArg (fun u => u.counters.reportOverflow) records
    case receipts => exact (congrArg Acknowledgement.receipts ack).trans (receiptsAfter_eq asks _ _)
    case dropped =>
      have dropped := congrArg (fun u => u.counters.receiptsDropped) records
      simp only [droppedAfter, asks] at dropped
      exact dropped

end Sys2Proof.Machine
end

section
/-!
PROOFS. Chapters 8 and 10: the flush countdown and the report frame it makes pending (R160, R161), and GET STATUS (R167, R183, R196).
-/

namespace Sys2Proof.Machine

/-! ## The flush countdown (R160, R161) -/

theorem OnlyChanges.takeDecrement (s : State) : OnlyChanges [.report, .due] s s.takeDecrement :=
  (OnlyChanges.onDue s _).andThen (.onReport _ _) (by simp) (by simp)

/-- The decrement that ends the countdown of queued summaries makes the report frame pending. -/
theorem Report.decrement_pending {q : Report} (last : q.countdown = some 1) (queued : q.queue ≠ []) : q.decrement.Pending :=
  ⟨queued, by simp [Report.decrement, last]⟩

/-- A pending report frame is a cause of WAKE where REPORT is enabled (R164, R166). -/
theorem State.wakeLevel_of_report {s : State} (enabled : s.settings.wakeEnables.report = true) (pending : s.report.Pending) :
    s.wakeLevel = true :=
  s.wakeLevel_iff.mpr (.inr (.inl ⟨enabled, pending⟩))

/-- Settles O27: the decrement of the report unit (`State.takeDecrement_report`), and the cause it raises where it ends the countdown. -/
theorem flushCountdownMakesTheReportPending : Obligations.FlushCountdownMakesTheReportPending := by
  intro s hp owed
  have run : exec .flushCountdown s = .next s.takeDecrement.settle := State.occur_of_ready hp owed
  have frame : OnlyChanges [.report, .due, .outputs] s s.takeDecrement := (OnlyChanges.takeDecrement s).mono (by simp)
  have report : s.takeDecrement.settle.report = s.report.decrement := s.takeDecrement_report
  refine ⟨_, run, frame.settled (by simp), s.takeDecrement_due, (congrArg Report.queue report :), congrArg Report.countdown report,
    fun last queued => ?_⟩
  have pending : s.takeDecrement.report.Pending := Report.decrement_pending last queued
  exact ⟨State.reportPending_iff.mpr pending, fun enabled => State.wakeLevel_of_report (s := s.takeDecrement) enabled pending⟩

/-! ## GET STATUS (R167, R183, R196) -/

/-- The history state, condition by condition (R183). -/
theorem State.historyState_eq (s : State) :
    s.historyState =
      if s.store.ramOnly then 1
      else if s.store.erases ≠ [] ∨ s.store.erase ≠ none ∨ s.store.clear ≠ none then 2 else 0 := by
  simp [State.historyState, Option.isSome_iff_ne_none, or_assoc]

/-- The highest-priority cause, cause by cause (R164, R167). -/
theorem State.highestCause_eq (s : State) :
    s.causes.highest =
      if s.alertFlag then 1 else if s.reportPending then 2 else if s.management.replies ≠ [] then 3 else if s.backlog then 4 else 0 := by
  cases replies : s.management.replies <;> simp [State.causes, WakeCauses.highest, replies]

/-- GET STATUS passes the common checks, during the scan as at any time (R195). -/
theorem commonCheck_getStatus (scanning : Bool) (tag : Byte) : commonCheck .getStatus scanning [0x01, tag] = none := by
  cases scanning <;> rfl

/-- The request that has left its queue does not show in the status block. -/
theorem State.statusBlock_popRequest (s : State) : s.popRequest.statusBlock = s.statusBlock := rfl

theorem exec_getStatus {s : State} {tag : Byte} {rest : List (List Byte)} (h : s.asked [0x01, tag] rest) :
    exec .getStatus s = .next (s.popRequest.answer [0x01, tag] .done s.statusBlock).settle :=
  State.occur_request State.getStatus h rfl (commonCheck_getStatus _ tag)

/-- Settles O30: the answer is the status block, of which the history state and the highest cause are read condition by condition. -/
theorem getStatusReturnsTheStatusBlock : Obligations.GetStatusReturnsTheStatusBlock := by
  intro s tag rest h
  obtain ⟨t, run, frame, reply⟩ := h.answered (exec_getStatus h) rfl
  rw [State.statusBlock, State.historyState_eq, State.highestCause_eq] at reply
  exact ⟨t, run, frame, reply⟩

end Sys2Proof.Machine
end

section
/-!
PROOFS. What no event but provisioning, a reset and a loss of power touches: the supply, the provisioning program in flight and the
provisioning slots (R184). One lemma for each operation, in the order of the chapters.
-/

namespace Sys2Proof.Machine

/-- What the law of the provisioning slots speaks of: the supply, the provisioning program in flight, the slots. -/
def State.vault (s : State) : Bool × Option ProvisioningJob × List ProvisioningSlot :=
  (s.powered, s.store.job, s.array.provisioning)

/-- A fold of operations that leave the provisioning slots leaves them. -/
theorem State.foldl_vault {α : Type} {f : State → α → State} (h : ∀ s a, (f s a).vault = s.vault) (l : List α) (s : State) :
    (l.foldl f s).vault = s.vault := by
  induction l generalizing s with
  | nil => rfl
  | cons a l ih => exact (ih _).trans (h s a)

/-- A change of other pieces of the state leaves the provisioning slots. -/
theorem OnlyChanges.vault {xs : List Piece} {s t : State} (h : OnlyChanges xs s t)
    (kept : Piece.supply ∉ xs ∧ Piece.array ∉ xs ∧ Piece.store ∉ xs) : t.vault = s.vault := by
  obtain ⟨supply, array, store⟩ := kept
  have powered : t.powered = s.powered := (h .supply supply).1
  have slots : t.array = s.array := h .array array
  have job : t.store.job = s.store.job := (congrArg Store.job (h .store store :) :)
  rw [State.vault, powered, job, slots]
  rfl

theorem State.Refills.vault {s t : State} (h : s.Refills t) : t.vault = s.vault := by
  rw [h.rest]
  rfl

section
variable (s : State)

/-! ## Updates of one block -/

@[simp] theorem State.onIntake_vault (f : Intake → Intake) : (s.onIntake f).vault = s.vault := rfl
@[simp] theorem State.onRecords_vault (f : Records → Records) : (s.onRecords f).vault = s.vault := rfl
@[simp] theorem State.countIntake_vault (f : IntakeCounters → IntakeCounters) : (s.countIntake f).vault = s.vault := rfl
@[simp] theorem State.countHistory_vault (f : HistoryCounters → HistoryCounters) : (s.countHistory f).vault = s.vault := rfl
@[simp] theorem State.countArea_vault (f : AreaCounters → AreaCounters) : (s.countArea f).vault = s.vault := rfl
@[simp] theorem State.countRecords_vault (f : RecordCounters → RecordCounters) : (s.countRecords f).vault = s.vault := rfl

/-! ## The link path (R11 to R18) -/

@[simp] theorem State.sortM_vault (f : Frame) : (s.sortM f).vault = s.vault := by
  unfold State.sortM
  dsimp only
  split_ifs <;> rfl

@[simp] theorem State.sortP_vault (f : Frame) : (s.sortP f).vault = s.vault := by
  unfold State.sortP
  dsimp only
  split_ifs <;> rfl

@[simp] theorem State.frameSent_vault (port : Port) : (s.frameSent port).vault = s.vault := by
  unfold State.frameSent
  split
  · next x _ => cases x.source <;> rfl
  · rfl

@[simp] theorem State.arbitrateM_vault : s.arbitrateM.vault = s.vault := by
  unfold State.arbitrateM
  split <;> split <;> rfl

/-! ## Records, reports and receipts -/

@[simp] theorem State.joinReport_vault (x : Summary) (d : Nat) : (s.joinReport x d).vault = s.vault := by
  rcases s.joinReport_cases x d with ⟨_, h⟩ | ⟨_, h⟩ <;> rw [h] <;> rfl

@[simp] theorem State.queueReceipt_vault (r : Record) (k : ReceiptKind) : (s.queueReceipt r k).vault = s.vault := by
  rcases s.queueReceipt_cases r k with ⟨_, h⟩ | ⟨_, h⟩ <;> rw [h] <;> rfl

@[simp] theorem State.finish_vault (code : Code) (r : Record) : (s.finish code r).vault = s.vault := by
  unfold State.finish
  cases r.handle <;> split_ifs <;> simp

@[simp] theorem State.complete_vault (code : Code) (r : Record) : (s.complete code r).vault = s.vault := State.finish_vault _ code r

@[simp] theorem State.latch_vault (code : Code) (r : Record) : (s.latch code r).vault = s.vault := rfl

@[simp] theorem State.endAll_vault (code : Code) (rs : List Record) : (s.endAll code rs).vault = s.vault := by
  refine State.foldl_vault (fun u r => ?_) rs s
  unfold State.endRecord
  split <;> simp

@[simp] theorem State.enterActive_vault (r : Record) : (s.enterActive r).vault = s.vault := by
  rw [(State.Received.enterActive s r).rest]
  rfl

@[simp] theorem State.create_vault (c : Context) (w : Window) : (s.create (c.alert w)).vault = s.vault := by
  rw [(State.Received.create s c w).rest]
  rfl

/-! ## Deliveries (R122 to R127) -/

@[simp] theorem State.countDelivery_vault (r : Record) : (s.countDelivery r).vault = s.vault := by
  unfold State.countDelivery
  dsimp only
  split_ifs <;> simp

@[simp] theorem State.lastFrame_vault (r : Record) : (s.lastFrame r).vault = s.vault := by
  unfold State.lastFrame
  dsimp only
  split <;> simp

@[simp] theorem State.takeSequenceFrame_vault (d : Delivery) : (s.takeSequenceFrame d).vault = s.vault := by
  unfold State.takeSequenceFrame
  split
  · dsimp only
    split
    · rw [State.lastFrame_vault]
      rfl
    · rfl
  · rfl

@[simp] theorem State.takeDeliveryWork_vault : s.takeDeliveryWork.vault = s.vault := by
  unfold State.takeDeliveryWork State.beginDelivery
  split
  · split
    · exact State.takeSequenceFrame_vault _ _
    · rfl
  · split <;> rfl

@[simp] theorem State.arbitrateP_vault : s.arbitrateP.vault = s.vault := by
  have forwarded : s.takeForwarded.vault = s.vault := by
    unfold State.takeForwarded
    split <;> rfl
  have replied : s.takeReply.vault = s.vault := by
    unfold State.takeReply
    split <;> rfl
  unfold State.arbitrateP
  split
  · exact s.takeSequenceFrame_vault _
  · split_ifs
    · exact replied
    · exact forwarded
    · exact s.takeDeliveryWork_vault
    · rfl
    · exact forwarded

/-! ## The history index -/

@[simp] theorem State.offerAll_vault (ks : List Key) : (s.offerAll ks).vault = s.vault := by
  refine State.foldl_vault (fun u k => ?_) ks s
  rcases u.offer_cases k with ⟨_, h⟩ | ⟨_, _, h⟩ | ⟨_, h⟩ <;> rw [h] <;> rfl

@[simp] theorem State.putEntry_vault (f : EntryFields) : (s.putEntry f).vault = s.vault := (State.Refills.putEntry f s).vault

@[simp] theorem State.sweepUnpersisted_vault : s.sweepUnpersisted.vault = s.vault := by rw [State.sweepUnpersisted_eq]; rfl

@[simp] theorem State.afterRemovals_vault (due : Option Key) : (s.afterRemovals due).vault = s.vault := by
  rcases s.afterRemovals_cases due with ⟨_, _, h⟩ | ⟨_, h⟩ <;> simp [h]

@[simp] theorem State.removeEntry_vault (k : Key) : (s.removeEntry k).vault = s.vault := rfl

@[simp] theorem State.makeRoom_vault : s.makeRoom.vault = s.vault := by
  unfold State.makeRoom
  split
  · rfl
  · split <;> simp

@[simp] theorem State.takeNotice_vault (k : Key) (r : BitVec 4) (horizon : Nat) : (s.takeNotice k r horizon).vault = s.vault := by
  unfold State.takeNotice State.endKey
  split <;> simp

@[simp] theorem State.takeWithdrawal_vault (k : Key) (r : BitVec 4) (horizon : Nat) :
    (s.takeWithdrawal k r horizon).vault = s.vault := by
  unfold State.takeWithdrawal State.endKey
  split <;> simp

@[simp] theorem State.sweepExpired_vault : s.sweepExpired.vault = s.vault := by
  unfold State.sweepExpired
  split
  · rw [State.afterRemovals_vault]
    refine State.foldl_vault (fun u k => ?_) _ s
    rfl
  · rfl

/-! ## The history store (R173 to R187) -/

@[simp] theorem State.checkRamOnly_vault : s.checkRamOnly.vault = s.vault := by
  unfold State.checkRamOnly
  split <;> rfl

@[simp] theorem State.openSuccessor_vault : s.openSuccessor.vault = s.vault := by
  unfold State.openSuccessor
  split
  · split <;> rfl
  · rfl

@[simp] theorem State.closeCurrent_vault (k : Nat) : (s.closeCurrent k).vault = s.vault := by
  unfold State.closeCurrent
  split <;> rfl

@[simp] theorem State.examineReclaim_vault : s.examineReclaim.vault = s.vault := by
  rcases s.examineReclaim_cases with ⟨_, k, _, h⟩ | h <;> rw [h]
  exact State.offerAll_vault _ _

@[simp] theorem State.finishClear_vault (tag : Byte) : (s.finishClear tag).vault = s.vault := rfl

@[simp] theorem State.settleClear_vault : s.settleClear.vault = s.vault := by
  unfold State.settleClear
  cases s.store.clear with
  | none => rfl
  | some c =>
    dsimp only
    cases (s.sectorsIn .erased).head? with
    | none => split_ifs <;> simp
    | some k =>
      split_ifs
      · rfl
      · simp
      · rfl
      · rfl

@[simp] theorem State.startWrite_vault : s.startWrite.vault = s.vault := by
  unfold State.startWrite
  split
  · split <;> rfl
  · rfl

theorem State.writeCommitted_vault (w : SlotProgram) : (s.writeCommitted w).vault = s.vault := by
  unfold State.writeCommitted
  dsimp only
  rw [State.sweepUnpersisted_vault]
  split <;> rfl

theorem State.closeCurrent_if_vault (p : Prop) [Decidable p] (k : Nat) : (if p then s.closeCurrent k else s).vault = s.vault := by
  split <;> simp

theorem State.writeFailed_vault (w : SlotProgram) (x : Slot) : (s.writeFailed w x).vault = s.vault := by
  unfold State.writeFailed
  refine (State.closeCurrent_if_vault _ _ _).trans ?_
  split
  · rfl
  · exact State.sweepUnpersisted_vault _

@[simp] theorem State.slotProgramEnd_vault (verify : SlotVerify) (w : SlotProgram) : (s.slotProgramEnd verify w).vault = s.vault := by
  have used (u : State) : (u.slotUsed w.sector).vault = u.vault :=
    (State.examineReclaim_vault _).trans (u.closeCurrent_if_vault _ _)
  unfold State.slotProgramEnd
  rw [used]
  cases verify
  · exact State.writeCommitted_vault _ w
  · exact State.writeFailed_vault _ w _
  · exact State.writeFailed_vault _ w _

@[simp] theorem State.startAmend_vault : s.startAmend.vault = s.vault := by
  unfold State.startAmend
  split <;> rfl

@[simp] theorem State.amendEnd_vault (passed : Bool) (r : AmendRequest) : (s.amendEnd passed r).vault = s.vault := by
  unfold State.amendEnd
  dsimp only
  split
  · unfold State.amendPassed State.opened
    dsimp only
    split
    · split
      · split <;> rfl
      · rfl
    · rw [State.examineReclaim_vault, State.openSuccessor_vault]
      rfl
    · exact State.settleClear_vault _
    · rfl
  · unfold State.amendFailed
    dsimp only
    split_ifs
    · rfl
    · rfl
    · rw [State.settleClear_vault, State.openSuccessor_vault, State.checkRamOnly_vault]
      rfl

@[simp] theorem State.startErase_vault : s.startErase.vault = s.vault := by
  unfold State.startErase
  split <;> rfl

@[simp] theorem State.endErase_vault (passed : Bool) (k : Nat) : (s.endErase passed k).vault = s.vault := by
  unfold State.endErase
  dsimp only
  split
  · rw [State.erasePassed, State.settleClear_vault, State.examineReclaim_vault, State.openSuccessor_vault]
    rfl
  · rw [State.eraseFailed, State.settleClear_vault, State.examineReclaim_vault, State.checkRamOnly_vault]
    rfl

/-- The end of the scan reads the slots into the override windows, and leaves them (R39, R189). -/
theorem State.endScan_vault : s.endScan.vault = s.vault := by
  rw [State.endScan_eq]
  exact State.examineReclaim_vault _

/-! ## Requests, but for the two that ask for a program -/

@[simp] theorem State.answer_vault (p : List Byte) (result : Result) (data : List Byte) : (s.answer p result data).vault = s.vault := rfl

theorem State.getCounters_vault (p : List Byte) : (s.getCounters p).vault = s.vault := by
  have cleared (u : State) (group : Nat) : (u.clearGroup group).vault = u.vault := by
    unfold State.clearGroup
    split <;> rfl
  unfold State.getCounters
  dsimp only
  split
  · rfl
  · split_ifs <;> simp [cleared]

theorem State.setTime_vault (p : List Byte) : (s.setTime p).vault = s.vault :=
  State.foldl_vault (fun _ _ => State.putEntry_vault _ _) _ _

theorem State.setPosition_vault (p : List Byte) : (s.setPosition p).vault = s.vault := by
  have judged (u : State) (r : Record) : (u.judgeHeld r).vault = u.vault := by
    unfold State.judgeHeld
    dsimp only
    split <;> simp
  unfold State.setPosition State.acceptPosition
  split
  · exact State.foldl_vault judged _ _
  · rfl

theorem State.loadWindow_vault (p : List Byte) : (s.loadWindow p).vault = s.vault := by
  unfold State.loadWindow
  dsimp only
  split
  · rfl
  · split_ifs <;> rfl

theorem State.muteWindow_vault (p : List Byte) : (s.muteWindow p).vault = s.vault := by
  unfold State.muteWindow
  dsimp only
  split
  · rfl
  · split_ifs <;> rfl

theorem State.readWindow_vault (p : List Byte) : (s.readWindow p).vault = s.vault := by
  unfold State.readWindow
  dsimp only
  split <;> rfl

theorem State.acknowledge_vault (p : List Byte) : (s.acknowledge p).vault = s.vault := by
  unfold State.acknowledge
  split
  · rfl
  · split
    · rfl
    · rfl
    · simp
    · split <;> rfl

theorem State.fetchRecord_vault (p : List Byte) : (s.fetchRecord p).vault = s.vault := by
  unfold State.fetchRecord
  split
  · rfl
  · split <;> rfl

theorem State.configure_vault (p : List Byte) : (s.configure p).vault = s.vault := by
  unfold State.configure
  split <;> rfl

theorem State.clearHistory_vault (p : List Byte) : (s.clearHistory p).vault = s.vault := by
  unfold State.clearHistory
  split
  · rfl
  · exact (State.settleClear_vault _).trans (State.Refills.refillIndex s.reserve).vault

/-! ## The reassembly unit -/

@[simp] theorem State.setContext_vault (n : Nat) (c : Option Context) : (s.setContext n c).vault = s.vault := rfl

@[simp] theorem State.contextError_vault (n : Nat) (c : Context) : (s.contextError n c).vault = s.vault := by
  unfold State.contextError
  split <;> rfl

@[simp] theorem State.afterAccept_vault (n : Nat) (c : Context) : (s.afterAccept n c).vault = s.vault := by
  unfold State.afterAccept State.awaitCompletion
  split_ifs <;> simp

@[simp] theorem State.allocateFor_vault (f : Fragment) (rank : Nat) : (s.allocateFor f rank).vault = s.vault := by
  unfold State.allocateFor State.allocate
  split
  · simp
  · split <;> simp

@[simp] theorem State.join_vault (n : Nat) (c : Context) (f : Fragment) : (s.join n c f).vault = s.vault := by
  unfold State.join
  dsimp only
  split_ifs <;> simp

@[simp] theorem State.takePayload_vault (p : List Byte) : (s.takePayload p).vault = s.vault := by
  have noticed (f : Fragment) (w : Window) : (s.takeNoticeFragment f w).vault = s.vault := by
    unfold State.takeNoticeFragment
    split
    · rfl
    · split <;> simp
  unfold State.takePayload
  split
  · rfl
  · split
    · exact (OnlyChanges.takeUnlisted s p).vault (by decide)
    · split
      · simp
      · exact noticed _ _

@[simp] theorem State.finishCompletion_vault : s.finishCompletion.vault = s.vault := by
  have settled (n : Nat) (c : Context) (u : State) : (u.settleCompletion n c).vault = u.vault := by
    unfold State.settleCompletion
    split
    · rfl
    · split <;> simp
  unfold State.finishCompletion
  split
  · rfl
  · dsimp only
    split <;> simp [settled]

theorem State.takeOldest_vault (interrupted : Bool) (p : List Byte) : (s.takeOldest interrupted p).vault = s.vault := by
  have taken : (s.popFragment.takePayload p).vault = s.vault := State.takePayload_vault _ p
  unfold State.takeOldest
  dsimp only
  split <;> simp [taken]

/-! ## The events of an epoch -/

theorem State.advanceEpoch_vault : s.advanceEpoch.vault = s.vault := by rw [State.advanceEpoch_eq]; rfl

theorem State.sweepContexts_vault : s.sweepContexts.vault = s.vault := by rw [State.sweepContexts_eq]; rfl

theorem State.examineHeld_vault : s.examineHeld.vault = s.vault :=
  State.foldl_vault (fun u r => by simp) _ s

end

end Sys2Proof.Machine
end

section
/-!
PROOFS. What every step keeps of the provisioning slots (R184 to R186, R190): a locked slot is not programmed, and its content stands through
every command, every reset and every loss of power.
-/

namespace Sys2Proof.Machine

/-! ## Slots read, programmed and cut -/

/-- No content of a slot is unknown. -/
def ProvisioningSlot.Known (p : ProvisioningSlot) : Prop := ∀ x ∈ p.copies, x.unknown = false

/-- A slot after the end of a program of it (R185, R186). -/
def ProvisioningSlot.programmed (passed : Bool) (target : ProvisioningTarget) (p : ProvisioningSlot) : ProvisioningSlot :=
  match target with
  | .copy n b => { p with copies := p.copies.set n (if passed then .committed b else .void) }
  | .lock _ => { p with lock := if passed then .set else .doubtful }

/-- A slot after a program of it was cut (R190). -/
def ProvisioningSlot.cut (target : ProvisioningTarget) (p : ProvisioningSlot) : ProvisioningSlot :=
  match target with
  | .copy n b => { p with copies := p.copies.set n (.cut b) }
  | .lock _ => { p with lock := .doubtful }

theorem ProvisioningSlot.Known.programmed {p : ProvisioningSlot} (h : p.Known) (passed : Bool) (target : ProvisioningTarget) :
    (p.programmed passed target).Known := by
  cases target with
  | copy n b =>
    intro x hx
    rcases List.mem_or_eq_of_mem_set hx with hx | rfl
    · exact h x hx
    · cases passed <;> rfl
  | lock again => exact h

/-- A program that fails does not lock its slot. -/
theorem ProvisioningSlot.programmed_unlocked {p : ProvisioningSlot} (h : p.locked = false) (target : ProvisioningTarget) :
    (p.programmed false target).locked = false := by
  cases target with
  | copy n b => exact h
  | lock again => rfl

/-- A program that is cut does not lock its slot. -/
theorem ProvisioningSlot.cut_unlocked {p : ProvisioningSlot} (h : p.locked = false) (target : ProvisioningTarget) :
    (p.cut target).locked = false := by
  cases target with
  | copy n b => exact h
  | lock again => rfl

/-- The scan leaves no content unknown. -/
theorem ProvisioningSlot.resolve_known (scan slot : Nat) (p : ProvisioningSlot) : (p.resolve scan slot).Known := by
  intro x hx
  obtain ⟨i, _, rfl⟩ := List.mem_mapIdx.mp hx
  cases p.copies[i] with
  | cut b => simp only [Copy.resolve]; split <;> rfl
  | _ => rfl

/-- A locked slot with no content unknown reads as it is. -/
theorem ProvisioningSlot.resolve_of_locked {p : ProvisioningSlot} (locked : p.locked = true) (known : p.Known) (scan slot : Nat) :
    p.resolve scan slot = p := by
  have lock : p.lock.resolve scan slot = p.lock := by rw [ProvisioningSlot.locked_iff.mp locked]; rfl
  have copies : p.copies.mapIdx (Copy.resolve scan slot) = p.copies := by
    refine List.mapIdx_eq_iff.mpr fun i => ?_
    cases hi : p.copies[i]? with
    | none => rfl
    | some x =>
      have := known x (List.mem_of_getElem? hi)
      cases x with
      | cut b => cases this
      | _ => rfl
  rw [ProvisioningSlot.resolve, lock, copies]

/-! ## The slots of the array -/

/-- A provisioning slot of the array; one it does not have is blank and not locked. -/
def NvArray.slot (a : NvArray) (n : Nat) : ProvisioningSlot := a.provisioning.getD n ⟨[], .clear⟩

theorem NvArray.slot_congr {a b : NvArray} (h : b.provisioning = a.provisioning) (n : Nat) : b.slot n = a.slot n := by
  rw [NvArray.slot, h, NvArray.slot]

/-- An update of slot `k` reaches no other slot. -/
theorem NvArray.slot_of_modify {a b : NvArray} {k : Nat} {f : ProvisioningSlot → ProvisioningSlot}
    (h : b.provisioning = a.provisioning.modify k f) (n : Nat) : b.slot n = a.slot n ∨ (n = k ∧ b.slot n = f (a.slot n)) := by
  simp only [NvArray.slot, h, List.getD_eq_getElem?_getD, List.getElem?_modify]
  by_cases hk : k = n
  · cases a.provisioning[n]? <;> simp [hk]
  · simp [hk]

theorem NvArray.slot_resolve (scan : Nat) (a : NvArray) (n : Nat) : (a.resolve scan).slot n = (a.slot n).resolve scan n := by
  simp only [NvArray.slot, NvArray.resolve, List.getD_eq_getElem?_getD, List.getElem?_mapIdx]
  cases a.provisioning[n]? <;> rfl

/-! ## The law -/

/-- An operation keeps the law of the provisioning slots, and the lock and the content of each locked slot (R184). -/
def State.KeepsLocked (s t : State) : Prop :=
  s.provisioningSound →
    t.provisioningSound ∧
      ∀ n, (s.provisioningSlot n).locked = true →
        (t.provisioningSlot n).locked = true ∧ (t.provisioningSlot n).content = (s.provisioningSlot n).content

/-- The locked slots of the part stand in an array as they are. -/
def State.LockedStandIn (s : State) (a : NvArray) : Prop := ∀ n, (s.provisioningSlot n).locked = true → a.slot n = s.provisioningSlot n

section
variable {s t : State}

theorem State.KeepsLocked.refl (s : State) : s.KeepsLocked s := fun sound => ⟨sound, fun _ locked => ⟨locked, rfl⟩⟩

theorem State.KeepsLocked.trans {u : State} (h : s.KeepsLocked t) (h' : t.KeepsLocked u) : s.KeepsLocked u := by
  intro sound
  obtain ⟨sound, kept⟩ := h sound
  obtain ⟨sound, kept'⟩ := h' sound
  refine ⟨sound, fun n locked => ?_⟩
  obtain ⟨locked, content⟩ := kept n locked
  obtain ⟨locked, content'⟩ := kept' n locked
  exact ⟨locked, content'.trans content⟩

theorem State.KeepsLocked.of_vault (h : t.vault = s.vault) : s.KeepsLocked t := by
  simp only [State.vault, Prod.mk.injEq] at h
  obtain ⟨powered, job, slots⟩ := h
  have slot (n : Nat) : t.provisioningSlot n = s.provisioningSlot n := by simp only [State.provisioningSlot, slots]
  rintro ⟨unlocked, known⟩
  refine ⟨⟨fun j hj => slot j.slot ▸ unlocked j (job ▸ hj), fun n => ?_⟩, fun n locked => ?_⟩
  · rw [slot, powered]
    exact known n
  · rw [slot]
    exact ⟨locked, rfl⟩

/-- The outputs follow (R166, R174). -/
theorem State.KeepsLocked.settled (h : s.KeepsLocked t) : s.KeepsLocked t.settle := h.trans (.of_vault rfl)

/-- An event of the powered part whose effect keeps the law. -/
theorem State.KeepsLocked.of_occur {ready : Bool} {effect : State → State} (h : s.occur ready effect = .next t)
    (hu : s.powered = true → s.KeepsLocked (effect s)) : s.KeepsLocked t := by
  rcases State.occur_cases h with ⟨on, _, rfl⟩ | ⟨_, rfl⟩
  · exact (hu on).settled
  · exact .refl _

theorem State.KeepsLocked.of_silent {ready : Bool} {effect : State → State} (h : s.occur ready effect = .next t)
    (hu : (effect s).vault = s.vault) : s.KeepsLocked t := .of_occur h fun _ => .of_vault hu

/-- A request, whatever its checks find (R195). -/
theorem State.KeepsLocked.carryOut (r : Request) {own : List Byte → State → State} (ho : ∀ p, s.popRequest.KeepsLocked (own p s.popRequest)) :
    s.KeepsLocked (s.carryOut r own) := by
  unfold State.carryOut
  dsimp only
  split
  · exact .of_vault rfl
  · exact (State.KeepsLocked.of_vault rfl).trans (ho _)

theorem State.KeepsLocked.of_request {ready : Bool} {r : Request} {own : List Byte → State → State}
    (h : s.occur ready (State.carryOut r own) = .next t) (ho : ∀ p (u : State), (own p u).vault = u.vault) : s.KeepsLocked t :=
  .of_occur h fun _ => .carryOut r fun p => .of_vault (ho p _)

/-! ## Provisioning (R185, R186) -/

/-- A program is asked for only of a slot that is not locked. -/
theorem State.KeepsLocked.requestProgram {p : List Byte} (target : ProvisioningTarget)
    (unlocked : ¬ (s.provisioningSlot (argAt p 0).toNat).locked = true) : s.KeepsLocked (s.requestProgram p target) := by
  rintro ⟨_, known⟩
  refine ⟨⟨?_, known⟩, fun _ locked => ⟨locked, rfl⟩⟩
  rintro j ⟨⟩
  exact Bool.eq_false_of_not_eq_true unlocked

theorem State.KeepsLocked.provision (s : State) (p : List Byte) : s.KeepsLocked (s.provision p) := by
  unfold State.provision
  dsimp only
  split
  · exact .of_vault rfl
  · split_ifs with _ _ locked
    · exact .of_vault rfl
    · exact .of_vault rfl
    · exact .of_vault rfl
    · split
      · exact .of_vault rfl
      · exact .requestProgram _ locked

theorem State.KeepsLocked.lockProvision (s : State) (p : List Byte) : s.KeepsLocked (s.lockProvision p) := by
  unfold State.lockProvision
  dsimp only
  split_ifs with _ _ locked
  · exact .of_vault rfl
  · exact .of_vault rfl
  · exact .of_vault rfl
  · exact .requestProgram _ locked

theorem State.endJob_vault (s : State) (j : ProvisioningJob) (result : Result) :
    (s.endJob j result).vault = (s.powered, none, s.array.provisioning) := rfl

/-- All that the end of a program can do: its slot is programmed, and where a further attempt follows, it has failed and goes to the same
slot. -/
theorem State.provisioningEnd_vault (s : State) (passed : Bool) (j : ProvisioningJob) :
    ∃ job, (s.provisioningEnd passed j).vault =
        (s.powered, job, s.array.provisioning.modify j.slot (ProvisioningSlot.programmed passed j.target)) ∧
      ∀ i, job = some i → passed = false ∧ i.slot = j.slot := by
  have ends (u : State) (result : Result) (h : u.powered = s.powered) (slots : u.array.provisioning =
      s.array.provisioning.modify j.slot (ProvisioningSlot.programmed passed j.target)) :
      ∃ job, (u.endJob j result).vault =
          (s.powered, job, s.array.provisioning.modify j.slot (ProvisioningSlot.programmed passed j.target)) ∧
        ∀ i, job = some i → passed = false ∧ i.slot = j.slot :=
    ⟨none, by rw [State.endJob_vault, h, slots], nofun⟩
  unfold State.provisioningEnd
  dsimp only
  split
  · next ok =>
    unfold State.provisioningPassed
    dsimp only
    split
    · next n b target => exact ends _ _ rfl (by rw [target, ok]; rfl)
    · next again target => exact ends _ _ rfl (by rw [target, ok]; rfl)
  · next fails =>
    have fails : passed = false := Bool.eq_false_of_not_eq_true fails
    unfold State.provisioningFailed
    dsimp only
    split
    · next n b target =>
      split
      · next m _ =>
        refine ⟨some { j with target := .copy m b }, by rw [target, fails]; rfl, ?_⟩
        rintro i ⟨⟩
        exact ⟨fails, rfl⟩
      · exact ends _ _ rfl (by rw [target, fails]; rfl)
    · next again target =>
      split
      · exact ends _ _ rfl (by rw [target, fails]; rfl)
      · refine ⟨some { j with target := .lock true }, by rw [target, fails]; rfl, ?_⟩
        rintro i ⟨⟩
        exact ⟨fails, rfl⟩

/-- The slot that is being programmed is not locked, so that an update of it leaves the locked ones. -/
theorem State.provisioningSound.lockedStandIn (sound : s.provisioningSound) {j : ProvisioningJob} (hj : s.store.job = some j) {a : NvArray}
    {f : ProvisioningSlot → ProvisioningSlot} (h : a.provisioning = s.array.provisioning.modify j.slot f) : s.LockedStandIn a := by
  intro n locked
  refine (NvArray.slot_of_modify h n).resolve_right fun ⟨same, _⟩ => ?_
  rw [same, sound.1 j hj] at locked
  cases locked

theorem State.KeepsLocked.provisioningEnd {j : ProvisioningJob} (on : s.powered = true) (hj : s.store.job = some j) (passed : Bool) :
    s.KeepsLocked (s.provisioningEnd passed j) := by
  intro sound
  obtain ⟨job, ended, again⟩ := s.provisioningEnd_vault passed j
  simp only [State.vault, Prod.mk.injEq] at ended
  obtain ⟨-, hjob, slots⟩ := ended
  have slot := NvArray.slot_of_modify slots
  refine ⟨⟨fun i hi => ?unlocked, fun n _ => ?known⟩, fun n locked => ?stands⟩
  case unlocked =>
    obtain ⟨rfl, same⟩ := again i (hjob ▸ hi)
    have before : (s.provisioningSlot i.slot).locked = false := same ▸ sound.1 j hj
    rcases slot i.slot with h | ⟨_, h⟩
    · exact (congrArg ProvisioningSlot.locked h).trans before
    · exact (congrArg ProvisioningSlot.locked h).trans (ProvisioningSlot.programmed_unlocked before _)
  case known =>
    have before : (s.array.slot n).Known := sound.2 n (.inr on)
    rcases slot n with h | ⟨_, h⟩
    · exact (congrArg ProvisioningSlot.Known h).mpr before
    · exact (congrArg ProvisioningSlot.Known h).mpr (before.programmed passed _)
  case stands =>
    have same : (s.provisioningEnd passed j).provisioningSlot n = s.provisioningSlot n := sound.lockedStandIn hj slots n locked
    rw [same]
    exact ⟨locked, rfl⟩

/-! ## Resets and the loss of power (R190) -/

/-- What a cut leaves of the provisioning slots: at most the slot of a program is cut. -/
theorem State.arrayCut_provisioning (s : State) :
    s.arrayCut.provisioning = s.array.provisioning ∨
      ∃ j, s.store.job = some j ∧ s.arrayCut.provisioning = s.array.provisioning.modify j.slot (ProvisioningSlot.cut j.target) := by
  unfold State.arrayCut
  rcases s.store.running with _ | (w | r | _) <;> rcases s.store.job with _ | ⟨tag, slot, target⟩
  case some.provisioning.some =>
    refine .inr ⟨_, rfl, ?_⟩
    cases target <;> rfl
  all_goals exact .inl rfl

/-- What the end of a program before a soft reset leaves of the provisioning slots: at most the slot of a program is programmed. -/
theorem State.arrayEnded_provisioning (s : State) (verify : SlotVerify) :
    (s.arrayEnded verify).provisioning = s.array.provisioning ∨
      ∃ j, s.store.job = some j ∧
        (s.arrayEnded verify).provisioning = s.array.provisioning.modify j.slot (ProvisioningSlot.programmed (verify = .passed) j.target) := by
  unfold State.arrayEnded
  rcases s.store.running with _ | (w | r | _) <;> rcases s.store.job with _ | ⟨tag, slot, target⟩
  case some.provisioning.some =>
    refine .inr ⟨_, rfl, ?_⟩
    cases target <;> cases verify <;> rfl
  all_goals exact .inl rfl

theorem State.provisioningSound.arrayCut (sound : s.provisioningSound) : s.LockedStandIn s.arrayCut := by
  rcases s.arrayCut_provisioning with h | ⟨j, hj, h⟩
  · exact fun n _ => NvArray.slot_congr h n
  · exact sound.lockedStandIn hj h

theorem State.provisioningSound.arrayEnded (sound : s.provisioningSound) (verify : SlotVerify) : s.LockedStandIn (s.arrayEnded verify) := by
  rcases s.arrayEnded_provisioning verify with h | ⟨j, hj, h⟩
  · exact fun n _ => NvArray.slot_congr h n
  · exact sound.lockedStandIn hj h

/-- A reset, over an array in which the locked slots stand: the scan reads them as they are (R188). -/
theorem State.KeepsLocked.endReset {u : State} (stands : s.provisioningSound → s.LockedStandIn u.array) (soft : Bool) (rate : BitVec 2)
    (worn : Nat) : s.KeepsLocked (u.endReset soft rate worn) := by
  intro sound
  obtain ⟨a, x, left, quiet, begun⟩ := u.endReset_cases soft rate worn
  have read (n : Nat) : (u.endReset soft rate worn).provisioningSlot n = (u.array.slot n).resolve (u.scans + 1) n := by
    rw [left, ← NvArray.slot_resolve]
    exact NvArray.slot_congr begun.1 n
  have idle : (u.endReset soft rate worn).store.job = none := by rw [left]; exact quiet.job
  refine ⟨⟨fun j hj => (by rw [idle] at hj; cases hj), fun n _ => ?_⟩, fun n locked => ?_⟩
  · rw [read]
    exact ProvisioningSlot.resolve_known _ _ _
  · rw [read, stands sound n locked, ProvisioningSlot.resolve_of_locked locked (sound.2 n (.inl locked))]
    exact ⟨locked, rfl⟩

theorem State.KeepsLocked.hardReset (s : State) (rate : BitVec 2) (worn : Nat) : s.KeepsLocked (s.hardReset rate worn) :=
  .endReset (fun sound => by rw [State.cutErase_cutProgram]; exact sound.arrayCut) _ _ _

theorem State.KeepsLocked.softReset (s : State) (rate : BitVec 2) (verify : SlotVerify) (worn : Nat) :
    s.KeepsLocked (s.softReset rate verify worn) :=
  .endReset (fun sound => by rw [State.cutErase_finishProgram]; exact sound.arrayEnded verify) _ _ _

/-- A loss of power locks no slot, so that the slots locked after it are those locked before. -/
theorem State.KeepsLocked.losePower (s : State) : s.KeepsLocked s.losePower := by
  intro sound
  have slot (n : Nat) : s.losePower.provisioningSlot n = s.arrayCut.slot n := by
    unfold State.losePower
    rw [State.cutErase_cutProgram]
    rfl
  have locks (n : Nat) (h : (s.arrayCut.slot n).locked = true) : (s.array.slot n).locked = true := by
    rcases s.arrayCut_provisioning with same | ⟨j, _, cut⟩
    · exact NvArray.slot_congr same n ▸ h
    · rcases NvArray.slot_of_modify cut n with same | ⟨_, cut⟩
      · exact same ▸ h
      · by_contra unlocked
        rw [cut, ProvisioningSlot.cut_unlocked (Bool.eq_false_of_not_eq_true unlocked)] at h
        cases h
  refine ⟨⟨nofun, fun n locked => ?_⟩, fun n locked => ?_⟩
  · have after : (s.arrayCut.slot n).locked = true := slot n ▸ locked.resolve_right nofun
    have before := locks n after
    rw [slot, sound.arrayCut n before]
    exact sound.2 n (.inl before)
  · rw [slot, sound.arrayCut n locked]
    exact ⟨locked, rfl⟩
end

/-! ## Every step -/

theorem exec_keepsLocked {s t : State} (c : Instr) (h : exec c s = .next t) : s.KeepsLocked t := by
  cases c with
  | powerOnReset rate worn =>
    cases h
    exact (State.KeepsLocked.hardReset s rate worn).settled
  | pinReset rate worn => exact .of_occur h fun _ => .hardReset s rate worn
  | scanEnd => exact .of_silent h s.endScan_vault
  | epoch => exact .of_silent h s.advanceEpoch_vault
  | contextTimeout =>
    rw [exec, execContextTimeout] at h
    exact .of_silent h (State.sweepContexts_vault _)
  | expirySweep =>
    rw [exec, execExpirySweep] at h
    exact .of_silent h (State.sweepExpired_vault _)
  | positionStale =>
    rw [exec, execPositionStale] at h
    exact .of_silent h ((OnlyChanges.checkPosition _).vault (by decide))
  | heldLifetimeEnd =>
    rw [exec, execHeldLifetimeEnd] at h
    exact .of_silent h (State.examineHeld_vault _)
  | recordExpiry =>
    rw [exec, execRecordExpiry] at h
    exact .of_silent h (State.endAll_vault _ _ _)
  | flushCountdown => exact .of_silent h rfl
  | reminderStep => exact .of_silent h rfl
  | headerEnd port byte => exact .of_silent h rfl
  | frameEnd port byte => exact .of_silent h rfl
  | gapError port => exact .of_silent h rfl
  | mSorter =>
    rw [exec, execMSorter] at h
    split at h
    · exact .of_silent h (s.sortM_vault _)
    · exact .of_silent h rfl
  | pSorter =>
    rw [exec, execPSorter] at h
    split at h
    · exact .of_silent h (s.sortP_vault _)
    · exact .of_silent h rfl
  | holdInput port level =>
    cases h
    exact .of_vault rfl
  | pPortArbiter => exact .of_silent h s.arbitrateP_vault
  | mPortArbiter => exact .of_silent h s.arbitrateM_vault
  | frameSent port => exact .of_silent h (s.frameSent_vault port)
  | takeFragment interrupted =>
    rw [exec, execTakeFragment] at h
    split at h
    · exact .of_silent h s.finishCompletion_vault
    · exact .of_silent h (s.takeOldest_vault interrupted _)
    · exact .of_silent h rfl
  | getStatus => exact .of_request h fun _ _ => rfl
  | getCounters => exact .of_request h fun p u => u.getCounters_vault p
  | setTime => exact .of_request h fun p u => u.setTime_vault p
  | setPosition => exact .of_request h fun p u => u.setPosition_vault p
  | loadWindow => exact .of_request h fun p u => u.loadWindow_vault p
  | muteWindow => exact .of_request h fun p u => u.muteWindow_vault p
  | readWindow => exact .of_request h fun p u => u.readWindow_vault p
  | provision => exact .of_occur h fun _ => .carryOut _ fun p => .provision _ p
  | lockProvision => exact .of_occur h fun _ => .carryOut _ fun p => .lockProvision _ p
  | acknowledge => exact .of_request h fun p u => u.acknowledge_vault p
  | fetchRecord => exact .of_request h fun p u => u.fetchRecord_vault p
  | flushAlerts => exact .of_request h fun _ u => u.endAll_vault _ _
  | configure => exact .of_request h fun p u => u.configure_vault p
  | clearHistory => exact .of_request h fun p u => u.clearHistory_vault p
  | reset rate verify worn => exact .of_occur h fun _ => .carryOut _ fun _ => .softReset _ rate verify worn
  | unknownRequest => exact .of_silent h rfl
  | historyWrite => exact .of_silent h s.startWrite_vault
  | slotProgramEnd verify =>
    rw [exec, execSlotProgramEnd] at h
    split at h
    · exact .of_silent h (s.slotProgramEnd_vault _ _)
    · exact .of_silent h rfl
  | headerAmend => exact .of_silent h s.startAmend_vault
  | headerAmendEnd passed =>
    rw [exec, execHeaderAmendEnd] at h
    split at h
    · exact .of_silent h (s.amendEnd_vault _ _)
    · exact .of_silent h rfl
  | eraseStart => exact .of_silent h s.startErase_vault
  | eraseSuspend ran => exact .of_silent h rfl
  | eraseResume => exact .of_silent h rfl
  | minimumRunEnd => exact .of_silent h rfl
  | eraseEnd passed =>
    rw [exec, execEraseEnd] at h
    split at h
    · exact .of_silent h (s.endErase_vault _ _)
    · exact .of_silent h rfl
  | provisioningProgram => exact .of_silent h rfl
  | provisioningProgramEnd passed =>
    rw [exec, execProvisioningProgramEnd] at h
    split at h
    · next job => exact .of_occur h fun on => .provisioningEnd on job passed
    · exact .of_silent h rfl
  | byteReceived port byte => exact .of_silent h rfl
  | powerLoss =>
    rw [exec, execPowerLoss] at h
    cases h
    split
    · exact .losePower s
    · exact .refl s

/-- Settles O59, event by event (`exec_keepsLocked`). -/
theorem lockedSlotsNeverChange : Obligations.LockedSlotsNeverChange := by
  intro s t sound h
  have kept : s.KeepsLocked t := by
    cases hq : s.pending with
    | nil =>
      simp only [step, hq] at h
      cases h
      exact .refl s
    | cons c rest =>
      simp only [step, hq] at h
      exact State.KeepsLocked.trans (.of_vault rfl) (exec_keepsLocked c h :)
  exact kept sound

end Sys2Proof.Machine
end

section
/-!
PROOFS. What the free controller starts, and the course of an erase between the programs (R173 to R178).
-/

namespace Sys2Proof.Machine

section
variable {s : State}

/-- The controller is free beside an erase that is SUSPENDED, and beside none (R173). -/
theorem State.controllerFree_of_suspended (idle : s.store.running = none) (stopped : ∀ x, s.store.erase = some x → x.condition = .suspended) :
    s.controllerFree = true := by
  unfold State.controllerFree
  cases h : s.store.erase with
  | none => simp [idle]
  | some x => simp [idle, stopped x h]

/-- A SUSPENDED erase is not asked to stop, so that the outputs change nothing of the store (R174). -/
theorem State.settle_store_of_suspended (stopped : ∀ x, s.store.erase = some x → x.condition = .suspended) {f : Store → Store}
    (kept : (f s.store).erase = s.store.erase) : (s.onStore f).settle.store = f s.store := by
  have stays : ((f s.store).erase.map fun e => e.askedToStop (s.onStore f).programWaiting) = (f s.store).erase := by
    rw [kept]
    cases h : s.store.erase with
    | none => rfl
    | some x => simp [Erase.askedToStop, stopped x h]
  rw [State.settle_store, State.onStore_store, stays]

theorem State.provisioningWaiting_of_no_job (h : s.store.job = none) : s.provisioningWaiting = false := by
  simp [State.provisioningWaiting, h]

/-! ## Amends and writes (R173, R177, R178) -/

/-- The oldest header amend starts, and from the first RETIRING amend of a clear on no sector is current (R187). -/
theorem State.startAmend_eq {r : AmendRequest} {rest : List AmendRequest} (waits : s.store.amends = r :: rest) :
    s.startAmend = s.onStore fun x =>
      { x with
        amends := rest
        running := some (.headerAmend r)
        current := if r.amend = .retiring ∧ x.clear ≠ none then none else x.current } := by
  simp only [State.startAmend, waits]
  simp [State.onStore, Option.isSome_iff_ne_none]

section
variable {n slot : Nat} {k : Key} {e : Entry} (current : s.store.current = some n) (next : (s.sector n).nextSlot = some slot)
include current next

/-- A history write waits while a key does, in an OPEN sector (R173). -/
theorem State.writeWaiting_of_key (opened : (s.sector n).state = .opened) (ram : s.store.ramOnly = false) (clear : s.store.clear = none)
    (waits : s.store.writes ≠ [] ∨ s.store.retry ≠ none) : s.writeWaiting = true := by
  have writable : s.writable = true := by simp [State.writable, current, opened, next]
  have key : (!s.store.writes.isEmpty || s.store.retry.isSome) = true := by
    simpa [Option.isSome_iff_ne_none] using waits
  simp [State.writeWaiting, key, writable, ram, clear]

/-- The write that starts: the entry's fields as they stand, programmed in the next slot (R177). -/
theorem State.startWrite_eq {retry : Bool} (takes : s.store.nextWrite = some (k, retry)) (found : s.index.find k = some e) :
    s.startWrite = s.onStore fun x =>
      { x.takeWrite k with
        running :=
          some (.slotProgram
            { sector := n, slot := slot, fields := e.fields, retry := retry, touched := false, removed := false }) } := by
  simp only [State.startWrite, takes, current, found, next]
end
end

/-- Settles O44: the free controller takes the oldest amend (`State.startAmend_eq`), else the key of the next write
(`State.startWrite_eq`). -/
theorem amendsAndWritesStart : Obligations.AmendsAndWritesStart := by
  refine ⟨fun s r rest on idle stopped noJob waits => ?amend,
    fun s n slot k e on idle stopped noJob noAmend ram clear current opened next found => ⟨fun rest noRetry list => ?first, fun due => ?retry⟩⟩
  case amend =>
    have ready : (s.controllerFree && !s.provisioningWaiting && !s.store.amends.isEmpty) = true := by
      simp [State.controllerFree_of_suspended idle stopped, State.provisioningWaiting_of_no_job noJob, waits]
    refine ⟨_, State.occur_of_ready on ready, ?_⟩
    rw [State.startAmend_eq waits]
    exact ⟨(OnlyChanges.onStore s _).settled (by simp), State.settle_store_of_suspended stopped rfl⟩
  all_goals
    have ready (key : s.store.writes ≠ [] ∨ s.store.retry ≠ none) : s.canWrite = true := by
      simp [State.canWrite, State.controllerFree_of_suspended idle stopped, State.provisioningWaiting_of_no_job noJob, noAmend,
        State.writeWaiting_of_key current next opened ram clear key]
  case first =>
    have takes : s.store.nextWrite = some (k, false) := by simp [Store.nextWrite, noRetry, list]
    refine ⟨_, State.occur_of_ready on (ready (.inl (by simp [list]))), ?_⟩
    rw [State.startWrite_eq current next takes found]
    refine ⟨(OnlyChanges.onStore s _).settled (by simp), ?_⟩
    rw [State.settle_store_of_suspended stopped rfl]
    simp [Store.takeWrite, list, noRetry]
  case retry =>
    have takes : s.store.nextWrite = some (k, true) := by simp [Store.nextWrite, due]
    refine ⟨_, State.occur_of_ready on (ready (.inr (by simp [due]))), ?_⟩
    rw [State.startWrite_eq current next takes found]
    exact ⟨(OnlyChanges.onStore s _).settled (by simp), State.settle_store_of_suspended stopped rfl⟩

/-! ## Erases (R173 to R175) -/

/-- Settles O47, event by event: what waits does not change with the condition of the erase, so that the outputs see it as it stood. -/
theorem erasesRunBetweenPrograms : Obligations.ErasesRunBetweenPrograms := by
  refine ⟨fun s k rest on read idle none queued noWait => ?start, fun s k ran now on flight lower upper => ?suspend,
    fun s k ran on idle noWait flight => ?resume, fun s k ran on flight short => ?minimumRun⟩
  case start =>
    have ready : (s.controllerFree && s.store.erase.isNone && !s.programWaiting && !s.store.erases.isEmpty && !s.scanning) = true := by
      simp [State.controllerFree, idle, none, noWait, queued, read]
    have started : s.startErase = s.onStore fun x => { x with erases := rest, erase := some ⟨k, .running, false, 0⟩ } := by
      simp [State.startErase, queued]
    refine ⟨_, State.occur_of_ready on ready, ?_⟩
    rw [started]
    refine ⟨(OnlyChanges.onStore s _).settled (by simp), ?_⟩
    have waiting : (s.onStore fun x => { x with erases := rest, erase := some ⟨k, .running, false, 0⟩ }).programWaiting = false := noWait
    simp [waiting, Erase.askedToStop]
  case suspend =>
    have ready : s.store.erase.any (Erase.canStop now) = true := by
      simp [flight, Erase.canStop, lower, upper, Config.eraseMicros]
    refine ⟨_, State.occur_of_ready on ready, ?_⟩
    have changed : OnlyChanges [.store, .index, .outputs] s (s.suspendErase now) :=
      ((OnlyChanges.onStore s _).mono (by simp)).trans ((OnlyChanges.countHistory _ _).mono (by simp))
    refine ⟨changed.settled (by simp), ?_, rfl⟩
    simp [State.suspendErase, State.countHistory, flight, Erase.askedToStop]
  case resume =>
    have ready : ((s.store.erase.any fun e => e.condition == .suspended) && s.store.running.isNone && !s.programWaiting) = true := by
      simp [flight, idle, noWait]
    refine ⟨_, State.occur_of_ready on ready, (OnlyChanges.onStore s _).settled (by simp), ?_⟩
    simp [State.resumeErase, flight, Erase.askedToStop]
  case minimumRun =>
    have ready : s.store.erase.any Erase.minimumRunEnds = true := by
      simp [flight, Erase.minimumRunEnds, Config.minimumRunMicros, Config.eraseMicros, short]
    refine ⟨_, State.occur_of_ready on ready, (OnlyChanges.onStore s _).settled (by simp), ?_⟩
    have waiting : s.endMinimumRun.programWaiting = s.programWaiting := rfl
    rw [State.settle_store, waiting]
    cases s.programWaiting <;> simp [State.endMinimumRun, flight, Erase.askedToStop, Config.minimumRunMicros]

end Sys2Proof.Machine
end

section
/-!
PROOFS. What follows an event of the array controller: the reclaim that may start (R180), the successor that may be asked for (R179), and the
course of a clear (R187), each as one of the statements' terms, for any state in which it is examined.
-/

namespace Sys2Proof.Machine

/-! ## What the rules look at -/

/-- The same sectors, current sector and modes of the store: all that the rules on rotation and reclaim look at. -/
structure State.Sees (u t : State) : Prop where
  array : t.array = u.array
  takenWorn : t.store.takenWorn = u.store.takenWorn
  current : t.store.current = u.store.current
  lastSequence : t.store.lastSequence = u.store.lastSequence
  clear : t.store.clear = u.store.clear
  ramOnly : t.store.ramOnly = u.store.ramOnly
  scanning : t.scanning = u.scanning

theorem State.isFirstSpare_congr {u t : State} (array : t.array = u.array) (worn : t.store.takenWorn = u.store.takenWorn) (k : Nat) :
    t.IsFirstSpare k ↔ u.IsFirstSpare k := by
  simp only [State.IsFirstSpare, State.sector, array, State.usableSectors_congr array worn]

namespace State.Sees

theorem refl (u : State) : u.Sees u := ⟨rfl, rfl, rfl, rfl, rfl, rfl, rfl⟩

theorem settle (u : State) : u.Sees u.settle := ⟨rfl, rfl, rfl, rfl, rfl, rfl, rfl⟩

theorem trans {u t v : State} (h : u.Sees t) (h' : t.Sees v) : u.Sees v :=
  ⟨h'.array.trans h.array, h'.takenWorn.trans h.takenWorn, h'.current.trans h.current, h'.lastSequence.trans h.lastSequence,
    h'.clear.trans h.clear, h'.ramOnly.trans h.ramOnly, h'.scanning.trans h.scanning⟩

variable {u t : State} (h : u.Sees t)
include h

theorem sector (k : Nat) : t.sector k = u.sector k := by rw [State.sector, h.array, State.sector]

theorem usableSectors : t.usableSectors = u.usableSectors := State.usableSectors_congr h.array h.takenWorn

theorem noSpare : t.NoSpare ↔ u.NoSpare := by simp only [State.NoSpare, h.sector, h.usableSectors]

theorem countsAsFull (k : Nat) : t.CountsAsFull k ↔ u.CountsAsFull k := by
  simp only [State.CountsAsFull, h.sector, h.usableSectors, h.current]

theorem isOldestFull (k : Nat) : t.IsOldestFull k ↔ u.IsOldestFull k := by
  simp only [State.IsOldestFull, h.sector, h.countsAsFull]

theorem isFirstSpare (k : Nat) : t.IsFirstSpare k ↔ u.IsFirstSpare k := State.isFirstSpare_congr h.array h.takenWorn k

theorem isNextSequence (q : Half) : t.IsNextSequence q ↔ u.IsNextSequence q := by
  simp only [State.IsNextSequence, h.sector, h.usableSectors, h.lastSequence]

end State.Sees

/-! ## Reclaim (R180) -/

/-- All that offers can do, whatever the keys: some join the list, some are counted. -/
theorem State.offerAll_rest (ks : List Key) (s : State) :
    ∃ writes deferrals, s.offerAll ks =
      { s with
        store := { s.store with writes := writes }
        index := { s.index with counters := { s.index.counters with writeDeferrals := deferrals } } } := by
  induction ks generalizing s with
  | nil => exact ⟨_, _, rfl⟩
  | cons k ks ih =>
    obtain ⟨writes, deferrals, rest⟩ := ih (s.offer k)
    have first : s.offerAll (k :: ks) = (s.offer k).offerAll ks := rfl
    rw [first, rest]
    rcases s.offer_cases k with ⟨_, h⟩ | ⟨_, _, h⟩ | ⟨_, h⟩ <;> rw [h] <;> exact ⟨_, _, rfl⟩

/-- The conditions of a reclaim have been examined: of the store only the list, the amends, the erases and the reclaims may have changed, of
the entries only locations in a sector that is not current. -/
structure State.Reclaims (u t : State) : Prop where
  rest : t =
    { u with
      index :=
        { entries := t.index.entries
          counters := { u.index.counters with writeDeferrals := t.index.counters.writeDeferrals } }
      store :=
        { u.store with
          writes := t.store.writes, amends := t.store.amends, erases := t.store.erases, reclaims := t.store.reclaims } }
  entries : t.index.entries = u.index.entries ∨ ∃ k, u.store.current ≠ some k ∧ t.index.entries = entriesReclaimed k u.index.entries
  amends : u.store.amends ⊆ t.store.amends

theorem State.Reclaims.refl (u : State) : u.Reclaims u := ⟨rfl, .inl rfl, List.Subset.refl _⟩

/-- A sector to reclaim counts as FULL, and is not the current one. -/
theorem State.countsAsFull_of_target {u : State} {k : Nat} (h : u.reclaimTarget = some k) : u.CountsAsFull k := by
  have mem : k ∈ u.bySequence (u.usableSectors.filter u.treatedAsFull) := List.mem_of_head? h
  simpa [State.mem_bySequence, State.treatedAsFull, State.CountsAsFull] using mem

theorem State.Reclaims.examineReclaim (u : State) : u.Reclaims u.examineReclaim := by
  rcases u.examineReclaim_cases with ⟨_, k, target, h⟩ | h <;> rw [h]
  · obtain ⟨_, other, _⟩ := State.countsAsFull_of_target target
    obtain ⟨writes, deferrals, offered⟩ := State.offerAll_rest ((u.index.entries.filter (Entry.livesIn k)).map (·.fields.key))
      (u.onIndex fun x => { x with entries := entriesReclaimed k x.entries })
    have started : u.startReclaim k = _ := congrArg (State.onStore fun x =>
      { x.requestAmend k .retiring with erases := x.erases ++ [k], reclaims := x.reclaims ++ [k] }) offered
    rw [started]
    exact ⟨rfl, .inr ⟨k, other, rfl⟩, List.subset_append_left _ _⟩
  · exact .refl u

section
variable {u t : State} (h : u.Reclaims t)
include h

theorem State.Reclaims.sees : u.Sees t := by
  rw [h.rest]
  exact ⟨rfl, rfl, rfl, rfl, rfl, rfl, rfl⟩

theorem State.Reclaims.frame : OnlyChanges [.index, .store, .outputs] u t := by
  rw [h.rest]
  intro x hx
  cases x <;> simp_all [Piece.same]

theorem State.Reclaims.fields : t.index.entries.map Entry.fields = u.index.entries.map Entry.fields := by
  rcases h.entries with same | ⟨k, _, same⟩ <;> rw [same]
  exact entriesReclaimed_fields k _
end

theorem State.reclaimDue_iff_forall (u : State) :
    u.reclaimDue = true ↔
      (∀ k, u.store.current = some k → 56 ≤ (u.sector k).usedSlots ∨ (u.sector k).state = .full) ∧ u.NoSpare ∧ u.store.reclaims = [] ∧
        u.store.clear = none ∧ u.store.ramOnly = false ∧ u.scanning = false := by
  rw [State.reclaimDue_iff]
  cases u.store.current <;> simp [or_comm]

/-- The conditions of R180 examined, as the statements say it. -/
theorem ReclaimFollows.of_examineReclaim {s u : State} (ram : u.store.ramOnly = false → s.store.ramOnly = false)
    (deferrals : u.index.counters.writeDeferrals = s.index.counters.writeDeferrals) :
    ReclaimFollows s u.examineReclaim.settle u.index.entries u.store.writes u.store.amends u.store.erases u.store.reclaims := by
  have sees : u.Sees u.examineReclaim.settle := (State.Reclaims.examineReclaim u).sees.trans (.settle _)
  simp only [ReclaimFollows, sees.sector, sees.current, sees.noSpare, sees.clear, sees.ramOnly, sees.scanning, sees.isOldestFull,
    sees.countsAsFull, ← u.reclaimDue_iff_forall]
  refine ⟨fun due distinct k oldest => ?starts, fun idle => ?stays⟩
  case starts =>
    obtain ⟨-, -, reclaims, -, off, -⟩ := u.reclaimDue_iff_forall.mp due
    have started : u.examineReclaim = u.startReclaim k := by simp [State.examineReclaim, due, State.reclaimTarget_of_oldest oldest]
    rw [started]
    exact (State.startReclaim_starts distinct reclaims k).ofSame ((ram off).trans off.symm) deferrals.symm rfl rfl rfl
  case stays =>
    have same : u.examineReclaim = u := by
      refine u.examineReclaim_cases.resolve_left fun ⟨due, k, target, _⟩ => idle ⟨due, k, State.countsAsFull_of_target target⟩
    rw [same]
    exact ⟨rfl, by simp [KeysOffered, deferrals], rfl, rfl, rfl⟩

/-! ## The successor (R179) -/

/-- The lowest-numbered spare heads the spares. -/
theorem State.isFirstSpare_iff {u : State} {k : Nat} : u.IsFirstSpare k ↔ (u.sectorsIn .erased).head? = some k := by
  have spare (j : Nat) : j ∈ u.sectorsIn .erased ↔ j ∈ u.usableSectors ∧ (u.sector j).state = .erased := by simp [State.sectorsIn]
  constructor
  · rintro ⟨usable, erased, first⟩
    have least (j : Nat) (hj : j ∈ u.sectorsIn .erased) : k ≤ j := first j ((spare j).mp hj).1 ((spare j).mp hj).2
    rw [eq_cons_of_least (u.sectorsIn_sorted _) ((spare k).mpr ⟨usable, erased⟩) least]
    rfl
  · intro head
    obtain ⟨rest, spares⟩ := List.head?_eq_some_iff.mp head
    obtain ⟨usable, erased⟩ := (spare k).mp (spares ▸ List.mem_cons_self)
    refine ⟨usable, erased, fun j hj he => ?_⟩
    have sorted := u.sectorsIn_sorted .erased
    rw [spares] at sorted
    rcases List.mem_cons.mp (spares ▸ (spare j).mpr ⟨hj, he⟩) with rfl | later
    · exact le_rfl
    · exact Nat.le_of_lt (List.rel_of_pairwise_cons sorted later)

/-- The sequence of the next sector to be opened, as the statements say it (R179, log entry 18). -/
theorem State.nextSequence_isNext (u : State) : u.IsNextSequence u.nextSequence := by
  have full (j : Nat) : j ∈ u.sectorsIn .full ↔ j ∈ u.usableSectors ∧ (u.sector j).state = .full := by simp [State.sectorsIn]
  refine ⟨fun last some => by simp [State.nextSequence, some], fun none => ?_⟩
  have scanned : u.nextSequence = u.scanSequence := by rw [State.nextSequence, none]; rfl
  rw [scanned]
  refine ⟨fun noFull => State.scanSequence_of_none_full ?_, fun j hj newest => State.scanSequence_of_newest_full ((full j).mpr hj) ?_⟩
  · exact List.eq_nil_iff_forall_not_mem.mpr fun j hj => noFull j ((full j).mp hj)
  · exact fun i hi other => newerSequence_iff.mpr (newest i ((full i).mp hi) other)

theorem State.needsSuccessor_iff (u : State) :
    u.needsSuccessor = true ↔ ∀ k, u.store.current = some k → (u.sector k).state = .full := by
  unfold State.needsSuccessor
  cases u.store.current <;> simp

/-- All that the request of a successor can do. -/
theorem State.openSuccessor_cases (u : State) :
    (((∀ k, u.store.current = some k → (u.sector k).state = .full) ∧ u.store.ramOnly = false ∧ u.store.clear = none ∧
        u.store.openingRequested = false) ∧
      ∃ k, u.IsFirstSpare k ∧ u.openSuccessor = u.onStore (Store.requestAmend k (.opening u.nextSequence))) ∨
    (¬ (((∀ k, u.store.current = some k → (u.sector k).state = .full) ∧ u.store.ramOnly = false ∧ u.store.clear = none ∧
        u.store.openingRequested = false) ∧ ∃ k, u.IsFirstSpare k) ∧ u.openSuccessor = u) := by
  have asks : (u.needsSuccessor && !u.store.ramOnly && u.store.clear.isNone && !u.store.openingRequested) = true ↔
      (∀ k, u.store.current = some k → (u.sector k).state = .full) ∧ u.store.ramOnly = false ∧ u.store.clear = none ∧
        u.store.openingRequested = false := by
    simp [u.needsSuccessor_iff, and_assoc]
  simp only [← asks, State.isFirstSpare_iff, State.openSuccessor]
  split
  · next asked =>
    cases (u.sectorsIn .erased).head? <;> simp [asked]
  · next idle => exact .inr ⟨fun h => idle h.1, rfl⟩

/-- The request of a successor is one amend at most. -/
theorem State.openSuccessor_rest (u : State) : u.openSuccessor = u.onStore fun x => { x with amends := u.openSuccessor.store.amends } := by
  rcases u.openSuccessor_cases with ⟨_, k, _, h⟩ | ⟨_, h⟩ <;> rw [h] <;> rfl

theorem State.Sees.openSuccessor (u : State) : u.Sees u.openSuccessor := by
  rcases u.openSuccessor_cases with ⟨_, k, _, h⟩ | ⟨_, h⟩ <;> rw [h]
  · exact ⟨rfl, rfl, rfl, rfl, rfl, rfl, rfl⟩
  · exact .refl u

/-- The successor looked for, as the statements say it. -/
theorem SuccessorFollows.of_openSuccessor {u t : State} (sees : u.Sees t) :
    SuccessorFollows t u.store.openingRequested u.store.amends u.openSuccessor.store.amends := by
  simp only [SuccessorFollows, sees.current, sees.sector, sees.ramOnly, sees.clear, sees.isFirstSpare, sees.isNextSequence]
  rcases u.openSuccessor_cases with ⟨needed, k, first, h⟩ | ⟨idle, h⟩ <;> rw [h]
  · refine ⟨fun _ j spare => ⟨u.nextSequence, u.nextSequence_isNext, ?_⟩, fun idle => absurd ⟨needed, k, first⟩ idle⟩
    have same : some j = some k := (State.isFirstSpare_iff.mp spare).symm.trans (State.isFirstSpare_iff.mp first)
    cases same
    rfl
  · exact ⟨fun needed k first => absurd ⟨needed, k, first⟩ idle, fun _ => rfl⟩

/-- The examination of the conditions of a reclaim, after an amend has been asked for. -/
theorem State.Reclaims.after_openSuccessor {u t : State} (h : u.openSuccessor.Reclaims t) : u.Reclaims t := by
  obtain ⟨rest, entries, amends⟩ := h
  have asked := u.openSuccessor_rest
  have before : u.store.amends ⊆ u.openSuccessor.store.amends := by
    rcases u.openSuccessor_cases with ⟨_, k, _, h⟩ | ⟨_, h⟩ <;> rw [h]
    · exact List.subset_append_left _ _
    · exact List.Subset.refl _
  have amends := List.Subset.trans before amends
  rw [asked] at rest entries
  exact ⟨rest, entries, amends⟩

/-- A successor looked for, and the conditions of R180 examined then. -/
theorem State.rotates {s u : State} (ram : u.store.ramOnly = false → s.store.ramOnly = false)
    (deferrals : u.index.counters.writeDeferrals = s.index.counters.writeDeferrals) :
    u.Reclaims u.openSuccessor.examineReclaim ∧
      SuccessorFollows u.openSuccessor.examineReclaim.settle u.store.openingRequested u.store.amends u.openSuccessor.store.amends ∧
      ReclaimFollows s u.openSuccessor.examineReclaim.settle u.index.entries u.store.writes u.openSuccessor.store.amends u.store.erases
        u.store.reclaims := by
  have sees := (State.Sees.openSuccessor u).trans ((State.Reclaims.examineReclaim _).sees.trans (.settle _))
  have follows : ReclaimFollows s u.openSuccessor.examineReclaim.settle _ _ _ _ _ :=
    .of_examineReclaim (u := u.openSuccessor) (by rw [u.openSuccessor_rest]; exact ram) (by rw [u.openSuccessor_rest]; exact deferrals)
  refine ⟨.after_openSuccessor (.examineReclaim _), .of_openSuccessor sees, ?_⟩
  convert follows using 1 <;> rw [u.openSuccessor_rest] <;> rfl

/-! ## The course of a clear (R187) -/

theorem Store.mem_outstanding {x : Store} {r : AmendRequest} :
    r ∈ x.outstanding ↔ x.running = some (.headerAmend r) ∨ r ∈ x.amends := by
  unfold Store.outstanding
  rcases x.running with _ | (w | q | _) <;> simp [eq_comm]

/-- What a clear waits for: its retirements, and the erases. -/
def Store.ClearWaits (x : Store) : Prop := (∃ r ∈ x.outstanding, r.amend = .retiring) ∨ x.erases ≠ [] ∨ x.erase ≠ none

/-- Another amend that is no retirement, and another condition of the erase, do not change what a clear waits for. -/
theorem Store.clearWaits_congr {x y : Store} (running : y.running = x.running)
    (amends : ∀ r : AmendRequest, r.amend = .retiring → (r ∈ y.amends ↔ r ∈ x.amends)) (erases : y.erases = x.erases)
    (erase : y.erase = none ↔ x.erase = none) : y.ClearWaits ↔ x.ClearWaits := by
  have retiring : (∃ r ∈ y.outstanding, r.amend = .retiring) ↔ ∃ r ∈ x.outstanding, r.amend = .retiring := by
    refine exists_congr fun r => and_congr_left fun retiring => ?_
    rw [Store.mem_outstanding, Store.mem_outstanding, running, amends r retiring]
  simp only [Store.ClearWaits, retiring, erases, ne_eq, erase]

theorem Store.openingRequested_eq_false {x : Store} :
    x.openingRequested = false ↔ ∀ r ∈ x.outstanding, r.amend.isOpening = false := by
  simp [Store.openingRequested]

/-- Without a clear there is none to go on. -/
theorem State.settleClear_of_none {u : State} (h : u.store.clear = none) : u.settleClear = u := by
  simp [State.settleClear, h]

section
variable {u : State} {c : Clear} (hc : u.store.clear = some c)
include hc

theorem State.settleClear_waits (waits : u.store.ClearWaits) : u.settleClear = u := by
  have left : ((u.store.outstanding.any fun r => r.amend == .retiring) || !u.store.erases.isEmpty || u.store.erase.isSome) = true := by
    simpa [Store.ClearWaits, Option.isSome_iff_ne_none, or_assoc] using waits
  unfold State.settleClear
  rw [hc]
  exact if_pos left

variable (done : ¬ u.store.ClearWaits)
include done

theorem State.settleClear_done :
    u.settleClear =
      if u.usableSectors.length < 2 then u.checkRamOnly.finishClear c.tag
      else if u.store.openingRequested then u
      else
        match (u.sectorsIn .erased).head? with
        | some k => u.onStore fun x => { x.requestAmend k (.opening 0) with clear := some { c with opening := true } }
        | none => u.finishClear c.tag := by
  have left : ¬ ((u.store.outstanding.any fun r => r.amend == .retiring) || !u.store.erases.isEmpty || u.store.erase.isSome) = true := by
    simpa [Store.ClearWaits, Option.isSome_iff_ne_none, or_assoc] using done
  unfold State.settleClear
  rw [hc]
  exact if_neg left
end

/-- The store in RAM-ONLY, with no key waiting (R182). -/
def Store.RamOnlyIdle (x : Store) : Prop := x.ramOnly = true ∧ x.writes = [] ∧ x.retry = none

/-- An operation has at most put the store in RAM-ONLY, asked for amends, and let a clear go on or answered it; a store in RAM-ONLY stays so. -/
structure State.Steers (u t : State) : Prop where
  rest : t =
    { u with
      store :=
        { u.store with
          amends := t.store.amends, clear := t.store.clear, ramOnly := t.store.ramOnly, writes := t.store.writes, retry := t.store.retry }
      management := t.management }
  ramOnly : u.store.RamOnlyIdle → t.store.RamOnlyIdle

theorem State.checkRamOnly_few {u : State} (few : u.usableSectors.length < 2) :
    u.checkRamOnly = u.onStore fun x => { x with ramOnly := true, writes := [], retry := none } := if_pos few

theorem State.checkRamOnly_enough {u : State} (enough : 2 ≤ u.usableSectors.length) : u.checkRamOnly = u := if_neg (Nat.not_lt.mpr enough)

namespace State.Steers

theorem refl (u : State) : u.Steers u := ⟨rfl, id⟩

theorem trans {u t v : State} (h : u.Steers t) (h' : t.Steers v) : u.Steers v := by
  refine ⟨?_, h'.ramOnly ∘ h.ramOnly⟩
  have rest := h'.rest
  rw [h.rest] at rest
  exact rest

theorem checkRamOnly (u : State) : u.Steers u.checkRamOnly := by
  unfold State.checkRamOnly
  split
  · exact ⟨rfl, fun _ => ⟨rfl, rfl, rfl⟩⟩
  · exact .refl u

theorem openSuccessor (u : State) : u.Steers u.openSuccessor := by
  rcases u.openSuccessor_cases with ⟨_, k, _, h⟩ | ⟨_, h⟩ <;> rw [h]
  · exact ⟨rfl, id⟩
  · exact .refl u

theorem settleClear (u : State) : u.Steers u.settleClear := by
  have answered (v : State) (tag : Byte) : v.Steers (v.finishClear tag) := ⟨rfl, id⟩
  cases hc : u.store.clear with
  | none =>
    rw [State.settleClear_of_none hc]
    exact .refl u
  | some c =>
    by_cases waits : u.store.ClearWaits
    · rw [State.settleClear_waits hc waits]
      exact .refl u
    · rw [State.settleClear_done hc waits]
      split
      · exact (checkRamOnly u).trans (answered _ _)
      · split
        · exact .refl u
        · split
          · exact ⟨rfl, id⟩
          · exact answered u _

variable {u t : State} (h : u.Steers t)
include h

theorem frame : OnlyChanges [.store, .management, .outputs] u t := by
  rw [h.rest]
  intro x hx
  cases x <;> simp_all [Piece.same]

theorem array : t.array = u.array := (congrArg State.array h.rest :)

theorem takenWorn : t.store.takenWorn = u.store.takenWorn := (congrArg (fun x : State => x.store.takenWorn) h.rest :)

theorem usableSectors : t.usableSectors = u.usableSectors := State.usableSectors_congr h.array h.takenWorn

end State.Steers

/-- The course of a clear asks for no retirement, and ends none. -/
theorem State.settleClear_retiring (u : State) {r : AmendRequest} (retiring : r.amend = .retiring) :
    r ∈ u.settleClear.store.amends ↔ r ∈ u.store.amends := by
  cases hc : u.store.clear with
  | none => rw [State.settleClear_of_none hc]
  | some c =>
    by_cases waits : u.store.ClearWaits
    · rw [State.settleClear_waits hc waits]
    · rw [State.settleClear_done hc waits]
      split
      · next few => rw [State.checkRamOnly_few few]; rfl
      · split
        · rfl
        · split
          · refine List.mem_append.trans (or_iff_left fun opening => ?_)
            rw [List.mem_singleton.mp opening] at retiring
            cases retiring
          · rfl

/-- The course of a clear, as the statements say it. -/
theorem ClearFollows.of_settleClear {s u : State} {c : Clear} (hc : u.store.clear = some c) (management : u.management = s.management)
    (running : ∀ r, u.store.running = some (.headerAmend r) → r.amend.isOpening = false) :
    ClearFollows s u.settleClear.settle c u.store.amends := by
  have steers := State.Steers.settleClear u
  have usable : u.settleClear.settle.usableSectors = u.usableSectors := steers.usableSectors
  have waits : u.settleClear.settle.store.ClearWaits ↔ u.store.ClearWaits := by
    refine Store.clearWaits_congr ?_ (fun _ => u.settleClear_retiring) ?_ ?_ <;> rw [steers.rest]
    · rfl
    · rfl
    · simp
  have first (k : Nat) : u.settleClear.settle.IsFirstSpare k ↔ u.IsFirstSpare k := State.isFirstSpare_congr steers.array steers.takenWorn k
  unfold ClearFollows
  refine ⟨fun left => ?waits, fun left few => ?ends, fun left enough noOpening k spare => ?opens⟩
  case waits =>
    rw [State.settleClear_waits hc (waits.mp left)]
    exact ⟨hc, management, rfl⟩
  all_goals
    rw [usable] at *
    have done := State.settleClear_done hc (mt waits.mpr left)
  case ends =>
    rw [done, if_pos few, State.checkRamOnly_few few, ← management]
    exact ⟨rfl, rfl, rfl, rfl, rfl, rfl⟩
  case opens =>
    have none : u.store.openingRequested = false := by
      refine Store.openingRequested_eq_false.mpr fun r hr => ?_
      exact (Store.mem_outstanding.mp hr).elim (running r) (noOpening r)
    rw [done, if_neg (Nat.not_lt.mpr enough), none, State.isFirstSpare_iff.mp ((first k).mp spare)]
    exact ⟨rfl, rfl, management⟩

end Sys2Proof.Machine
end

section
/-!
PROOFS. The end of a header amend (R171, R179, R181, R187): each mark verified, the first failure, and the second, which takes the sector as
WORN.
-/

namespace Sys2Proof.Machine

/-! ## Sectors -/

theorem NvArray.sector_modify_other {a : NvArray} {j k : Nat} (h : j ≠ k) (f : Sector → Sector) :
    ({ a with sectors := a.sectors.modify k f } : NvArray).sector j = a.sector j := by
  simp [NvArray.sector, List.getD_eq_getElem?_getD, h.symm]

/-- A sector taken as WORN is no longer usable, and any other one is as it was (R182). -/
theorem State.usableSectors_retired {s t : State} {k : Nat} (worn : t.store.takenWorn = s.store.takenWorn ++ [k])
    (others : ∀ j, j ≠ k → t.sector j = s.sector j) :
    k ∉ t.usableSectors ∧ ∀ j, j ≠ k → (j ∈ t.usableSectors ↔ j ∈ s.usableSectors) := by
  refine ⟨by simp [State.usableSectors, State.usable, worn], fun j hj => ?_⟩
  simp [State.usableSectors, State.usable, worn, others j hj, hj]

/-! ## Frames -/

/-- An update of the array and the history store. -/
theorem OnlyChanges.onArrayStore (s : State) (a : NvArray) (x : Store) :
    OnlyChanges [.array, .store, .outputs] s { s with array := a, store := x } := by
  intro y hy
  cases y <;> simp_all [Piece.same]

/-! ## The end of an amend -/

/-- The amend that ran has ended, and this is left of its sector. -/
def State.amended (k : Nat) (f : Sector → Sector) (s : State) : State :=
  (s.onStore fun x => { x with running := none }).onSector k f

/-- What a verified mark of a sector brings (R179, R187). -/
def State.afterMark (k : Nat) (a : Amend) (u : State) : State :=
  match a with
  | .opening q => u.opened k q
  | .full => u.openSuccessor.examineReclaim
  | .retiring => u.settleClear
  | .worn => u

section
variable {s t : State} {r : AmendRequest} (on : s.powered = true) (runs : s.store.running = some (.headerAmend r))
include on runs

theorem exec_headerAmendEnd (passed : Bool) : exec (.headerAmendEnd passed) s = .next (s.amendEnd passed r).settle := by
  have run : exec (.headerAmendEnd passed) s = s.occur true (State.amendEnd passed r) := by
    simp only [exec, execHeaderAmendEnd, runs]
  rw [run, State.occur_of_ready on rfl]

/-- A verified amend: its mark shows, and has its effect. -/
theorem exec_amendPassed {a : Amend} (mark : r.amend = a) (h : (s.amended r.sector (Sector.program a)).afterMark r.sector a = t) :
    exec (.headerAmendEnd true) s = .next t.settle := by
  rw [exec_headerAmendEnd on runs, ← h, ← mark]
  rfl

/-- A first failure: the amend is made once more, ahead of the others (R179, log entry 31). -/
theorem exec_amendFailed_first (first : r.again = false) :
    exec (.headerAmendEnd false) s =
      .next (((s.amended r.sector fun x => { x with doubt := some r.amend }).onStore fun x =>
        { x with amends := { r with again := true } :: x.amends }).settle) := by
  have failed : s.amendEnd false r = _ := if_pos (by rw [first]; rfl)
  rw [exec_headerAmendEnd on runs, failed]
  rfl

variable (second : r.again = true)
include second

/-- A second failure of a WORN mark leaves it at that. -/
theorem exec_amendFailed_worn (mark : r.amend = .worn) :
    exec (.headerAmendEnd false) s = .next (s.amended r.sector fun x => { x with doubt := some r.amend }).settle := by
  have failed : s.amendEnd false r = _ := (if_neg (by rw [second]; nofun)).trans (if_pos mark)
  rw [exec_headerAmendEnd on runs, failed]
  rfl

/-- A second failure of any other mark takes the sector as WORN (R179). -/
theorem exec_amendFailed_second (mark : r.amend ≠ .worn) :
    exec (.headerAmendEnd false) s =
      .next (((s.amended r.sector fun x => { x with doubt := some r.amend }).onStore
        (Store.retireForGood r.sector)).checkRamOnly.openSuccessor.settleClear.settle) := by
  have failed : s.amendEnd false r = _ := (if_neg (by rw [second]; nofun)).trans (if_neg mark)
  rw [exec_headerAmendEnd on runs, failed]
  rfl
end

/-! ## Openings (R179, R187) -/

section
variable {u : State} (k : Nat) (q : Half)

theorem State.opened_of_no_clear (h : u.store.clear = none) :
    u.opened k q = u.onStore fun x => { x with current := some k, lastSequence := some q, failures := x.failures.set k 0 } := by
  simp only [State.opened, h]

theorem State.opened_of_opening {c : Clear} (h : u.store.clear = some c) (opening : c.opening = true) :
    u.opened k q =
      (u.onStore fun x => { x with current := some k, lastSequence := some q, failures := x.failures.set k 0 }).finishClear c.tag := by
  simp only [State.opened, h, opening, if_true]

theorem State.opened_of_retiring {c : Clear} (h : u.store.clear = some c) (opening : c.opening = false) :
    u.opened k q = u.onStore (Store.requestAmend k .retiring) := by
  simp only [State.opened, h, opening, Bool.false_eq_true, if_false]
end

theorem OnlyChanges.finishClear (u : State) (tag : Byte) : OnlyChanges [.store, .management, .outputs] u (u.finishClear tag) :=
  State.Steers.frame (u := u) ⟨rfl, id⟩

/-! ## The second failure (R179, R182) -/

/-- A sector not used again: nothing waits for it, and it is not current (R179, log entry 15). -/
theorem Store.retireForGood_eq (k : Nat) (x : Store) :
    x.retireForGood k =
      { x with
        takenWorn := x.takenWorn ++ [k]
        current := if x.current = some k then none else x.current
        amends := x.amends.filter fun r => r.sector ≠ k
        erases := x.erases.filter fun j => j ≠ k
        reclaims := x.reclaims.filter fun j => j ≠ k } := by
  simp [Store.retireForGood, bne, beq_eq_decide]

/-- A clear asks for no successor of its own. -/
theorem State.openSuccessor_of_clear {u : State} {c : Clear} (h : u.store.clear = some c) : u.openSuccessor = u := by
  rcases u.openSuccessor_cases with ⟨⟨_, _, none, _⟩, _⟩ | ⟨_, same⟩
  · rw [h] at none
    cases none
  · exact same

/-- The examination of RAM-ONLY moves neither amends nor a clear nor replies. -/
theorem State.checkRamOnly_keeps (u : State) :
    u.checkRamOnly.store.running = u.store.running ∧ u.checkRamOnly.store.amends = u.store.amends ∧
      u.checkRamOnly.store.clear = u.store.clear ∧ u.checkRamOnly.management = u.management := by
  unfold State.checkRamOnly
  split <;> exact ⟨rfl, rfl, rfl, rfl⟩

/-- With fewer than two usable sectors the store is in RAM-ONLY (R182). -/
theorem State.checkRamOnly_idle {u : State} (few : u.usableSectors.length < 2) : u.checkRamOnly.store.RamOnlyIdle := by
  rw [State.checkRamOnly_few few]
  exact ⟨rfl, rfl, rfl⟩

/-- Outside a clear a successor is looked for once a sector has been taken as WORN (log entry 16). -/
theorem SuccessorFollows.of_retired {v : State} (clear : v.store.clear = none) :
    v.checkRamOnly.openSuccessor.settleClear.management = v.management ∧
      SuccessorFollows v.checkRamOnly.openSuccessor.settleClear.settle v.store.openingRequested v.store.amends
        v.checkRamOnly.openSuccessor.settleClear.store.amends := by
  obtain ⟨running, amends, sameClear, management⟩ := v.checkRamOnly_keeps
  have noClear : v.checkRamOnly.openSuccessor.store.clear = none := (State.Sees.openSuccessor _).clear.trans (sameClear.trans clear)
  have requested : v.checkRamOnly.store.openingRequested = v.store.openingRequested := by
    simp only [Store.openingRequested, Store.outstanding, running, amends]
  have follows := SuccessorFollows.of_openSuccessor ((State.Sees.openSuccessor v.checkRamOnly).trans (.settle _))
  rw [requested, amends] at follows
  rw [State.settleClear_of_none noClear]
  exact ⟨((congrArg State.management (State.openSuccessor_rest _) :)).trans management, follows⟩

/-- A clear goes on once a sector has been taken as WORN (log entry 14). -/
theorem ClearFollows.of_retired {s v : State} {c : Clear} (clear : v.store.clear = some c) (management : v.management = s.management)
    (running : ∀ r, v.store.running = some (.headerAmend r) → r.amend.isOpening = false) :
    ClearFollows s v.checkRamOnly.settleClear.settle c v.store.amends := by
  obtain ⟨sameRunning, amends, sameClear, sameManagement⟩ := v.checkRamOnly_keeps
  rw [← amends]
  exact .of_settleClear (sameClear.trans clear) (sameManagement.trans management) (sameRunning ▸ running)

/-- Settles O46, mark by mark. -/
theorem headerAmendEnds : Obligations.HeaderAmendEnds := by
  intro s r on runs within marked idle
  refine ⟨fun q mark => ⟨fun clear => ?opening, fun c clear opening => ?openingOfClear, fun c clear opening => ?openingBesideClear⟩,
    fun mark => ?full, fun mark => ⟨fun clear => ?retiring, fun c clear => ?retiringOfClear⟩, fun mark => ?worn, fun first => ?again,
    fun second mark => ?wornFailed, fun second mark => ?failed⟩
  case opening =>
    exact ⟨_, exec_amendPassed on runs mark (State.opened_of_no_clear _ _ clear), (OnlyChanges.onArrayStore s _ _).settled (by simp), rfl,
      State.settle_store_inner _⟩
  case openingOfClear =>
    refine ⟨_, exec_amendPassed on runs mark (State.opened_of_opening _ _ clear opening), ?_, rfl, State.settle_store_inner _, rfl⟩
    exact ((OnlyChanges.onArrayStore s _ _).andThen (.finishClear _ _) (by simp) (by simp)).settled (by simp)
  case openingBesideClear =>
    exact ⟨_, exec_amendPassed on runs mark (State.opened_of_retiring _ _ clear opening),
      (OnlyChanges.onArrayStore s _ _).settled (by simp), rfl, State.settle_store_inner _⟩
  case full =>
    let u := s.amended r.sector fun x => { x with full := true, doubt := none }
    obtain ⟨reclaims, successor, follows⟩ := State.rotates (s := s) (u := u) id rfl
    refine ⟨_, u.openSuccessor.store.amends, exec_amendPassed on runs mark rfl, ?_, reclaims.sees.array, ?_, successor, follows⟩
    · exact ((OnlyChanges.onArrayStore s _ _).andThen reclaims.frame (by simp) (by simp)).settled (by simp)
    · exact (State.settle_store_inner _).trans (congrArg (fun x : State => x.store.inner) reclaims.rest :)
  case retiring =>
    exact ⟨_, exec_amendPassed on runs mark (State.settleClear_of_none clear), (OnlyChanges.onArrayStore s _ _).settled (by simp), rfl,
      State.settle_store_inner _⟩
  case worn =>
    exact ⟨_, exec_amendPassed on runs mark rfl, (OnlyChanges.onArrayStore s _ _).settled (by simp), rfl, State.settle_store_inner _⟩
  case again =>
    exact ⟨_, exec_amendFailed_first on runs first, (OnlyChanges.onArrayStore s _ _).settled (by simp), rfl, State.settle_store_inner _⟩
  case wornFailed =>
    exact ⟨_, exec_amendFailed_worn on runs second mark, (OnlyChanges.onArrayStore s _ _).settled (by simp), rfl,
      State.settle_store_inner _⟩
  case retiringOfClear =>
    let u := s.amended r.sector fun x => { x with retiring := true, doubt := none }
    have steers := State.Steers.settleClear u
    refine ⟨_, exec_amendPassed on runs mark rfl, ?_, steers.array, (congrArg (fun x : State => x.store.running) steers.rest :),
      (congrArg (fun x : State => x.store.erases) steers.rest :), .of_settleClear (u := u) clear rfl nofun⟩
    exact ((OnlyChanges.onArrayStore s _ _).andThen steers.frame (by simp) (by simp)).settled (by simp)
  case failed =>
    have run := exec_amendFailed_second on runs second mark
    rw [funext (Store.retireForGood_eq r.sector)] at run
    let v := (s.amended r.sector fun x => { x with doubt := some r.amend }).onStore fun x =>
      { x with
        takenWorn := x.takenWorn ++ [r.sector]
        current := if x.current = some r.sector then none else x.current
        amends := x.amends.filter fun x => x.sector ≠ r.sector
        erases := x.erases.filter fun j => j ≠ r.sector
        reclaims := x.reclaims.filter fun j => j ≠ r.sector }
    have late : v.checkRamOnly.Steers v.checkRamOnly.openSuccessor.settleClear :=
      (State.Steers.openSuccessor _).trans (.settleClear _)
    have steers := (State.Steers.checkRamOnly v).trans late
    obtain ⟨unusable, others⟩ := State.usableSectors_retired (s := s) (t := v.checkRamOnly.openSuccessor.settleClear.settle) steers.takenWorn
      fun j hj => (congrArg (NvArray.sector · j) steers.array).trans (NvArray.sector_modify_other hj _)
    have kept := steers.rest
    refine ⟨_, run, ?frame, steers.array, unusable, others, (congrArg (fun x : State => x.store.current) kept :),
      (congrArg (fun x : State => x.store.erases) kept :), (congrArg (fun x : State => x.store.reclaims) kept :), fun few => ?few,
      fun clear => ?successor, fun c clear => ?clear⟩
    case frame => exact ((OnlyChanges.onArrayStore s _ _).andThen steers.frame (by simp) (by simp)).settled (by simp)
    case few =>
      have few : v.usableSectors.length < 2 := steers.usableSectors ▸ few
      exact late.ramOnly (State.checkRamOnly_idle few)
    case successor => exact SuccessorFollows.of_retired (v := v) clear
    case clear =>
      obtain ⟨-, -, same, -⟩ := v.checkRamOnly_keeps
      rw [State.openSuccessor_of_clear (same.trans clear)]
      exact .of_retired (v := v) clear rfl nofun

end Sys2Proof.Machine
end

section
/-!
PROOFS. The end of an erase (R180 to R182, R187): the sector ERASED, or taken as WORN, in and out of a clear.
-/

namespace Sys2Proof.Machine

/-! ## The sector of the erase -/

/-- The erase has passed its verify: its sector is ERASED and its reclaim over (R181). -/
def State.eraseVerified (k : Nat) (s : State) : State :=
  { s with
    array :=
      { s.array with sectors := s.array.sectors.modify k fun x => { Sector.erased with slots := List.replicate x.slots.length .blank } }
    index := { s.index with counters := { s.index.counters with erasesCompleted := bump s.index.counters.erasesCompleted } }
    store := { s.store with erase := none, reclaims := s.store.reclaims.filter fun j => j ≠ k } }

/-- The erase has failed its verify: its sector is taken as WORN, and its WORN mark requested (R181). -/
def State.eraseRefused (k : Nat) (s : State) : State :=
  { s with
    array := { s.array with sectors := s.array.sectors.modify k fun x => { x with halfErased := true } }
    index := { s.index with counters := { s.index.counters with eraseFailures := bump s.index.counters.eraseFailures } }
    store :=
      { s.store with
        erase := none
        takenWorn := s.store.takenWorn ++ [k]
        current := if s.store.current = some k then none else s.store.current
        amends := (s.store.amends.filter fun r => r.sector ≠ k) ++ [⟨k, .worn, false⟩]
        erases := s.store.erases.filter fun j => j ≠ k
        reclaims := s.store.reclaims.filter fun j => j ≠ k } }

theorem State.endErase_passed (k : Nat) (s : State) :
    s.endErase true k = (s.eraseVerified k).openSuccessor.examineReclaim.settleClear := by
  have others (xs : List Nat) : (xs.filter fun j => j != k) = xs.filter fun j => j ≠ k := by simp [bne, beq_eq_decide]
  simp only [State.endErase, State.erasePassed, if_true, others]
  rfl

theorem State.endErase_failed (k : Nat) (s : State) :
    s.endErase false k = (s.eraseRefused k).checkRamOnly.examineReclaim.settleClear := by
  simp only [State.endErase, State.eraseFailed, Bool.false_eq_true, if_false, Store.retireForGood_eq]
  rfl

theorem exec_eraseEnd {s : State} {e : Erase} (on : s.powered = true) (flight : s.store.erase = some e) (runs : e.condition ≠ .suspended)
    (passed : Bool) : exec (.eraseEnd passed) s = .next (s.endErase passed e.sector).settle := by
  have run : exec (.eraseEnd passed) s = s.occur (e.condition != .suspended) (State.endErase passed e.sector) := by
    simp only [exec, execEraseEnd, flight]
  rw [run, State.occur_of_ready on (by simpa using runs)]

/-- An update of the index, the array and the history store. -/
theorem OnlyChanges.onIndexArrayStore (s : State) (i : Index) (a : NvArray) (x : Store) :
    OnlyChanges [.index, .array, .store, .outputs] s { s with index := i, array := a, store := x } := by
  intro y hy
  cases y <;> simp_all [Piece.same]

/-! ## What follows leaves the sector as it is -/

/-- What the end of an erase decides, and nothing that follows it touches. -/
def State.ground (s : State) : NvArray × List Nat × Option Running × Option Nat × Option Half × Option Erase × Half × Half :=
  (s.array, s.store.takenWorn, s.store.running, s.store.current, s.store.lastSequence, s.store.erase, s.index.counters.erasesCompleted,
    s.index.counters.eraseFailures)

theorem State.Steers.ground {u t : State} (h : u.Steers t) : t.ground = u.ground := by
  rw [h.rest]
  rfl

theorem State.Reclaims.ground {u t : State} (h : u.Reclaims t) : t.ground = u.ground := by
  rw [h.rest]
  rfl

/-- With no erase left the outputs ask none to stop. -/
theorem State.settle_erase_of_none {u : State} (h : u.store.erase = none) : u.settle.store.erase = none := by simp [h]

/-- What an erase that has passed leaves, whatever follows. -/
theorem State.eraseVerified_ground {s t : State} {k : Nat} (h : t.ground = (s.eraseVerified k).ground) :
    t.settle.array = (s.eraseVerified k).array ∧ t.settle.store.erase = none ∧ t.settle.store.running = s.store.running ∧
      t.settle.store.current = s.store.current ∧ t.settle.store.lastSequence = s.store.lastSequence ∧
      t.settle.store.takenWorn = s.store.takenWorn ∧
      t.settle.index.counters.erasesCompleted = bump s.index.counters.erasesCompleted := by
  simp only [State.ground, Prod.mk.injEq] at h
  obtain ⟨array, worn, running, current, last, erase, completed, -⟩ := h
  exact ⟨array, State.settle_erase_of_none erase, running, current, last, worn, completed⟩

/-- What an erase that has failed leaves, whatever follows. -/
theorem State.eraseRefused_ground {s t : State} {k : Nat} (h : t.ground = (s.eraseRefused k).ground) :
    t.settle.array = (s.eraseRefused k).array ∧ t.settle.store.erase = none ∧ t.settle.store.running = s.store.running ∧
      t.settle.store.current = (if s.store.current = some k then none else s.store.current) ∧
      k ∉ t.settle.usableSectors ∧ (∀ j, j ≠ k → (j ∈ t.settle.usableSectors ↔ j ∈ s.usableSectors)) ∧
      t.settle.index.counters.eraseFailures = bump s.index.counters.eraseFailures := by
  simp only [State.ground, Prod.mk.injEq] at h
  obtain ⟨array, worn, running, current, -, erase, -, failures⟩ := h
  obtain ⟨unusable, others⟩ := State.usableSectors_retired (s := s) (t := t.settle) worn
    fun j hj => (congrArg (NvArray.sector · j) array).trans (NvArray.sector_modify_other hj _)
  exact ⟨array, State.settle_erase_of_none erase, running, current, unusable, others, failures⟩

/-! ## What follows a sector taken as WORN -/

/-- In a clear no reclaim starts (R180). -/
theorem State.examineReclaim_of_clear {u : State} {c : Clear} (h : u.store.clear = some c) : u.examineReclaim = u := by
  refine u.examineReclaim_cases.resolve_left fun ⟨due, _⟩ => ?_
  obtain ⟨-, -, -, none, -⟩ := u.reclaimDue_iff_forall.mp due
  rw [h] at none
  cases none

theorem OnlyChanges.checkRamOnly (u : State) : OnlyChanges [.store, .outputs] u u.checkRamOnly := by
  unfold State.checkRamOnly
  split
  · exact .onStore u _
  · exact .refl _ u

/-- The conditions of R180 examined once a sector has been taken as WORN, in RAM-ONLY or not (R182). -/
theorem ReclaimFollows.of_retired {s v : State} (ram : v.store.ramOnly = s.store.ramOnly)
    (deferrals : v.index.counters.writeDeferrals = s.index.counters.writeDeferrals) :
    let t := v.checkRamOnly.examineReclaim.settle
    (t.usableSectors.length < 2 → t.store.ramOnly = true ∧ t.store.retry = none ∧
      ReclaimFollows s t v.index.entries [] v.store.amends v.store.erases v.store.reclaims) ∧
    (2 ≤ t.usableSectors.length → t.store.ramOnly = s.store.ramOnly ∧ t.store.retry = v.store.retry ∧
      ReclaimFollows s t v.index.entries v.store.writes v.store.amends v.store.erases v.store.reclaims) := by
  intro t
  have reclaims := State.Reclaims.examineReclaim v.checkRamOnly
  have usable : t.usableSectors = v.usableSectors := reclaims.sees.usableSectors.trans (State.Steers.checkRamOnly v).usableSectors
  have retry : t.store.retry = v.checkRamOnly.store.retry := (congrArg (fun x : State => x.store.retry) reclaims.rest :)
  have ramOnly : t.store.ramOnly = v.checkRamOnly.store.ramOnly := reclaims.sees.ramOnly
  rw [usable, retry, ramOnly]
  refine ⟨fun few => ?few, fun enough => ?enough⟩
  case few =>
    have same : t = _ := congrArg (fun x : State => x.examineReclaim.settle) (State.checkRamOnly_few few)
    rw [same, State.checkRamOnly_few few]
    exact ⟨rfl, rfl, .of_examineReclaim (u := v.onStore fun x => { x with ramOnly := true, writes := [], retry := none }) nofun deferrals⟩
  case enough =>
    have same : t = _ := congrArg (fun x : State => x.examineReclaim.settle) (State.checkRamOnly_enough enough)
    rw [same, State.checkRamOnly_enough enough]
    exact ⟨ram, rfl, .of_examineReclaim (ram ▸ id) deferrals⟩

/-- Settles O48: the sector of the erase by what nothing that follows touches (`State.ground`), and what follows as it does an amend. -/
theorem eraseEndsErasedOrWorn : Obligations.EraseEndsErasedOrWorn := by
  intro s e on flight runs within others worn passed failed
  have run := exec_eraseEnd on flight runs
  refine ⟨fun clear => ⟨?passed, ?failed⟩, fun c clear quiet => ⟨?passedInClear, ?failedInClear⟩⟩
  case passed =>
    let u := s.eraseVerified e.sector
    obtain ⟨reclaims, successor, follows⟩ := State.rotates (s := s) (u := u) id rfl
    have noClear : u.openSuccessor.examineReclaim.store.clear = none := reclaims.sees.clear.trans clear
    refine ⟨u.openSuccessor.examineReclaim.settle, u.openSuccessor.store.amends, ?_, ?_, State.eraseVerified_ground reclaims.ground, noClear,
      reclaims.sees.ramOnly, (congrArg (fun x : State => x.store.retry) reclaims.rest :), successor, follows⟩
    · rw [run, State.endErase_passed, State.settleClear_of_none noClear]
    · exact ((OnlyChanges.onIndexArrayStore s _ _ _).andThen reclaims.frame (by simp) (by simp)).settled (by simp)
  case failed =>
    let v := s.eraseRefused e.sector
    have steers := State.Steers.checkRamOnly v
    have reclaims := State.Reclaims.examineReclaim v.checkRamOnly
    obtain ⟨-, -, sameClear, -⟩ := v.checkRamOnly_keeps
    have noClear : v.checkRamOnly.examineReclaim.store.clear = none := reclaims.sees.clear.trans (sameClear.trans clear)
    refine ⟨v.checkRamOnly.examineReclaim.settle, ?_, ?_, State.eraseRefused_ground (reclaims.ground.trans steers.ground), noClear,
      ReclaimFollows.of_retired (v := v) rfl rfl⟩
    · rw [run, State.endErase_failed, State.settleClear_of_none noClear]
    · have frame : OnlyChanges [.index, .array, .store, .outputs] s v.checkRamOnly :=
        (OnlyChanges.onIndexArrayStore s _ _ _).andThen (.checkRamOnly v) (by simp) (by simp)
      exact (frame.andThen reclaims.frame (by simp) (by simp)).settled (by simp)
  case passedInClear =>
    let u := s.eraseVerified e.sector
    have clear : u.store.clear = some c := clear
    have steers := State.Steers.settleClear u
    have kept := steers.rest
    refine ⟨u.settleClear.settle, ?_, ?_, State.eraseVerified_ground steers.ground, (congrArg (fun x : State => x.index.entries) kept :),
      (congrArg (fun x : State => x.store.erases) kept :), (congrArg (fun x : State => x.store.reclaims) kept :),
      .of_settleClear (u := u) clear rfl fun r h => quiet r (Store.mem_outstanding.mpr (.inl h))⟩
    · rw [run, State.endErase_passed, State.openSuccessor_of_clear clear, State.examineReclaim_of_clear clear]
    · exact ((OnlyChanges.onIndexArrayStore s _ _ _).andThen steers.frame (by simp) (by simp)).settled (by simp)
  case failedInClear =>
    let v := s.eraseRefused e.sector
    have clear : v.store.clear = some c := clear
    have late := State.Steers.settleClear v.checkRamOnly
    have steers := (State.Steers.checkRamOnly v).trans late
    have kept := steers.rest
    obtain ⟨-, -, sameClear, -⟩ := v.checkRamOnly_keeps
    refine ⟨v.checkRamOnly.settleClear.settle, ?_, ?_, State.eraseRefused_ground steers.ground,
      (congrArg (fun x : State => x.index.entries) kept :), (congrArg (fun x : State => x.store.erases) kept :),
      (congrArg (fun x : State => x.store.reclaims) kept :), fun few => ?_,
      .of_retired (v := v) clear rfl fun r h => quiet r (Store.mem_outstanding.mpr (.inl h))⟩
    · rw [run, State.endErase_failed, State.examineReclaim_of_clear (sameClear.trans clear)]
    · exact ((OnlyChanges.onIndexArrayStore s _ _ _).andThen steers.frame (by simp) (by simp)).settled (by simp)
    · have few : v.usableSectors.length < 2 := steers.usableSectors ▸ few
      exact late.ramOnly (State.checkRamOnly_idle few)

end Sys2Proof.Machine
end

section
/-!
PROOFS. The end of a slot program (R176 to R180): the slot it leaves, the sweep, the FULL amend of the sector, and the reclaim that may follow.
-/

namespace Sys2Proof.Machine

/-! ## Slots of a sector (R171, R172) -/

theorem NvArray.sector_modify_same {a : NvArray} {k : Nat} (h : k < a.sectors.length) (f : Sector → Sector) :
    ({ a with sectors := a.sectors.modify k f } : NvArray).sector k = f (a.sector k) := by
  simp [NvArray.sector, List.getD_eq_getElem?_getD, h]

theorem Sector.state_eq_opened {x : Sector} :
    x.state = .opened ↔ x.worn = false ∧ x.retiring = false ∧ x.sequence.isSome ∧ x.opened = true ∧ x.full = false := by
  unfold Sector.state
  split_ifs <;> simp_all

/-- An OPEN sector stays OPEN whatever its slots hold. -/
theorem Sector.opened_with_slots {x : Sector} (h : x.state = .opened) (slots : List Slot) : { x with slots := slots }.state = .opened := by
  have header := Sector.state_eq_opened.mp h
  exact Sector.state_eq_opened.mpr header

/-- Once its last slot is used a sector has no next slot (R172). -/
theorem Sector.nextSlot_of_last_used {x : Sector} {n : Nat} {c : Slot} (last : n + 1 = x.slots.length) (used : c.used = true) :
    { x with slots := x.slots.set n c }.nextSlot = none := by
  rcases List.eq_nil_or_concat x.slots with empty | ⟨front, old, slots⟩
  · simp [empty] at last
  · have atEnd : n = front.length := by simpa [slots] using last
    simp [Sector.nextSlot, Sector.extent, slots, atEnd, used]

/-! ## The FULL amend (R178, R179) -/

/-- The FULL amend of the current sector has been asked for, where the sector closes, no clear retires it and none is asked for (R178, R179, log
entry 13). -/
def State.closing (k : Nat) (closes : Bool) (u : State) : State :=
  u.onStore fun x =>
    { x with
      amends :=
        x.amends ++
          if closes && (u.sector k).state == .opened && u.store.clear.isNone && !u.store.hasAmend k .full then [⟨k, .full, false⟩] else [] }

/-- An amend asked for is one the store has. -/
theorem Store.hasAmend_of_mem {x : Store} {k : Nat} {a : Amend} {again : Bool} (h : ⟨k, a, again⟩ ∈ x.amends) : x.hasAmend k a = true :=
  List.any_eq_true.mpr ⟨_, Store.mem_outstanding.mpr (.inr h), by simp⟩

/-- Amends that wait are not lost by others that are asked for. -/
theorem Store.hasAmend_mono {x y : Store} (running : y.running = x.running) (amends : x.amends ⊆ y.amends) {k : Nat} {a : Amend}
    (h : x.hasAmend k a = true) : y.hasAmend k a = true := by
  obtain ⟨r, mem, is⟩ := List.any_eq_true.mp h
  refine List.any_eq_true.mpr ⟨r, Store.mem_outstanding.mpr ?_, is⟩
  exact (Store.mem_outstanding.mp mem).imp (running.trans ·) (amends ·)

section
variable {u : State} {k : Nat}

theorem State.closing_idle (idle : ¬ (u.store.clear = none ∧ (u.sector k).state = .opened ∧ u.store.hasAmend k .full = false))
    (closes : Bool) : u.closing k closes = u := by
  have quiet : (closes && (u.sector k).state == .opened && u.store.clear.isNone && !u.store.hasAmend k .full) = false := by
    simp only [not_and, ← Bool.not_eq_true, Decidable.not_not] at idle
    simpa [Bool.and_assoc] using fun _ opened clear => idle clear opened
  simp only [State.closing, quiet, Bool.false_eq_true, if_false, List.append_nil]
  rfl

/-- A sector that closes has its FULL amend asked for (R179). -/
theorem State.closing_hasAmend (clear : u.store.clear = none) (opened : (u.sector k).state = .opened) :
    (u.closing k true).store.hasAmend k .full = true := by
  cases has : u.store.hasAmend k .full with
  | false => exact Store.hasAmend_of_mem (again := false) (by simp [State.closing, clear, opened, has])
  | true => rwa [State.closing_idle (by simp [has])]

/-- A sector asked to close twice is asked once. -/
theorem State.closing_closing (a b : Bool) : (u.closing k a).closing k b = u.closing k (a || b) := by
  by_cases asks : u.store.clear = none ∧ (u.sector k).state = .opened
  · obtain ⟨clear, opened⟩ := asks
    cases a with
    | false => simp [State.closing, State.onStore]
    | true => exact State.closing_idle (by simp [State.closing_hasAmend clear opened]) b
  · have idle : ¬ (u.store.clear = none ∧ (u.sector k).state = .opened ∧ u.store.hasAmend k .full = false) :=
      fun ⟨clear, opened, _⟩ => asks ⟨clear, opened⟩
    simp only [State.closing_idle idle]

theorem State.closing_eq (current : u.store.current = some k) (closes : Bool) :
    (if closes then u.closeCurrent k else u) = u.closing k closes := by
  cases closes with
  | false => simp [State.closing, State.onStore]
  | true =>
    by_cases asks : u.store.clear = none ∧ (u.sector k).state = .opened ∧ u.store.hasAmend k .full = false
    · obtain ⟨clear, opened, has⟩ := asks
      simp [State.closing, State.closeCurrent, current, clear, opened, has]
      rfl
    · rw [State.closing_idle asks, if_pos rfl]
      refine if_neg fun h => asks ?_
      simp only [current, Bool.and_eq_true, beq_iff_eq, Option.isNone_iff_eq_none, Bool.not_eq_true'] at h
      obtain ⟨⟨⟨-, clear⟩, opened⟩, has⟩ := h
      exact ⟨clear, opened, has⟩
end

/-! ## What follows the slot -/

/-- A slot program of `s` has ended with this in its slot; of the entries and the store only the write itself is decided. -/
structure State.Wrote (w : SlotProgram) (c : Slot) (s v : State) : Prop where
  rest : v =
    { s with
      array := { s.array with sectors := s.array.sectors.modify w.sector fun x => { x with slots := x.slots.set w.slot c } }
      index := v.index
      store :=
        { s.store with running := none, writes := v.store.writes, retry := v.store.retry, failures := v.store.failures } }
  fields : v.index.entries.map Entry.fields = s.index.entries.map Entry.fields
  deferrals : v.index.counters.writeDeferrals = s.index.counters.writeDeferrals
  used : c.used = true

section
variable {s v : State} {w : SlotProgram} {c : Slot} (wrote : State.Wrote w c s v)
include wrote

/-- What the end of a slot program leaves, whatever follows it. -/
theorem State.Wrote.leaves (within : w.sector < s.array.sectors.length) (closes : Bool) :
    let t := (v.closing w.sector closes).examineReclaim.settle
    OnlyChanges [.index, .array, .store, .outputs] s t ∧ t.store.running = none ∧
      t.sector w.sector = { s.sector w.sector with slots := (s.sector w.sector).slots.set w.slot c } ∧
      (∀ k, k ≠ w.sector → t.sector k = s.sector k) ∧ t.array.provisioning = s.array.provisioning ∧
      t.index.entries.map Entry.fields = s.index.entries.map Entry.fields := by
  intro t
  have reclaims := State.Reclaims.examineReclaim (v.closing w.sector closes)
  have array : t.array = _ := reclaims.sees.array.trans (congrArg State.array wrote.rest :)
  refine ⟨?frame, ?running, ?same, ?others, ?provisioning, reclaims.fields.trans wrote.fields⟩
  case frame =>
    have wrote : OnlyChanges [.index, .array, .store, .outputs] s v := by
      rw [wrote.rest]
      exact .onIndexArrayStore s _ _ _
    have closed : OnlyChanges [.index, .array, .store, .outputs] s (v.closing w.sector closes) :=
      wrote.andThen (.onStore v _) (by simp) (by simp)
    exact (closed.andThen reclaims.frame (by simp) (by simp)).settled (by simp)
  case running =>
    have kept : t.store.running = v.store.running := (congrArg (fun x : State => x.store.running) reclaims.rest :)
    exact kept.trans (congrArg (fun x : State => x.store.running) wrote.rest :)
  case same => exact (congrArg (NvArray.sector · w.sector) array).trans (NvArray.sector_modify_same within _)
  case others => exact fun k other => (congrArg (NvArray.sector · k) array).trans (NvArray.sector_modify_other other _)
  case provisioning => exact (congrArg NvArray.provisioning array :)

/-- The FULL amend and the reclaim that follow (R179, R180). -/
theorem State.Wrote.follows (runs : s.store.running = some (.slotProgram w)) (closes : Bool) :
    let t := (v.closing w.sector closes).examineReclaim.settle
    let full : Bool := closes && (t.sector w.sector).state == .opened && s.store.clear.isNone && !s.store.hasAmend w.sector .full
    t.store.current = s.store.current ∧ t.store.clear = s.store.clear ∧ t.store.ramOnly = s.store.ramOnly ∧
      ReclaimFollows s t v.index.entries v.store.writes (s.store.amends ++ (if full then [⟨w.sector, .full, false⟩] else [])) s.store.erases
        s.store.reclaims := by
  intro t full
  have kept := wrote.rest
  have sees : (v.closing w.sector closes).Sees t := (State.Reclaims.examineReclaim _).sees.trans (.settle _)
  have clear : v.store.clear = s.store.clear := (congrArg (fun x : State => x.store.clear) kept :)
  have ramOnly : v.store.ramOnly = s.store.ramOnly := (congrArg (fun x : State => x.store.ramOnly) kept :)
  have outstanding : v.store.outstanding = s.store.outstanding := by
    rw [kept]
    simp [Store.outstanding, runs]
  have amends : (v.closing w.sector closes).store.amends = s.store.amends ++ (if full then [⟨w.sector, .full, false⟩] else []) := by
    have sector : t.sector w.sector = v.sector w.sector := sees.sector w.sector
    have has : v.store.hasAmend w.sector .full = s.store.hasAmend w.sector .full := by rw [Store.hasAmend, outstanding, Store.hasAmend]
    have before : v.store.amends = s.store.amends := (congrArg (fun x : State => x.store.amends) kept :)
    simp only [State.closing, full, sector, has, clear, ← before]
    rfl
  refine ⟨sees.current.trans (congrArg (fun x : State => x.store.current) kept :), sees.clear.trans clear, sees.ramOnly.trans ramOnly, ?_⟩
  have follows := ReclaimFollows.of_examineReclaim (s := s) (u := v.closing w.sector closes) (ramOnly ▸ id) wrote.deferrals
  have erases : v.store.erases = s.store.erases := (congrArg (fun x : State => x.store.erases) kept :)
  have inFlight : v.store.reclaims = s.store.reclaims := (congrArg (fun x : State => x.store.reclaims) kept :)
  rw [← amends, ← erases, ← inFlight]
  exact follows

theorem State.Wrote.sector (within : w.sector < s.array.sectors.length) :
    v.sector w.sector = { s.sector w.sector with slots := (s.sector w.sector).slots.set w.slot c } := by
  have array : v.array = _ := (congrArg State.array wrote.rest :)
  exact (congrArg (NvArray.sector · w.sector) array).trans (NvArray.sector_modify_same within _)

/-- After its last slot the sector has no next one (R172). -/
theorem State.Wrote.nextSlot_none (within : w.sector < s.array.sectors.length) (last : w.slot + 1 = (s.sector w.sector).slots.length) :
    (v.sector w.sector).nextSlot.isNone = true := by
  rw [wrote.sector within, Sector.nextSlot_of_last_used last wrote.used]
  rfl

/-- An OPEN sector that closes has its FULL amend asked for, out of a clear (R178, R179). -/
theorem State.Wrote.closes (within : w.sector < s.array.sectors.length) (clear : s.store.clear = none)
    (opened : (s.sector w.sector).state = .opened) {closes : Bool} (h : closes = true) :
    (v.closing w.sector closes).examineReclaim.settle.store.hasAmend w.sector .full = true := by
  subst h
  have kept := wrote.rest
  have reclaims := State.Reclaims.examineReclaim (v.closing w.sector true)
  have before : (v.closing w.sector true).store.hasAmend w.sector .full = true := by
    refine State.closing_hasAmend ((congrArg (fun x : State => x.store.clear) kept :).trans clear) ?_
    rw [wrote.sector within]
    exact Sector.opened_with_slots opened _
  have running : (v.closing w.sector true).examineReclaim.store.running = (v.closing w.sector true).store.running :=
    (congrArg (fun x : State => x.store.running) reclaims.rest :)
  exact Store.hasAmend_mono running reclaims.amends before
end

/-! ## The end of a slot program -/

/-- The entries once a slot program has been verified: one not changed meanwhile is persisted there (R177). -/
def SlotProgram.persisted (w : SlotProgram) (entries : List Entry) : List Entry :=
  entries.map fun e =>
    if w.touched = false ∧ e.fields.key = w.fields.key then { e with persisted := true, location := some (w.sector, w.slot) } else e

/-- A verified slot program has ended, and the sweep has followed it (R177). -/
def State.committed (w : SlotProgram) (s : State) : State :=
  { s with
    array :=
      { s.array with sectors := s.array.sectors.modify w.sector fun x => { x with slots := x.slots.set w.slot (.committed w.fields) } }
    index :=
      { entries := w.persisted s.index.entries
        counters := { s.index.counters with writesCommitted := bump s.index.counters.writesCommitted } }
    store := { s.store with running := none, writes := sweptList s.store.ramOnly (w.persisted s.index.entries) s.store.writes } }

/-- Whether a failed slot program is to be tried once more (R178). -/
def State.retries (w : SlotProgram) (s : State) : Bool := !w.retry && !w.removed && !s.store.ramOnly

/-- A failed slot program has ended: it is tried once more, or the sweep has followed it (R177, R178). -/
def State.voided (w : SlotProgram) (c : Slot) (s : State) : State :=
  { s with
    array := { s.array with sectors := s.array.sectors.modify w.sector fun x => { x with slots := x.slots.set w.slot c } }
    index := { s.index with counters := { s.index.counters with programFailures := bump s.index.counters.programFailures } }
    store :=
      { s.store with
        running := none
        failures := s.store.failures.modify w.sector (· + 1)
        retry := if s.retries w then some w.fields.key else s.store.retry
        writes := if s.retries w then s.store.writes else sweptList s.store.ramOnly s.index.entries s.store.writes } }

theorem State.voided_retry {s : State} {w : SlotProgram} (c : Slot) {again : Bool} (h : s.retries w = again) :
    (s.voided w c).store.retry = (if again then some w.fields.key else s.store.retry) ∧
      (s.voided w c).store.writes =
        if again then s.store.writes else sweptList s.store.ramOnly s.index.entries s.store.writes := by
  subst h
  exact ⟨rfl, rfl⟩

theorem SlotProgram.persisted_fields (w : SlotProgram) (entries : List Entry) :
    (w.persisted entries).map Entry.fields = entries.map Entry.fields := by
  simp only [SlotProgram.persisted, List.map_map]
  refine List.map_congr_left fun e _ => ?_
  simp only [Function.comp]
  split <;> rfl

theorem SlotProgram.mem_persisted {w : SlotProgram} {entries : List Entry} {e : Entry} (untouched : w.touched = false)
    (mem : e ∈ w.persisted entries) (key : e.fields.key = w.fields.key) :
    e.persisted = true ∧ e.location = some (w.sector, w.slot) := by
  obtain ⟨x, -, rfl⟩ := List.mem_map.mp mem
  split
  · exact ⟨rfl, rfl⟩
  · next other =>
    rw [if_neg other] at key
    exact absurd ⟨untouched, key⟩ other

/-- A reclaim of another sector leaves what is persisted in this one. -/
theorem SlotProgram.mem_reclaimed {w : SlotProgram} {entries : List Entry} {e : Entry} {k : Nat} (untouched : w.touched = false)
    (other : w.sector ≠ k) (mem : e ∈ entriesReclaimed k (w.persisted entries)) (key : e.fields.key = w.fields.key) :
    e.persisted = true ∧ e.location = some (w.sector, w.slot) := by
  obtain ⟨x, found, rfl⟩ := List.mem_map.mp mem
  have key : x.fields.key = w.fields.key := by split at key <;> exact key
  obtain ⟨persisted, location⟩ := SlotProgram.mem_persisted untouched found key
  have elsewhere : x.livesIn k = false := by simp [Entry.livesIn, location, other]
  rw [elsewhere]
  exact ⟨persisted, location⟩

theorem State.Wrote.committed (w : SlotProgram) (s : State) : State.Wrote w (.committed w.fields) s (s.committed w) :=
  ⟨rfl, w.persisted_fields _, rfl, rfl⟩

theorem State.Wrote.voided (w : SlotProgram) {c : Slot} (used : c.used = true) (s : State) : State.Wrote w c s (s.voided w c) :=
  ⟨rfl, rfl, rfl, used⟩

/-- The end of a verified write, as the model makes it. -/
theorem State.writeCommitted_eq (w : SlotProgram) (s : State) :
    (s.onStore fun x => { x with running := none }).writeCommitted w = s.committed w := by
  simp only [State.writeCommitted, State.sweepUnpersisted_eq]
  cases touched : w.touched with
  | false =>
    have same : ∀ entries : List Entry, (entries.map fun e =>
        if e.fields.key == w.fields.key then { e with persisted := true, location := some (w.sector, w.slot) } else e) =
          w.persisted entries := by simp [SlotProgram.persisted, touched]
    simp only [State.committed, ← same, State.onStore, State.onSector, State.onArray, State.countHistory, State.onIndex, Index.persist,
      Bool.false_eq_true, if_false]
  | true =>
    have same : ∀ entries : List Entry, w.persisted entries = entries := by simp [SlotProgram.persisted, touched]
    simp only [State.committed, same, State.onStore, State.onSector, State.onArray, State.countHistory, State.onIndex, if_true]

/-- The end of a failed write, as the model makes it. -/
theorem State.writeFailed_eq (w : SlotProgram) (c : Slot) (s : State) :
    (s.onStore fun x => { x with running := none }).writeFailed w c =
      if 2 ≤ (s.voided w c).store.failures.getD w.sector 0 then (s.voided w c).closeCurrent w.sector else s.voided w c := by
  let u := ((((s.onStore fun x => { x with running := none }).onSector w.sector fun x => { x with slots := x.slots.set w.slot c }).countHistory
    fun i => { i with programFailures := bump i.programFailures }).onStore fun x => { x with failures := x.failures.modify w.sector (· + 1) })
  have ends : (if !w.retry && !w.removed && !u.store.ramOnly then u.onStore fun x => { x with retry := some w.fields.key }
      else u.sweepUnpersisted) = s.voided w c := by
    have guard : (!w.retry && !w.removed && !u.store.ramOnly) = s.retries w := rfl
    rw [guard]
    cases again : s.retries w <;>
      simp only [State.voided, again, u, State.sweepUnpersisted_eq, State.onStore, State.onSector, State.onArray, State.countHistory,
        State.onIndex, if_true, if_false, Bool.false_eq_true]
  exact congrArg (fun v : State => if 2 ≤ v.store.failures.getD w.sector 0 then v.closeCurrent w.sector else v) ends

section
variable {s : State} {w : SlotProgram} (on : s.powered = true) (runs : s.store.running = some (.slotProgram w))
include on runs

theorem exec_slotProgramEnd (verify : SlotVerify) : exec (.slotProgramEnd verify) s = .next (s.slotProgramEnd verify w).settle := by
  have run : exec (.slotProgramEnd verify) s = s.occur true (State.slotProgramEnd verify w) := by
    simp only [exec, execSlotProgramEnd, runs]
  rw [run, State.occur_of_ready on rfl]

variable (current : s.store.current = some w.sector)
include current

theorem exec_slotPassed :
    exec (.slotProgramEnd .passed) s =
      .next ((s.committed w).closing w.sector ((s.committed w).sector w.sector).nextSlot.isNone).examineReclaim.settle := by
  rw [exec_slotProgramEnd on runs, State.slotProgramEnd, State.writeCommitted_eq, State.slotUsed, State.closeWhenUsed,
    State.closing_eq (u := s.committed w) current]

/-- A failed write closes the sector at its second failure, or where it has no next slot (R178, R179). -/
theorem exec_slotFailed {verify : SlotVerify} (failed : verify ≠ .passed) (within : w.sector < s.store.failures.length) :
    let v := s.voided w (if verify = .markFailed then .markFailed w.fields else .void)
    exec (.slotProgramEnd verify) s =
      .next (v.closing w.sector ((v.sector w.sector).nextSlot.isNone || 1 ≤ s.store.failures.getD w.sector 0)).examineReclaim.settle := by
  intro v
  have ends : s.slotProgramEnd verify w =
      ((s.onStore fun x => { x with running := none }).writeFailed w (if verify = .markFailed then .markFailed w.fields else .void)).slotUsed
        w.sector := by
    cases verify with
    | passed => exact absurd rfl failed
    | fieldsFailed => rfl
    | markFailed => rfl
  have second : v.store.failures.getD w.sector 0 = s.store.failures.getD w.sector 0 + 1 := by
    simp [v, State.voided, List.getD_eq_getElem?_getD, within]
  have atSecond : (if 2 ≤ v.store.failures.getD w.sector 0 then v.closeCurrent w.sector else v) =
      v.closing w.sector (1 ≤ s.store.failures.getD w.sector 0) := by
    rw [← State.closing_eq (u := v) current, second]
    simp
  rw [exec_slotProgramEnd on runs, ends, State.writeFailed_eq, atSecond, State.slotUsed, State.closeWhenUsed,
    State.closing_eq (u := v.closing _ _) current, State.closing_closing, Bool.or_comm]
  rfl
end

/-- Settles O45, by what the write leaves (`State.committed`, `State.voided`) and what follows any write (`State.Wrote`). -/
theorem slotProgramEnds : Obligations.SlotProgramEnds := by
  intro s w on runs current within slot counted follows
  refine ⟨?passed, fun verify failed => ?failed⟩
  case passed =>
    have wrote := State.Wrote.committed w s
    let closes := ((s.committed w).sector w.sector).nextSlot.isNone
    obtain ⟨frame, running, same, others, provisioning, fields⟩ := wrote.leaves within closes
    have reclaims := State.Reclaims.examineReclaim ((s.committed w).closing w.sector closes)
    refine ⟨_, exec_slotPassed on runs current, frame, running, same, others, provisioning,
      (congrArg (fun x : State => x.index.counters.writesCommitted) reclaims.rest :), fields, ?persists, ?fills, ?follows⟩
    case persists =>
      intro untouched e mem key
      have mem : e ∈ ((s.committed w).closing w.sector closes).examineReclaim.index.entries := mem
      rcases reclaims.entries with entries | ⟨k, other, entries⟩ <;> rw [entries] at mem
      · exact SlotProgram.mem_persisted untouched mem key
      · refine SlotProgram.mem_reclaimed untouched (fun same => other ?_) mem key
        rw [← same]
        exact current
    case fills => exact fun last clear opened => wrote.closes within clear opened (wrote.nextSlot_none within last)
    case follows =>
      intro entries
      rw [same, ← wrote.sector within]
      exact wrote.follows runs closes
  case failed =>
    let c : Slot := if verify = .markFailed then .markFailed w.fields else .void
    have used : c.used = true := by simp only [c]; split <;> rfl
    let v := s.voided w c
    have wrote : State.Wrote w c s v := .voided w used s
    let closes : Bool := (v.sector w.sector).nextSlot.isNone || 1 ≤ s.store.failures.getD w.sector 0
    obtain ⟨frame, running, same, others, provisioning, fields⟩ := wrote.leaves within closes
    have reclaims := State.Reclaims.examineReclaim (v.closing w.sector closes)
    have kept := reclaims.rest
    refine ⟨_, exec_slotFailed on runs current failed counted, frame, running, same, others, provisioning,
      (congrArg (fun x : State => x.index.counters.programFailures) kept :), fields,
      (congrArg (fun x : State => x.store.failures) kept :), ?follows, ?fills, ?twice⟩
    case follows =>
      have follows := wrote.follows runs closes
      have retry : (v.closing w.sector closes).examineReclaim.settle.store.retry = v.store.retry :=
        (congrArg (fun x : State => x.store.retry) kept :)
      rw [same, ← wrote.sector within]
      refine ⟨fun first ram present => ?_, fun ended => ?_⟩
      · have again : s.retries w = true := by simp [State.retries, first, ram, present]
        obtain ⟨due, list⟩ := State.voided_retry c again
        rw [list] at follows
        exact ⟨retry.trans due, follows⟩
      · have spent : s.retries w = false := by rcases ended with h | h | h <;> simp [State.retries, h]
        obtain ⟨due, list⟩ := State.voided_retry c spent
        rw [list] at follows
        exact ⟨retry.trans due, follows⟩
    case fills =>
      exact fun last clear opened => wrote.closes within clear opened (Bool.or_eq_true_iff.mpr (.inl (wrote.nextSlot_none within last)))
    case twice =>
      exact fun two clear opened => wrote.closes within clear opened (Bool.or_eq_true_iff.mpr (.inr (decide_eq_true two)))

end Sys2Proof.Machine
end

section
/-!
PROOFS. What a request that fails a common check gets (R192, R195), whichever of the fifteen it is.
-/

namespace Sys2Proof.Machine

/-! ## The command of a request -/

/-- The command that executes a request; `rate`, `verify` and `worn` are what a RESET brings. -/
def Request.command (rate : BitVec 2) (verify : SlotVerify) (worn : Nat) : Request → Instr
  | .getStatus => .getStatus
  | .getCounters => .getCounters
  | .setTime => .setTime
  | .setPosition => .setPosition
  | .loadWindow => .loadWindow
  | .muteWindow => .muteWindow
  | .readWindow => .readWindow
  | .provision => .provision
  | .lockProvision => .lockProvision
  | .acknowledge => .acknowledge
  | .fetchRecord => .fetchRecord
  | .flushAlerts => .flushAlerts
  | .configure => .configure
  | .clearHistory => .clearHistory
  | .reset => .reset rate verify worn

/-- The first byte of a payload that names a request is its code. -/
theorem byteAt_zero_of_requestOf {p : List Byte} {r : Request} (h : requestOf p = some r) : byteAt p 0 = r.code := by
  cases p with
  | nil => cases h
  | cons c p => exact (beq_iff_eq.mp (List.find?_some h :)).symm

/-- Only a reply of DONE carries data (R194). -/
theorem replyPayload_noData (code tag : Byte) (result : Result) : replyPayload code tag result [] = [code, tag, result.code] := by
  simp [replyPayload]

section
variable {s : State} {p : List Byte} {rest : List (List Byte)} {r : Request} {result : Result}

/-- A request that can be executed and answered is carried out by its command, a RESET as any other. -/
theorem State.asked.carriedOut (h : s.asked p rest) (named : requestOf p = some r) (rate : BitVec 2) (verify : SlotVerify) (worn : Nat) :
    ∃ own, exec (r.command rate verify worn) s = .next (s.carryOut r own).settle := by
  obtain ⟨powered, queue, place⟩ := h
  have free : s.management.placeFree = true := decide_eq_true place
  have ready : s.requestReady r = true := by simp [State.requestReady, queue, named, free]
  cases r with
  | reset =>
    have resets : s.resetReady = true := by simp [State.resetReady, queue, named, free]
    exact ⟨_, State.occur_of_ready powered resets⟩
  | _ => exact ⟨_, State.occur_of_ready powered ready⟩

/-- A common check that fails ends the request with its result, whatever the request is to do. -/
theorem State.carryOut_of_fails (queue : s.management.requests = p :: rest) (fails : commonCheck r s.scanning p = some result)
    (own : List Byte → State → State) : s.carryOut r own = s.popRequest.answer p result [] := by
  simp only [State.carryOut, State.headRequest, queue, List.headD_cons, fails]

/-- A request that fails a common check is answered with the check's result, and nothing else becomes of it. -/
theorem State.asked.refused (h : s.asked p rest) (named : requestOf p = some r) (rate : BitVec 2) (verify : SlotVerify) (worn : Nat)
    (fails : commonCheck r s.scanning p = some result) :
    ∃ t, exec (r.command rate verify worn) s = .next t ∧ OnlyChanges [.management, .outputs] s t ∧
      AnswersAtOnce s t rest [r.code, byteAt p 1, result.code] := by
  obtain ⟨own, run⟩ := h.carriedOut named rate verify worn
  obtain ⟨-, queue, -⟩ := id h
  rw [← byteAt_zero_of_requestOf named, ← replyPayload_noData]
  exact h.answered run (congrArg State.settle (State.carryOut_of_fails queue fails own))

/-- A request whose code names none is answered in the row of its own (R195, log entry 4). -/
theorem exec_unknownRequest (h : s.asked p rest) (unnamed : requestOf p = none) :
    exec .unknownRequest s =
      .next (s.popRequest.answer p (if p.length < 2 then .badArgument else .unknownRequest) []).settle := by
  obtain ⟨powered, queue, place⟩ := h
  have free : s.management.placeFree = true := decide_eq_true place
  have ready : s.unknownReady = true := by simp [State.unknownReady, queue, unnamed, free]
  have answer : s.answerUnknown = s.popRequest.answer p (if p.length < 2 then .badArgument else .unknownRequest) [] := by
    simp only [State.answerUnknown, State.headRequest, queue, List.headD_cons]
  rw [← answer]
  exact State.occur_of_ready powered ready
end

/-! ## The checks in their order (R195) -/

section
variable {p : List Byte} {r : Request} {scanning : Bool}

theorem commonCheck_of_short (short : p.length < 2) : commonCheck r scanning p = some .badArgument := if_pos short

theorem commonCheck_of_scanning (whole : 2 ≤ p.length) (scan : scanning = true) (other : r ≠ .getStatus) :
    commonCheck r scanning p = some .scanning :=
  (if_neg (Nat.not_lt.mpr whole)).trans (if_pos (by simp [scan, other]))

theorem commonCheck_of_wrongLength (whole : 2 ≤ p.length) (idle : scanning = false ∨ r = .getStatus)
    (wrong : p.length ≠ r.arguments + 2) : commonCheck r scanning p = some .badArgument := by
  have passes : ¬ (scanning && r != .getStatus) = true := by rcases idle with rfl | rfl <;> simp
  exact (if_neg (Nat.not_lt.mpr whole)).trans ((if_neg passes).trans (if_pos wrong))
end

/-- Settles O29: a code that names no request by `exec_unknownRequest`, each of the fifteen requests by the check it fails
(`State.asked.refused`). -/
theorem commonChecksComeFirst : Obligations.CommonChecksComeFirst := by
  intro s p rest h
  refine ⟨fun short unnamed => ?missing, fun whole unnamed => ?unknown, fun rate verify worn r c row named => ?named⟩
  case missing =>
    have run := exec_unknownRequest h unnamed
    rw [if_pos short] at run
    exact h.answered run rfl
  case unknown =>
    have run := exec_unknownRequest h unnamed
    rw [if_neg (Nat.not_lt.mpr whole)] at run
    exact h.answered run rfl
  case named =>
    have row : (r, c) ∈ Request.all.map fun r => (r, r.command rate verify worn) := row
    obtain ⟨_, -, same⟩ := List.mem_map.mp row
    obtain ⟨rfl, rfl⟩ := Prod.mk.inj same
    refine ⟨fun short => ?_, fun whole scan other => ?_, fun whole idle wrong => ?_⟩
    · have untagged : byteAt p 1 = 0 := List.getD_eq_default p 0 (by omega)
      have refused := h.refused named rate verify worn (commonCheck_of_short short)
      rwa [untagged] at refused
    · exact h.refused named rate verify worn (commonCheck_of_scanning whole scan other)
    · exact h.refused named rate verify worn (commonCheck_of_wrongLength whole idle wrong)

end Sys2Proof.Machine
end

section
/-!
PROOFS. SET TIME (R83, R198): entries that stand in the index put again one after another, and the restamp as one such putting.
-/

namespace Sys2Proof.Machine

/-! ## Entries put again (R75, R176) -/

theorem Index.find_of_key {x : Index} {k : Key} (h : k ∈ x.entries.map fun e => e.fields.key) : ∃ e, x.find k = some e :=
  Option.ne_none_iff_exists'.mp fun none => Index.find_eq_none_iff.mp none (x.titles_keys ▸ h)

/-- An entry after these fields have been put: it takes those of its key, and is unpersisted with them. -/
def Entry.renewedBy (fs : List EntryFields) (e : Entry) : Entry :=
  match fs.find? fun f => f.key == e.fields.key with
  | some f => { e with fields := f, persisted := false }
  | none => e

section
variable {fs : List EntryFields} {f : EntryFields} {e : Entry}

theorem Entry.renewedBy_of_mem (distinct : (fs.map EntryFields.key).Nodup) (mem : f ∈ fs) (same : f.key = e.fields.key) :
    e.renewedBy fs = { e with fields := f, persisted := false } := by
  have stands : (fs.find? fun f => f.key == e.fields.key).isSome = true := List.find?_isSome.mpr ⟨f, mem, beq_iff_eq.mpr same⟩
  obtain ⟨g, found⟩ := Option.isSome_iff_exists.mp stands
  have key : g.key = e.fields.key := beq_iff_eq.mp (List.find?_some found :)
  have first : g = f := List.inj_on_of_nodup_map distinct (List.mem_of_find?_eq_some found) mem (key.trans same.symm)
  rw [Entry.renewedBy, found, first]

theorem Entry.renewedBy_of_absent (absent : e.fields.key ∉ fs.map EntryFields.key) : e.renewedBy fs = e := by
  have none : (fs.find? fun f => f.key == e.fields.key) = none :=
    List.find?_eq_none.mpr fun f hf same => absent (List.mem_map.mpr ⟨f, hf, beq_iff_eq.mp same⟩)
  rw [Entry.renewedBy, none]

/-- The first fields put are not put over by later ones of other keys. -/
theorem Entry.renewedBy_cons (new : f.key ∉ fs.map EntryFields.key) (e : Entry) :
    (if e.fields.key = f.key then { e with fields := f, persisted := false } else e).renewedBy fs = e.renewedBy (f :: fs) := by
  by_cases same : e.fields.key = f.key
  · have found : ((f :: fs).find? fun f => f.key == e.fields.key) = some f := List.find?_cons_of_pos (by simp [same])
    rw [if_pos same, Entry.renewedBy_of_absent new, Entry.renewedBy, found]
  · rw [if_neg same, Entry.renewedBy, Entry.renewedBy, List.find?_cons_of_neg (by simpa using Ne.symm same)]
end

/-- The state with entries put again, before their keys are offered. -/
def State.putAgain (fs : List EntryFields) (s : State) : State :=
  { s with
    index := { s.index with entries := s.index.entries.map (Entry.renewedBy fs) }
    store := { s.store with running := s.store.running.map (Running.touchAll (fs.map EntryFields.key)) } }

theorem State.putAgain_nil (s : State) : s.putAgain [] = s := by
  have untouched : s.store.running.map (Running.touchAll []) = s.store.running :=
    (congrArg (Option.map · _) (funext Running.touchAll_nil)).trans Option.map_id'
  have kept : s.index.entries.map (Entry.renewedBy []) = s.index.entries := List.map_id _
  simp [State.putAgain, untouched, kept]

theorem State.putAgain_cons {s : State} {f : EntryFields} {e : Entry} (present : s.index.find f.key = some e) {fs : List EntryFields}
    (new : f.key ∉ fs.map EntryFields.key) : (s.afterPut f).putAgain fs = s.putAgain (f :: fs) := by
  simp [State.afterPut, State.putAgain, State.onIndex, State.onStore, Store.touch, Index.put_of_present present, Option.map_map,
    Function.comp_def, Running.touchAll_touch, Entry.renewedBy_cons new]

/-- An offer and the putting of entries again leave each other be. -/
theorem State.offer_putAgain (k : Key) (fs : List EntryFields) (s : State) : (s.offer k).putAgain fs = (s.putAgain fs).offer k := by
  unfold State.offer
  simp only [apply_ite (State.putAgain fs)]
  rfl

/-- An entry put again leaves the keys of the index as they stand. -/
theorem State.putEntry_keys {s : State} {f : EntryFields} {e : Entry} (present : s.index.find f.key = some e) :
    ((s.putEntry f).index.entries.map fun e => e.fields.key) = s.index.entries.map fun e => e.fields.key := by
  rw [State.putEntry_entries, Index.put_of_present present, List.map_map]
  refine List.map_congr_left fun y _ => ?_
  by_cases same : y.fields.key = f.key <;> simp [same]

/-- Entries of different keys of the index, put again one after another, stand as if put at once and their keys offered then. -/
theorem State.foldl_putEntry_again {fs : List EntryFields} (distinct : (fs.map EntryFields.key).Nodup) (s : State)
    (present : ∀ f ∈ fs, ∃ e, s.index.find f.key = some e) :
    fs.foldl (fun s f => s.putEntry f) s = (s.putAgain fs).offerAll (fs.map EntryFields.key) := by
  induction fs generalizing s with
  | nil => rw [State.putAgain_nil]; rfl
  | cons f fs ih =>
    obtain ⟨new, distinct⟩ := List.nodup_cons.mp distinct
    obtain ⟨e, found⟩ := present f List.mem_cons_self
    have later (g : EntryFields) (hg : g ∈ fs) : ∃ e, (s.putEntry f).index.find g.key = some e := by
      obtain ⟨d, stood⟩ := present g (List.mem_cons_of_mem f hg)
      obtain ⟨mem, key⟩ := Index.find_some stood
      refine Index.find_of_key ?_
      rw [State.putEntry_keys found]
      exact List.mem_map.mpr ⟨d, mem, key⟩
    rw [List.foldl_cons, ih distinct _ later]
    change State.offerAll _ (((s.afterPut f).offer f.key).putAgain fs) = _
    rw [State.offer_putAgain, State.putAgain_cons found new]
    rfl

/-! ## The restamp (R83) -/

/-- The keys of the entries whose time-unset flag is set, in index order. -/
def Index.unsetKeys (x : Index) : List Key := (x.entries.filter fun e => e.fields.timeUnset).map fun e => e.fields.key

/-- The fields of an entry with a new time of entry. -/
def EntryFields.restamped (t : Timebase) (f : EntryFields) : EntryFields := t.stamp f.key f.revision f.state f.horizon

/-- The fields that the restamp puts: those of the entries whose time-unset flag is set, in index order. -/
def Index.restamped (x : Index) (t : Timebase) : List EntryFields :=
  (x.entries.filter fun e => e.fields.timeUnset).map fun e => e.fields.restamped t

theorem Index.restamped_keys (x : Index) (t : Timebase) : (x.restamped t).map EntryFields.key = x.unsetKeys := List.map_map

section
variable {s : State} (distinct : (s.index.entries.map fun e => e.fields.key).Nodup)
include distinct

theorem Index.unsetKeys_nodup : s.index.unsetKeys.Nodup := distinct.sublist (List.filter_sublist.map _)

/-- The restamp puts its entries at once and offers their keys then. -/
theorem State.restamp_eq :
    s.restamp =
      (s.putAgain (s.index.restamped s.time)).afterOffers
        ((s.putAgain (s.index.restamped s.time)).store.newKeys s.index.unsetKeys) := by
  have fields : s.restamp = (s.index.restamped s.time).foldl (fun s f => s.putEntry f) s :=
    State.foldl_putEntry_stamped (fun t (e : Entry) => e.fields.restamped t) _ s
  have keys := Index.unsetKeys_nodup distinct
  rw [fields, State.foldl_putEntry_again (s.index.restamped_keys s.time ▸ keys), s.index.restamped_keys, State.offerAll_eq keys]
  intro f hf
  obtain ⟨e, he, rfl⟩ := List.mem_map.mp hf
  exact Index.find_of_key (List.mem_map_of_mem (List.mem_filter.mp he).1)

/-- An entry of the index takes its own new fields where its time-unset flag is set, and stays as it is where it is not. -/
theorem Entry.renewedBy_restamped {e : Entry} (he : e ∈ s.index.entries) :
    e.renewedBy (s.index.restamped s.time) =
      if e.fields.timeUnset then { e with persisted := false, fields := e.fields.restamped s.time } else e := by
  by_cases unset : e.fields.timeUnset = true
  · have keys : ((s.index.restamped s.time).map EntryFields.key).Nodup := s.index.restamped_keys s.time ▸ Index.unsetKeys_nodup distinct
    rw [if_pos unset]
    exact Entry.renewedBy_of_mem keys (List.mem_map_of_mem (List.mem_filter.mpr ⟨he, unset⟩)) rfl
  · rw [if_neg unset]
    refine Entry.renewedBy_of_absent fun mem => ?_
    rw [Index.restamped_keys] at mem
    obtain ⟨d, hd, same⟩ := List.mem_map.mp mem
    obtain ⟨hd, unsetToo⟩ := List.mem_filter.mp hd
    have own : d = e := List.inj_on_of_nodup_map distinct hd he same
    exact unset (own ▸ unsetToo)

/-- The restamp, as the statements say it (R83, R176). -/
theorem EntriesPut.of_restamp : EntriesPut s s.restamp (fun _ => false) s.store.writes s.index.unsetKeys := by
  rw [State.restamp_eq distinct]
  refine ⟨KeysOffered.of_offers (u := s.putAgain (s.index.restamped s.time)) rfl rfl rfl rfl, ?_⟩
  have touched : (s.putAgain (s.index.restamped s.time)).store.running = s.store.running.map (Running.touchAll s.index.unsetKeys) := by
    rw [← s.index.restamped_keys s.time]
    rfl
  refine touched.trans (Option.map_congr fun x _ => ?_)
  cases x <;> simp [Running.touchAll]

theorem State.restamp_entries :
    s.restamp.index.entries = s.index.entries.map fun e =>
      if e.fields.timeUnset then { e with persisted := false, fields := e.fields.restamped s.time } else e := by
  rw [State.restamp_eq distinct]
  exact List.map_congr_left fun e he => Entry.renewedBy_restamped distinct he
end

/-! ## SET TIME (R198) -/

theorem OnlyChanges.onTime (s : State) (f : Timebase → Timebase) : OnlyChanges [.time] s (s.onTime f) := by
  intro x hx
  cases x <;> simp_all [Piece.same]

theorem OnlyChanges.restamp (s : State) : OnlyChanges [.index, .store, .outputs] s s.restamp := .foldl_putEntry _ _ s

theorem exec_setTime {s : State} {tag b3 b2 b1 b0 : Byte} {rest : List (List Byte)} (h : s.asked [0x03, tag, b3, b2, b1, b0] rest)
    (hs : s.scanning = false) :
    exec .setTime s = .next (s.popRequest.setTime [0x03, tag, b3, b2, b1, b0]).settle :=
  State.occur_request State.setTime h rfl (by rw [hs]; rfl)

/-- Settles O32: wall time is set, and the restamp that follows is one putting of its entries (`State.restamp_eq`). -/
theorem setTimeRestampsEntries : Obligations.SetTimeRestampsEntries := by
  intro s tag b3 b2 b1 b0 rest h hs distinct wall
  let timed := s.popRequest.onTime fun t => { t with wall := wall, timeSet := true }
  have restamped : OnlyChanges [.index, .store, .outputs] timed timed.restamp := .restamp timed
  have taken : OnlyChanges [.time, .management] s timed := (OnlyChanges.onManagement s _).andThen (.onTime _ _) (by simp) (by simp)
  have changed : OnlyChanges [.time, .index, .store, .management, .outputs] s timed.restamp := taken.andThen restamped (by simp) (by simp)
  have entries := State.restamp_entries (s := timed) distinct
  have puts := EntriesPut.of_restamp (s := timed) distinct
  refine ⟨_, exec_setTime h hs, (changed.andThen (.onManagement _ _) (by simp) (by simp)).settled (by simp),
    h.answersAfter (restamped .management (by simp)) .done [], restamped .time (by simp), entries, puts⟩

end Sys2Proof.Machine
end

section
/-!
PROOFS. The queue of commands and its idling (log entry 3).
-/

namespace Sys2Proof.Machine

theorem step_of_pending_nil {s : State} (idle : s.pending = []) : step s = .next s := by
  simp only [step, idle]

theorem step_of_pending_cons {s : State} {c : Instr} {rest : List Instr} (queue : s.pending = c :: rest) :
    step s = exec c { s with pending := rest } := by
  simp only [step, queue]

/-- A command put in front is executed on the very state it was put to: taking it gives the queue back as it was. -/
theorem step_enqueueFront (c : Instr) (s : State) : step (s.enqueueFront c) = exec c s :=
  step_of_pending_cons (State.enqueueFront_pending s c)

/-- Settles O1, one rule of `step` for each form of the queue. -/
theorem stepRunsTheFrontCommand : Obligations.StepRunsTheFrontCommand where
  left _ _ _ := step_of_pending_cons rfl
  right := ⟨step_enqueueFront, fun _ => step_of_pending_nil⟩

end Sys2Proof.Machine
end
